-- ==== Sys2Proof/Word.lean ====
section
/-! DEFINITION. The word types of the part and tables of a fixed number of records (00_scope "Conventions"). -/

namespace Sys2Proof

/-- One byte of a frame (R194, R196). -/
abbrev Byte := BitVec 8

/-- A drop index, 0 to 15: A1 to A8 are 0 to 7 and B1 to B8 are 8 to 15 (00_scope "Drops"). -/
abbrev Drop := Fin 16

/-- Text as its 7-bit character codes (R192). -/
abbrev Text := List Nat

/-- Entry `i` of a table of `n` records. -/
def vget {α : Type} {n : Nat} (v : Vector α n) (i : Fin n) : α := v[i]

/-- The table with entry `i` replaced. -/
def vput {α : Type} {n : Nat} (v : Vector α n) (i : Fin n) (x : α) : Vector α n := v.set i x

/-- The absolute difference of two numbers. -/
def absDiff (a b : Nat) : Nat := (a - b) + (b - a)

/-- A number held to a range: below it takes the least value, above it the greatest. -/
def clamp (lo hi n : Nat) : Nat := min hi (max lo n)

end Sys2Proof
end

