-- ==== Sys2Proof/Syntax.lean ====
section
/-! DEFINITION. The commands of the part, one constructor of `Instr` per row of spec/opcode_table.json, and the types of
their operands. A request of the host or of a drop carries its fields raw, as numbers of any size: the owner's rule
checks their ranges. -/

namespace Sys2Proof

/-! ## Common values -/

/-- The five position kinds of a layout row (01 "Positions, rows and segments"; codes in R192). -/
inductive PosKind where
  | standard | premium | wheelchair | companion | aisle
  deriving DecidableEq, Repr

/-- The four seat kinds: the position kinds that are seats (R63). -/
inductive SeatKind where
  | standard | premium | wheelchair | companion
  deriving DecidableEq, Repr

/-- The six concessions (R63). -/
inductive Concession where
  | adult | child | senior | student | member | companion
  deriving DecidableEq, Repr

/-- A seat address: row index and position (00_scope "Seats"; R192). -/
structure SeatAddr where
  row : Nat
  pos : Nat
  deriving DecidableEq, Repr

/-- Site time: a day number and a second of the day (00_scope "Site time"). -/
structure SiteTime where
  day : Nat
  second : Nat
  deriving DecidableEq, Repr

/-- The four straps (R188): STORE fitted, LINES both enabled, LINE_RATE and HOST_RATE at the higher rate. -/
structure Straps where
  store : Bool
  bothLines : Bool
  lineRateHigh : Bool
  hostRateHigh : Bool
  deriving DecidableEq, Repr

/-- The two kiosk lines (R165). -/
inductive LineId where
  | a | b
  deriving DecidableEq, Repr

/-- The part state (R188). -/
inductive PartState where
  | starting | needCounters | ready
  deriving DecidableEq, Repr

/-- The reply codes (R201). -/
inductive Code where
  | ok | partialDone | clamped | badRequest | badValue | starting | needCounters | wrongState | wrongDrop
  | inUse | notLoading | rowOrder | tooManySeats | layoutNotReady | duplicate | screeningsFull | noScreening
  | notOpen | closed | noSeat | notFree | notBlocked | notSold
  | noBasket | staleBasket | inTender | mixedScreening | basketFull | noLine | noExtension | companionRule
  | loneSeat | noRun | attemptsUsed | withdrawn | priceChanged | noFare | ceiling | noItem
  | journalFull | vouchersFull | printFull | noPrinter | counterLimit | counterEnd | noTender | tooLate
  | cancelled | mismatch | late | unknownTender
  | empty | notOldest | badCode | unknown | void | already | expired | redeemed | valid | notIssued | reserved
  | noRoom | clockStep
  deriving DecidableEq, Repr, Inhabited

/-- The body of a request or report as its owner gets it: absent when the body's length is not the length its kind
requires (R195, R197). -/
abbrev Body (α : Type) := Option α

/-! ## Host requests -/

/-- What a reply echoes of its request's frame: the tag and the kind byte (R194, R195). -/
structure HostTag where
  tag : BitVec 16
  kind : Byte
  deriving DecidableEq, Repr

/-- LAYOUT_BEGIN (R3). -/
structure LayoutBeginReq where
  index : Nat
  rowCount : Nat
  ideal : Nat
  centre : Nat
  deriving DecidableEq, Repr

/-- LAYOUT_ROW (R4). The kinds are codes of R192. -/
structure LayoutRowReq where
  index : Nat
  row : Nat
  label : Text
  kinds : List Nat
  deriving DecidableEq, Repr

/-- SCREENING_LOAD (R7). `gapGuard` is absent when the field is neither on nor off. -/
structure ScreeningLoadReq where
  number : Nat
  layout : Nat
  startDay : Nat
  startMinute : Nat
  lateSale : Nat
  band : Nat
  surcharge : Nat
  gapGuard : Option Bool
  deriving DecidableEq, Repr

/-- SEAT_BLOCK, SEAT_UNBLOCK and SEAT_REFUND (R17). -/
structure SeatListReq where
  screening : Nat
  seats : List SeatAddr
  deriving DecidableEq, Repr

/-- SEAT_SELL (R19). -/
structure SeatSellReq where
  screening : Nat
  sale : Nat
  seats : List SeatAddr
  deriving DecidableEq, Repr

/-- SEAT_QUERY (R21). -/
structure SeatQueryReq where
  screening : Nat
  row : Nat
  deriving DecidableEq, Repr

/-- TARIFF_LOAD (R64): 24 entries in kind order and, within each kind, in concession order; absent means EMPTY. -/
structure TariffReq where
  band : Nat
  entries : Vector (Option Nat) 24
  deriving DecidableEq, Repr

/-- A VALID daypart (R65). -/
structure Daypart where
  start : Nat
  factor : Nat
  deriving DecidableEq, Repr

/-- DAYPART_LOAD (R65): all four slots; absent means EMPTY. -/
structure DaypartReq where
  slots : Vector (Option Daypart) 4
  deriving DecidableEq, Repr

/-- The action of an overlay (R66). -/
inductive OverlayAction where
  | replace (fare : Nat)
  | scale (factor : Nat)
  deriving DecidableEq, Repr

/-- The contents of an ACTIVE overlay as OVERLAY_SET carries them (R66): an absent match field is ANY; kinds and
concessions are codes of R192. -/
structure OverlayFields where
  band : Option Nat
  kind : Option Nat
  concession : Option Nat
  screening : Option Nat
  action : OverlayAction
  deriving DecidableEq, Repr

/-- OVERLAY_SET (R66): absent contents mean EMPTY. -/
structure OverlayReq where
  slot : Nat
  contents : Option OverlayFields
  deriving DecidableEq, Repr

/-- The VALID contents of a catalogue item (R67). -/
structure ItemFields where
  price : Nat
  combo : Bool
  minutes : Nat
  deriving DecidableEq, Repr

/-- One item setting of CATALOGUE_LOAD (R67): absent contents mean EMPTY. -/
structure ItemSetting where
  item : Nat
  contents : Option ItemFields
  deriving DecidableEq, Repr

/-- FARE_QUOTE (R80); kind and concession are codes of R192. -/
structure FareQuoteReq where
  band : Nat
  kind : Nat
  concession : Nat
  minute : Nat
  surcharge : Nat
  screening : Nat
  deriving DecidableEq, Repr

/-- AUTH_RESULT (R105, R195): outcome 1 is APPROVED and 2 is DECLINED. -/
structure AuthResultReq where
  sale : Nat
  outcome : Nat
  amount : Nat
  approval : Text
  deriving DecidableEq, Repr

/-- COUNTER_BASE (R129). -/
structure CounterBaseReq where
  sale : Nat
  voucher : Nat
  deriving DecidableEq, Repr

/-- PRINT_REDIRECT (R160). -/
structure PrintRedirectReq where
  source : Nat
  target : Nat
  deriving DecidableEq, Repr

/-- The kind of a drop (R165). -/
inductive DropKind where
  | none | kiosk | counter
  deriving DecidableEq, Repr

/-- The reader supply of a drop (R165): 3 V ONLY or 3 V AND 5 V. -/
inductive ReaderSupply where
  | only3V | both
  deriving DecidableEq, Repr

/-- DROP_CONFIG (R166): a kind or supply that is not one of its values is absent. -/
structure DropConfigReq where
  drop : Nat
  kind : Option DropKind
  supply : Option ReaderSupply
  deriving DecidableEq, Repr

/-- The rounding modes (R68, R74). -/
inductive Rounding where
  | nearestEven | nearestUp | down | up
  deriving DecidableEq, Repr

/-- SET_SITE (R187): every site setting at once. A rounding mode, mask (set means masked) or print-later value that is
not one of its values is absent. -/
structure SiteReq where
  rounding : Option Rounding
  noFareMasked : Option Bool
  ceilingMasked : Option Bool
  lineCeiling : Nat
  houseFare : Nat
  rebate : Nat
  seatTax : Nat
  snackTax : Nat
  printLater : Option Bool
  backlog : Nat
  retention : Nat
  hold : Nat
  cardWait : Nat
  authTimeout : Nat
  deriving DecidableEq, Repr

/-- A notice level: OFF or a number, in range when at most 3 (R183). -/
inductive Level where
  | off
  | value (n : Nat)
  deriving DecidableEq, Repr

/-- The seven notice levels (R183), carried by NOTICE_LEVELS and held by the HLC. -/
structure Levels where
  authRequest : Level
  journal : Level
  dropState : Level
  printer : Level
  screening : Level
  store : Level
  linkError : Level
  deriving DecidableEq, Repr

/-! ## Drop requests and reports -/

/-- One seat of a SELECT with its concession as a code of R192 (R29). -/
structure SeatChoice where
  addr : SeatAddr
  concession : Nat
  deriving DecidableEq, Repr

/-- SELECT (R29). -/
structure SelectReq where
  serial : Nat
  screening : Nat
  seats : List SeatChoice
  deriving DecidableEq, Repr

/-- BEST (R52): kind and concessions are codes of R192; an absent row range is every row. -/
structure BestReq where
  serial : Nat
  screening : Nat
  count : Nat
  kind : Nat
  concessions : List Nat
  range : Option (Nat × Nat)
  split : Bool
  deriving DecidableEq, Repr

/-- SNACK_ADD (R30). -/
structure SnackReq where
  serial : Nat
  item : Nat
  deriving DecidableEq, Repr

/-- VOID_LINE (R32). -/
structure VoidLineReq where
  serial : Nat
  slot : Nat
  deriving DecidableEq, Repr

/-- The four reader contacts; set means made (05 "The reader and its reports"). -/
structure Contacts where
  detect1 : Bool
  detect2 : Bool
  sense1 : Bool
  sense2 : Bool
  deriving DecidableEq, Repr

/-- A card token: scheme code 0 to 15 and 16 opaque bytes (R93). -/
structure Token where
  scheme : Fin 16
  bytes : Vector Byte 16
  deriving DecidableEq, Repr

/-- The tag of a print item: sale number and item index (R148). -/
structure PrintTag where
  sale : Nat
  index : Nat
  deriving DecidableEq, Repr

/-- The condition a printer STATUS report carries (R157). -/
inductive PrinterCondition where
  | ready | paperOut | coverOpen
  deriving DecidableEq, Repr

/-- A printer STATUS report (R157). -/
structure PrinterReport where
  condition : PrinterCondition
  paperLow : Bool
  deriving DecidableEq, Repr

/-- A drop's answer to a visit as it arrives (R172, R196): the 9-bit address character, control, length, body and CRC. -/
structure Answer where
  addr : BitVec 9
  control : Byte
  length : Byte
  body : List Byte
  crc : BitVec 16
  deriving DecidableEq, Repr

/-! ## Orders between the blocks -/

/-- One seat line to price (R70): the inputs of the six stages. -/
structure SeatQuery where
  screening : Nat
  band : Nat
  surcharge : Nat
  minute : Nat
  kind : SeatKind
  concession : Concession
  deriving DecidableEq, Repr

/-- A kept line of a price order (R70). -/
inductive KeptLine where
  | seat (amount : Nat)
  | snack (item amount : Nat)
  deriving DecidableEq, Repr

/-- A line to price of a price order (R70). -/
inductive ToPrice where
  | seat (q : SeatQuery)
  | snack (item : Nat)
  deriving DecidableEq, Repr

/-- The mode of a price order (R70). -/
inductive PriceMode where
  | allOrNothing | voidRefused
  deriving DecidableEq, Repr

/-- A price order (R70). -/
structure PriceOrder where
  kept : List KeptLine
  lines : List ToPrice
  mode : PriceMode
  deriving DecidableEq, Repr

/-- The phases of the reservation protocol (R95). -/
inductive Phase where
  | journal | voucher | print
  deriving DecidableEq, Repr

/-- What a grant answer allots (R95). -/
inductive Grant where
  | journal (sale : Nat)
  | voucher (first count : Nat)
  | print (count : Nat)
  deriving DecidableEq, Repr

/-- The outcomes of a tender session (R99) and the causes of UNFREEZE (R46). -/
inductive TenderOutcome where
  | refused (code : Code)
  | cancelled | cardTimeout | declined | mismatch | authTimeout | sold
  deriving DecidableEq, Repr

/-- A tender start (R45, R94). -/
structure TenderStart where
  serial : Nat
  frozen : Nat
  seats : Nat
  snacks : Nat
  attempts : Nat
  deriving DecidableEq, Repr

/-- The payment of a COMMIT (R47): CARD with approval code and scheme code, or NONE. -/
inductive Payment where
  | card (approval : Text) (scheme : Fin 16)
  | none
  deriving DecidableEq, Repr

/-- COMMIT (R47). -/
structure CommitOrder where
  serial : Nat
  sale : Nat
  payment : Payment
  firstVoucher : Option Nat
  deriving DecidableEq, Repr

/-- The four price flags of a basket (R23). -/
structure PriceFlags where
  inexact : Bool
  noFare : Bool
  ceiling : Bool
  floor : Bool
  deriving DecidableEq, Repr

/-- The six totals of a basket (R78). -/
structure Totals where
  seatSum : Nat
  snackSum : Nat
  rebate : Nat
  gross : Nat
  seatTax : Nat
  snackTax : Nat
  deriving DecidableEq, Repr

/-- A seat entry of a sale record (R48, R112). -/
structure SeatEntry where
  label : Text
  number : Nat
  kind : SeatKind
  concession : Concession
  amount : Nat
  deriving DecidableEq, Repr

/-- A snack entry of a sale record (R48, R112). -/
structure SnackEntry where
  item : Nat
  serial : Nat
  amount : Nat
  deriving DecidableEq, Repr

/-- A sale record (R48): SALE when the payment is CARD, ZERO_SALE when it is NONE. -/
structure SaleRecord where
  sale : Nat
  drop : Drop
  serial : Nat
  screening : Option Nat
  time : SiteTime
  seats : List SeatEntry
  snacks : List SnackEntry
  totals : Totals
  flags : PriceFlags
  withdrawn : Bool
  payment : Payment
  deriving DecidableEq, Repr

/-- A timeout void order (R108). -/
structure TimeoutVoid where
  sale : Nat
  drop : Drop
  serial : Nat
  frozen : Nat
  time : SiteTime
  deriving DecidableEq, Repr

/-- The bound screening of an issue order: number and start (R48). -/
structure ScreeningStart where
  number : Nat
  day : Nat
  minute : Nat
  deriving DecidableEq, Repr

/-- One line of an issue order (R136). -/
structure IssueLine where
  item : Nat
  serial : Nat
  amount : Nat
  minutes : Nat
  deriving DecidableEq, Repr

/-- An issue order (R136). -/
structure IssueOrder where
  sale : Nat
  time : SiteTime
  screening : Option ScreeningStart
  lines : List IssueLine
  deriving DecidableEq, Repr

/-- One line of a receipt's summary (R148). -/
inductive SummaryLine where
  | seat (label : Text) (number : Nat) (concession : Concession) (amount : Nat)
  | snack (item amount : Nat)
  deriving DecidableEq, Repr

/-- A TICKET (R148). -/
structure Ticket where
  sale : Nat
  index : Nat
  screening : Nat
  startDay : Nat
  startMinute : Nat
  auditorium : Nat
  label : Text
  number : Nat
  concession : Concession
  amount : Nat
  deriving DecidableEq, Repr

/-- A RECEIPT (R148): a voucher code is its ten digits. -/
structure Receipt where
  sale : Nat
  index : Nat
  lines : List SummaryLine
  gross : Nat
  seatTax : Nat
  snackTax : Nat
  approval : Option Text
  codes : List (List Nat)
  deriving DecidableEq, Repr

/-- A print item (R148). -/
inductive PrintItem where
  | ticket (t : Ticket)
  | receipt (r : Receipt)
  deriving DecidableEq, Repr

/-! ## The commands -/

/-- The commands of the part, in the order of spec/opcode_table.json. -/
inductive Instr where
  | powerOnReset (straps : Straps)
  | pinReset (straps : Straps)
  | hostByteReceived (b : Byte)
  | hostRequestTake
  | unknownRequestKind (h : HostTag)
  | hostFrameEnd
  | layoutBegin (h : HostTag) (req : Body LayoutBeginReq)
  | layoutRow (h : HostTag) (req : Body LayoutRowReq)
  | screeningLoad (h : HostTag) (req : Body ScreeningLoadReq)
  | screeningOpen (h : HostTag) (number : Body Nat)
  | screeningClose (h : HostTag) (number : Body Nat)
  | screeningWithdraw (h : HostTag) (number : Body Nat)
  | screeningUnload (h : HostTag) (number : Body Nat)
  | seatBlock (h : HostTag) (req : Body SeatListReq)
  | seatUnblock (h : HostTag) (req : Body SeatListReq)
  | seatSell (h : HostTag) (req : Body SeatSellReq)
  | seatRefund (h : HostTag) (req : Body SeatListReq)
  | seatQuery (h : HostTag) (req : Body SeatQueryReq)
  | tariffLoad (h : HostTag) (req : Body TariffReq)
  | daypartLoad (h : HostTag) (req : Body DaypartReq)
  | overlaySet (h : HostTag) (req : Body OverlayReq)
  | catalogueLoad (h : HostTag) (req : Body (List ItemSetting))
  | fareQuote (h : HostTag) (req : Body FareQuoteReq)
  | authResult (h : HostTag) (req : Body AuthResultReq)
  | journalRead (h : HostTag) (req : Body Unit)
  | journalTake (h : HostTag) (sale : Body Nat)
  | counterBase (h : HostTag) (req : Body CounterBaseReq)
  | voucherVoid (h : HostTag) (serial : Body Nat)
  | voucherQuery (h : HostTag) (serial : Body Nat)
  | printRedirect (h : HostTag) (req : Body PrintRedirectReq)
  | printFlush (h : HostTag) (drop : Body Nat)
  | dropConfig (h : HostTag) (req : Body DropConfigReq)
  | dropKindChangeTdu (d : Drop) (kind : DropKind)
  | dropKindChangePru (d : Drop) (kind : DropKind)
  | dropReset (h : HostTag) (drop : Body Nat)
  | status (h : HostTag) (req : Body Unit)
  | setClock (h : HostTag) (time : Body SiteTime)
  | setSite (h : HostTag) (req : Body SiteReq)
  | noticeLevels (h : HostTag) (req : Body Levels)
  | restart (h : HostTag)
  | clockSecond
  | holdExpiry (d : Drop)
  | cardWaitTimeout (d : Drop)
  | authTimeout (d : Drop)
  | select (d : Drop) (req : Body SelectReq)
  | best (d : Drop) (req : Body BestReq)
  | snackAdd (d : Drop) (req : Body SnackReq)
  | undo (d : Drop) (serial : Body Nat)
  | voidLine (d : Drop) (req : Body VoidLineReq)
  | extend (d : Drop) (serial : Body Nat)
  | view (d : Drop) (serial : Body Nat)
  | clear (d : Drop) (serial : Body Nat)
  | tender (d : Drop) (serial : Body Nat)
  | priceOrder (o : PriceOrder)
  | tenderStart (d : Drop) (t : TenderStart)
  | reservationGrant (d : Drop) (ref : Nat) (g : Grant)
  | reservationRefusal (d : Drop) (ref : Nat) (phase : Phase) (code : Code)
  | journalGrantRequest (d : Drop) (ref : Nat)
  | voucherGrantRequest (d : Drop) (ref count : Nat)
  | printGrantRequest (d : Drop) (ref count : Nat)
  | journalReturn (sale : Nat)
  | voucherReturn (first count : Nat)
  | printReturn (d : Drop) (ref : Nat)
  | attempt (d : Drop) (serial : Nat)
  | unfreeze (d : Drop) (serial : Nat) (cause : TenderOutcome)
  | expire (d : Drop) (serial : Nat)
  | commit (d : Drop) (c : CommitOrder)
  | commitConfirmation (d : Drop) (serial : Nat)
  | release (d : Drop) (serial : Nat)
  | cancel (d : Drop) (serial : Body Nat)
  | readerOffDelivered (d : Drop)
  | contacts (d : Drop) (c : Body Contacts)
  | powerDone (d : Drop) (on : Body Bool)
  | token (d : Drop) (t : Body Token)
  | readFailed (d : Drop) (req : Body Unit)
  | readerPartialTimeout (d : Drop)
  | readerSettleEnd (d : Drop)
  | readerPowerUpAckTimeout (d : Drop)
  | readerPowerUpDelayEnd (d : Drop)
  | readerPowerDownAckTimeout (d : Drop)
  | readerPowerDownDelayEnd (d : Drop)
  | saleRecord (r : SaleRecord)
  | timeoutVoidOrder (v : TimeoutVoid)
  | storeReadTryEnd (answer : Option (List Byte))
  | storeWriteTryEnd (acknowledged : Nat)
  | storeRetry
  | voucherCounterReport (counter : Nat)
  | voucherCounterStart (counter mark : Nat)
  | voucherMarkUpdate (mark : Nat)
  | voucherBaseSet (base : Nat)
  | issueOrder (o : IssueOrder)
  | redeem (d : Drop) (code : Body Text)
  | check (d : Drop) (code : Body Text)
  | printOrder (d : Drop) (items : List PrintItem)
  | printed (d : Drop) (tag : Body PrintTag)
  | failed (d : Drop) (tag : Body PrintTag)
  | printerStatus (d : Drop) (r : Body PrinterReport)
  | visitStart (line : LineId)
  | roundIdleEnd (line : LineId)
  | goodAnswer (line : LineId) (answer : Answer)
  | visitMiss (line : LineId)
  | dropOnlineSbu (d : Drop)
  | dropOnlineTdu (d : Drop)
  | dropOnlinePru (d : Drop)
  | dropOfflineTdu (d : Drop)
  | dropOfflinePru (d : Drop)
  deriving DecidableEq, Repr

end Sys2Proof
end

