-- ==== Sys2Proof/Decode.lean ====
section
/-! DEFINITION. Commands spelled as words by the opcode table. No row of spec/opcode_table.json gives bits, so no word spells a
command. (Frames from the host and from drops are decoded in Machine/Operands.lean.) -/

namespace Sys2Proof

/-- The command that a word spells by the table's bits: none, since no row gives bits. -/
def decodeTableWord (_nbits _w : Nat) : Option Instr := none

end Sys2Proof
end

