-- ==== Sys2Proof/Config.lean ====
section
/-! DEFINITION. What the spec leaves to the part and its partners without stating it: the kind numbers of the host
requests and where the fields of the bodies that enter the part stand (R194, R195, R197). Each is a constant with no body, so that
nothing proved here rests on a number the spec does not give (notes/assumptions/7.md, 8.md). -/

namespace Sys2Proof

/-- The names of the host requests (the table of R180). -/
inductive HostRequest where
  | layoutBegin | layoutRow | screeningLoad | screeningOpen | screeningClose | screeningWithdraw | screeningUnload
  | seatBlock | seatUnblock | seatSell | seatRefund | seatQuery
  | tariffLoad | daypartLoad | overlaySet | catalogueLoad | fareQuote
  | authResult | journalRead | journalTake | counterBase | voucherVoid | voucherQuery | printRedirect | printFlush
  | dropConfig | dropReset | status | setClock | setSite | noticeLevels
  deriving DecidableEq, Repr

namespace Config

/-- The straps as State.reset has them latched: DESIGN CHOICE, unsafe (notes/assumptions/10.md). -/
def resetStraps : Straps := { store := true, bothLines := true, lineRateHigh := false, hostRateHigh := false }

/-- Which request a kind of 1 to 63 names, if any: R194 gives the range and no numbers (notes/assumptions/7.md). -/
opaque requestOfKind : Nat → Option HostRequest

/-- The code that answers a CANCEL taken in RESERVING, which R103 does not give: a free value (notes/assumptions/39.md). -/
opaque cancelReservingCode : Code

/-! ## Bodies that enter the part

R192 gives the encoding of numbers, texts, kinds, concessions, seat addresses and site times, R195 and R197 a few whole bodies. Where
the fields of the other bodies stand, and how wide their numbers are, no rule says (notes/assumptions/7.md, 8.md). -/

/-- The bodies, or entries of the lists in bodies, of host requests and of drop messages, these by message code (R180, R197). -/
inductive Message where
  | host (r : HostRequest)
  | hostEntry (r : HostRequest)
  | drop (code : Nat)
  | dropEntry (code : Nat)
  deriving DecidableEq, Repr

/-- The bytes of a body before its list, or of an entry. -/
opaque fixedSize : Message → Nat

/-- The place of a field, the fields counted from 0 as the rule of the message names them. -/
opaque fieldAt : Message → Nat → Nat

/-- The bytes of a number. -/
opaque fieldWidth : Message → Nat → Nat

/-- What bytes spell in a field whose encoding R192 does not give: a yes or no, OFF, EMPTY, ANY, a setting of a few values. -/
opaque openField {α : Type} [Inhabited α] (m : Message) (field : Nat) (bytes : List Byte) : α

/-- The reports of a reader and of a printer that hold no field of R192; absent when the length does not fit. -/
opaque contactsFields : List Byte → Body Contacts
opaque powerDoneFields : List Byte → Body Bool
opaque tokenFields : List Byte → Body Token
opaque printerStatusFields : List Byte → Body PrinterReport

end Config
end Sys2Proof
end

