-- ==== Sys2Proof/Machine/State.lean ====
section
/-! DEFINITION. The state of the part, block by block, as plain data, and its value after power-on (R188). -/

namespace Sys2Proof.Machine

/-- The ways a step can fault. The part has none: a wrong request is answered with a reply code (R201) and a report of no
use is discarded (R91, R158), so this has no constructor. -/
inductive Fault where
  deriving DecidableEq, Repr

/-- The ways a step can be refused. -/
inductive Refusal where
  /-- Raised by `exec` for a command that has no meaning in the model yet. Safe: it stops the run. No arm raises it. -/
  | notModelled (mnemonic : String)
  deriving DecidableEq, Repr

/-! ## Seat and Basket Unit -/

/-- The state of a layout (R1). -/
inductive LayoutState where
  | empty | loading | ready | invalid
  deriving DecidableEq, Repr

/-- A row of a layout (R1): its label and its position kinds from the left. -/
structure LayoutRow where
  label : Text
  kinds : List PosKind
  deriving DecidableEq, Repr

/-- A layout (R1). The rows taken are the rows held. -/
structure Layout where
  state : LayoutState
  rowCount : Nat
  ideal : Nat
  centre : Nat
  rows : List LayoutRow
  sellable : Option Nat
  deriving DecidableEq, Repr

/-- Who sold a SOLD seat (R15). -/
inductive Origin where
  | kiosk | house
  deriving DecidableEq, Repr

/-- The state of a seat record (R15). -/
inductive SeatState where
  | free
  | held (owner : Drop) (slot : Nat)
  | sold (sale : Nat) (origin : Origin)
  | blocked
  deriving DecidableEq, Repr

/-- A seat record and the seat it is for (R15). -/
structure SeatRecord where
  addr : SeatAddr
  state : SeatState
  deriving DecidableEq, Repr

/-- The states of a screening slot that is not EMPTY (R6). -/
inductive ScreeningState where
  | loaded | onSale | closing | closed
  deriving DecidableEq, Repr

/-- The four counts of a screening (R16). -/
structure SeatCounts where
  free : Nat
  held : Nat
  sold : Nat
  blocked : Nat
  deriving DecidableEq, Repr

/-- A screening record (R6). -/
structure Screening where
  number : Nat
  layout : Fin 8
  startDay : Nat
  startMinute : Nat
  lateSale : Nat
  band : Nat
  surcharge : Nat
  gapGuard : Bool
  withdrawn : Bool
  state : ScreeningState
  counts : SeatCounts
  seats : List SeatRecord
  deriving DecidableEq, Repr

/-- A slot in use of a basket's line stack (R25). -/
inductive BasketLine where
  | seat (screening : Nat) (addr : SeatAddr) (kind : SeatKind) (concession : Concession) (amount generation : Nat)
  | snack (item amount generation : Nat)
  | void
  deriving DecidableEq, Repr

/-- The state of a basket (R23). -/
inductive BasketState where
  | idle | opened | tender
  deriving DecidableEq, Repr

/-- A basket (R23). The stack's top is the number of its lines; the drop is the basket's index. -/
structure Basket where
  serial : Nat
  state : BasketState
  bound : Option Nat
  lines : List BasketLine
  countdown : Nat
  warned : Bool
  extensions : Nat
  attempts : Nat
  flags : PriceFlags
  generation : Nat
  totals : Totals
  frozen : Option Nat
  saved : Option Nat
  deriving DecidableEq, Repr

/-- The Seat and Basket Unit: 8 layouts, 16 screening slots (absent is EMPTY) and 16 baskets. -/
structure Sbu where
  layouts : Vector Layout 8
  screenings : Vector (Option Screening) 16
  baskets : Vector Basket 16
  deriving DecidableEq, Repr

/-! ## Fare Unit -/

/-- An ACTIVE overlay (R66); an absent match field is ANY. -/
structure Overlay where
  band : Option Nat
  kind : Option SeatKind
  concession : Option Concession
  screening : Option Nat
  action : OverlayAction
  deriving DecidableEq, Repr

/-- The VALID part of a catalogue item (R67). -/
structure ItemPrice where
  price : Nat
  combo : Bool
  deriving DecidableEq, Repr

/-- A catalogue item (R67): an absent price is EMPTY; the validity minutes are kept when the item becomes EMPTY. -/
structure CatalogueItem where
  valid : Option ItemPrice
  minutes : Nat
  deriving DecidableEq, Repr

/-- The pricing settings (R68); set means masked. -/
structure PricingSettings where
  rounding : Rounding
  noFareMasked : Bool
  ceilingMasked : Bool
  lineCeiling : Nat
  houseFare : Nat
  rebate : Nat
  seatTax : Nat
  snackTax : Nat
  deriving DecidableEq, Repr

/-- The Fare Unit. The tariff holds 24 entries a band, the entry of kind k and concession c at 6 k + c (R63, R64). -/
structure Fau where
  tariff : Vector (Vector (Option Nat) 24) 8
  dayparts : Vector (Option Daypart) 4
  overlays : Vector (Option Overlay) 16
  catalogue : Vector CatalogueItem 32
  settings : PricingSettings
  generation : Nat
  deriving DecidableEq, Repr

/-- What the FAU says of one line it was to price (R70, R76): its amount and the conditions it met, or a refusal. -/
inductive LineOutcome where
  | priced (amount : Nat) (inexact noFare ceiling : Bool)
  | refused (code : Code)
  deriving DecidableEq, Repr

/-- The FAU's answer to a price order (R70). -/
inductive PriceAnswer where
  | refused (index : Nat) (code : Code) (generation : Nat)
  | priced (lines : List LineOutcome) (totals : Totals) (floor : Bool) (generation : Nat)
  deriving DecidableEq, Repr

/-! ## Tender Unit -/

/-- The state of a reader slot (R83). -/
inductive ReaderState where
  | empty | partialIn | settling | classified | poweringUp | ready | poweringDown | unsupported | fault
  deriving DecidableEq, Repr

/-- The card class (R83). -/
inductive CardClass where
  | v3 | v5 | dual | notACard
  deriving DecidableEq, Repr

/-- The supply of a card (R83). -/
inductive Supply where
  | v3 | v5
  deriving DecidableEq, Repr

/-- The command outstanding at a reader (R83). -/
inductive Outstanding where
  | none | on | off
  deriving DecidableEq, Repr

/-- The purpose of the slot timer (R83). -/
inductive TimerPurpose where
  | partialIn | settle | acknowledge | delay
  deriving DecidableEq, Repr

/-- A running slot timer (R83). The milliseconds are those it was started with (notes/assumptions/4.md). -/
structure SlotTimer where
  purpose : TimerPurpose
  ms : Nat
  deriving DecidableEq, Repr

/-- A reader slot (R83); an absent timer is stopped. -/
structure ReaderSlot where
  state : ReaderState
  contacts : Contacts
  cardClass : Option CardClass
  supply : Option Supply
  outstanding : Outstanding
  spent : Bool
  removalPending : Bool
  dataLost : Bool
  badSupply : Bool
  timer : Option SlotTimer
  deriving DecidableEq, Repr

/-- The state of a tender session (R93). -/
inductive SessionState where
  | idle | reserving | cardWait | cardRead | authPending | committing
  deriving DecidableEq, Repr

/-- A tender session (R93). `start` holds the basket serial, frozen amount, line counts and attempts so far. -/
structure Session where
  state : SessionState
  reference : Nat
  start : Option TenderStart
  attempt : Option Nat
  phase : Option Phase
  journalGrant : Option Nat
  voucherGrant : Option (Nat × Nat)
  printGrant : Option Nat
  token : Option Token
  cardWait : Option Nat
  authWait : Option Nat
  lastTimedOut : Nat
  deriving DecidableEq, Repr

/-- The Tender Unit. -/
structure Tdu where
  readers : Vector ReaderSlot 16
  sessions : Vector Session 16
  deriving DecidableEq, Repr

/-! ## Journal Unit -/

/-- A journal record (R112). -/
inductive JournalRecord where
  | sale (r : SaleRecord)
  | timeoutVoid (v : TimeoutVoid)
  deriving DecidableEq, Repr

/-- The two high-water marks (R121). -/
structure Marks where
  sale : Nat
  voucher : Nat
  deriving DecidableEq, Repr

/-- The mode of the counter store controller (R122). -/
inductive StoreMode where
  | guarding | seeding | absent
  deriving DecidableEq, Repr

/-- The operation of the counter store controller (R122). -/
inductive StoreOp where
  | idle | reading | writing | retryWait
  deriving DecidableEq, Repr

/-- The outcome a STORE notice carries (R125). -/
inductive StoreFailure where
  | readFailed | writeFailed
  deriving DecidableEq, Repr

/-- What a try puts on the store's bus: the address and the number of bytes of a read, or the address and the bytes of a
write (R200). -/
inductive BusOp where
  | read (address count : Nat)
  | write (address : Nat) (bytes : List Byte)
  deriving DecidableEq, Repr

/-- The counter store controller (R122). `voucherCounter` is the voucher counter as last reported to it (R124), and `bus` what
the try under way puts on the store's bus (R200). -/
structure Store where
  mode : StoreMode
  op : StoreOp
  written : Option Marks
  writing : Option Marks
  tries : Option Nat
  pendingNeed : Bool
  voucherCounter : Option Nat
  failure : Option StoreFailure
  bus : Option BusOp
  deriving DecidableEq, Repr

/-- The Journal Unit: an absent sale counter holds no value (R121). -/
structure Jnu where
  journal : List JournalRecord
  reservations : List Nat
  saleCounter : Option Nat
  store : Store
  deriving DecidableEq, Repr

/-! ## Voucher Unit -/

/-- The state of a used voucher entry (R131). -/
inductive VoucherState where
  | issued
  | redeemed (time : SiteTime) (counter : Drop)
  | voided
  deriving DecidableEq, Repr

/-- A used entry of the voucher table (R131). -/
structure VoucherEntry where
  serial : Nat
  item : Nat
  amount : Nat
  sale : Nat
  screening : Option Nat
  validUntil : SiteTime
  state : VoucherState
  deriving DecidableEq, Repr

/-- A voucher reservation (R133). -/
structure VoucherReservation where
  drop : Drop
  first : Nat
  count : Nat
  deriving DecidableEq, Repr

/-- The Voucher Unit. The table is the list of its used entries; the other entries of the 1,024 are UNUSED and hold no
field (R131; notes/assumptions/24.md). -/
structure Vcu where
  used : List VoucherEntry
  reservations : List VoucherReservation
  counter : Option Nat
  guardMark : Option Nat
  guardOn : Bool
  retention : Nat
  deriving DecidableEq, Repr

/-! ## Print Unit -/

/-- The state of a printer (R153). -/
inductive PrinterState where
  | ready | busy | paused | fault | offline
  deriving DecidableEq, Repr

/-- A printer record (R153). -/
structure Printer where
  state : PrinterState
  paperLow : Bool
  retries : Nat
  headSent : Bool
  deriving DecidableEq, Repr

/-- A print reservation (R149). -/
structure PrintReservation where
  drop : Drop
  reference : Nat
  count : Nat
  deriving DecidableEq, Repr

/-- The Print Unit; reservations stand in the order they were granted. -/
structure Pru where
  queues : Vector (List PrintItem) 16
  reservations : List PrintReservation
  printers : Vector Printer 16
  printLater : Bool
  backlog : Nat
  deriving DecidableEq, Repr

/-! ## What is sent to drops -/

/-- A basket as replies and pushes carry it (R36). -/
structure BasketRecord where
  serial : Nat
  state : BasketState
  lines : List BasketLine
  totals : Totals
  flags : PriceFlags
  countdown : Nat
  extensions : Nat
  attempts : Nat
  frozen : Option Nat
  stale : Bool
  deriving DecidableEq, Repr

/-- The reason of a basket push with what goes with it (R36). -/
inductive PushReason where
  | holdWarning | expired | screeningClosed
  | unfrozen (cause : TenderOutcome)
  | sold (sale : Nat)
  | resync | reset
  deriving DecidableEq, Repr

/-- A basket push (R36). -/
structure BasketPush where
  reason : PushReason
  basket : BasketRecord
  deriving DecidableEq, Repr

/-- A tender state push (R99). -/
structure TenderPush where
  state : SessionState
  serial : Option Nat
  frozen : Option Nat
  attempt : Option Nat
  cardWait : Option Nat
  sale : Option Nat
  outcome : Option TenderOutcome
  deriving DecidableEq, Repr

/-- The reason of a slot push (R92). -/
inductive SlotReason where
  | reinsert | cardRemoved | readFailed | change
  deriving DecidableEq, Repr

/-- A slot push (R92). -/
structure SlotPush where
  state : ReaderState
  cardClass : Option CardClass
  supply : Option Supply
  spent : Bool
  dataLost : Bool
  badSupply : Bool
  reason : SlotReason
  deriving DecidableEq, Repr

/-- A READER_POWER command (05 "The reader and its reports"). -/
inductive ReaderCommand where
  | on (supply : Supply)
  | off
  deriving DecidableEq, Repr

/-- A seat's state as a reply shows it (R21). -/
inductive SeatShown where
  | free
  | held (owner : Drop)
  | sold (sale : Nat) (origin : Origin)
  | blocked
  deriving DecidableEq, Repr

/-- One seat of a placement as the BEST reply names it (R60). -/
structure PlacedSeat where
  addr : SeatAddr
  label : Text
  number : Nat
  deriving DecidableEq, Repr

/-- What a voucher reply adds to the code as presented (R140, R141, R142). -/
inductive VoucherDetail where
  | none
  | entry (item : Nat) (screening : Option Nat)
  | already (item : Nat) (screening : Option Nat) (time : SiteTime) (counter : Drop)
  | expired (item : Nat) (screening : Option Nat) (validUntil : SiteTime)
  | served (item : Nat) (screening : Option Nat) (serial sale : Nat)
  | servable (item : Nat) (screening : Option Nat) (serial sale : Nat) (validUntil : SiteTime)
  deriving DecidableEq, Repr

/-- What a reply to a drop carries beside its code, serial and basket. -/
inductive ReplyDetail where
  | none
  | seat (addr : SeatAddr)
  | seatState (addr : SeatAddr) (state : SeatShown)
  | line (slot : Nat)
  | countdown (seconds : Nat)
  | placement (split : Bool) (score : Nat) (seats : List PlacedSeat)
  | tender (state : SessionState) (attempt frozen : Option Nat)
  | voucher (presented : Text) (detail : VoucherDetail)
  deriving DecidableEq, Repr

/-- A reply to a drop's request (R28, R103, R139). -/
structure DropReply where
  code : Code
  serial : Option Nat
  basket : Option BasketRecord
  detail : ReplyDetail
  deriving DecidableEq, Repr

/-- A frame waiting for a drop (R168). -/
inductive OutFrame where
  | reply (r : DropReply)
  | reader (c : ReaderCommand)
  | basketPush (p : BasketPush)
  | tenderPush (p : TenderPush)
  | slotPush (p : SlotPush)
  | print (i : PrintItem)
  deriving DecidableEq, Repr

/-! ## Kiosk Line Controller -/

/-- The six outbound slots in rank order (R168). -/
inductive SlotId where
  | reply | reader | pushBasket | pushTender | pushSlot | print
  deriving DecidableEq, Repr

/-- A waiting frame; `sent` is set while the frame is one that a visit has carried, so that a replacement is told from it
(R171 steps 2 and 3; notes/assumptions/15.md). -/
structure SlotEntry where
  frame : OutFrame
  sent : Bool
  deriving DecidableEq, Repr

/-- The in-doubt record (R165) with the frame that went out, since its delivery may have to be reported after its slot was
replaced (R173). -/
structure InDoubt where
  slot : SlotId
  toggle : Bool
  frame : OutFrame
  deriving DecidableEq, Repr

/-- The state of a drop (R165). -/
inductive DropState where
  | unused | probing | online | offline
  deriving DecidableEq, Repr

/-- A drop record (R165); the slots stand in rank order. -/
structure DropRecord where
  kind : DropKind
  supply : ReaderSupply
  state : DropState
  misses : Nat
  outToggle : Bool
  inToggle : Option Bool
  inDoubt : Option InDoubt
  requestOutstanding : Bool
  busyDue : Option Bool
  holdOff : Bool
  slots : Vector (Option SlotEntry) 6
  deriving DecidableEq, Repr

/-- What a visit sent (R171): SYNC, a bare poll under step 3 or step 4, or a slot's frame under a toggle. -/
inductive SentFrame where
  | sync
  | pollInDoubt
  | poll
  | body (slot : SlotId) (toggle : Bool) (frame : OutFrame)
  deriving DecidableEq, Repr

/-- A visit under way (R170, R177): what it sent, the BUSY mark it carried, whether its answer is to be discarded, and the
characters on the line: the 9-bit address character and the bytes after it (R196). -/
structure Visit where
  drop : Drop
  sent : SentFrame
  busyMark : Option Bool
  discard : Bool
  addr : BitVec 9
  bytes : List Byte
  deriving DecidableEq, Repr

/-- A kiosk line (R170). `next` is the number of addresses of the present round already taken or passed over; `idle` is set
during a round in which no drop is due. -/
structure KioskLine where
  round : Nat
  next : Nat
  idle : Bool
  visit : Option Visit
  deriving DecidableEq, Repr

/-- The Kiosk Line Controller. -/
structure Klc where
  drops : Vector DropRecord 16
  lineA : KioskLine
  lineB : KioskLine
  deriving DecidableEq, Repr

/-! ## Host Link Controller -/

/-- A refused seat of SEAT_BLOCK or SEAT_UNBLOCK with its reason (R18). -/
structure RefusedSeat where
  addr : SeatAddr
  code : Code
  state : Option SeatShown
  deriving DecidableEq, Repr

/-- A refunded seat with the sale number and origin it carried (R20). That its entry in the reply carries the seat's address is the
model's choice (DESIGN CHOICE; notes/assumptions/51.md). -/
structure RefundedSeat where
  addr : SeatAddr
  sale : Nat
  origin : Origin
  deriving DecidableEq, Repr

/-- One position of a queried row (R21). -/
inductive RowPosition where
  | aisle
  | seat (kind : SeatKind) (number : Nat) (state : SeatShown)
  deriving DecidableEq, Repr

/-- The reply of SEAT_QUERY (R21). -/
structure RowReport where
  label : Text
  positions : List RowPosition
  state : ScreeningState
  withdrawn : Bool
  counts : SeatCounts
  deriving DecidableEq, Repr

/-- The values of a FARE_QUOTE past stage 1 (R80). -/
structure QuoteStages where
  fare : Nat
  overlayFactor : Nat
  daypartFactor : Nat
  quotient : Nat
  remainder : Nat
  rounded : Nat
  surcharged : Nat
  deriving DecidableEq, Repr

/-- The reply of FARE_QUOTE (R80); the stages are absent where NO_FARE is unmasked and met. -/
structure Quote where
  overlay : Option Nat
  factor : Nat
  stages : Option QuoteStages
  outcome : LineOutcome
  generation : Nat
  deriving DecidableEq, Repr

/-- The numeric settings of SET_SITE, as CLAMPED names them (R187). -/
inductive SiteField where
  | lineCeiling | houseFare | rebate | seatTax | snackTax | backlog | retention | hold | cardWait | authTimeout
  deriving DecidableEq, Repr

/-- The site settings as STATUS shows them (R187, R189). -/
structure SiteSettings where
  pricing : PricingSettings
  printLater : Bool
  backlog : Nat
  retention : Nat
  hold : Nat
  cardWait : Nat
  authTimeout : Nat
  deriving DecidableEq, Repr

/-- The 22 pending notice conditions (R182). -/
structure Conditions where
  auth : Vector Bool 16
  journal : Bool
  dropState : Bool
  printer : Bool
  screening : Bool
  store : Bool
  linkError : Bool
  deriving DecidableEq, Repr

/-- A drop as STATUS shows it (R189). -/
structure DropShown where
  kind : DropKind
  supply : ReaderSupply
  state : DropState
  deriving DecidableEq, Repr

/-- The reply of STATUS (R189). -/
structure StatusReport where
  partState : PartState
  straps : Straps
  clock : SiteTime
  settings : SiteSettings
  generation : Nat
  conditions : Conditions
  levels : Levels
  discards : Nat
  drops : List DropShown
  saleCounter : Option Nat
  voucherCounter : Option Nat
  storeMode : StoreMode
  written : Option Marks
  journalRecords : Nat
  journalReservations : Nat
  usedVouchers : Nat
  reservedVouchers : Nat
  queues : List (Nat × Nat)
  deriving DecidableEq, Repr

/-- The data a host reply carries with its code. -/
inductive HostData where
  | none
  | partState (p : PartState)
  | sellable (n : Nat)
  | seat (addr : SeatAddr)
  | seatState (addr : SeatAddr) (state : SeatShown)
  | refused (seats : List RefusedSeat)
  | refunded (seats : List RefundedSeat)
  | row (r : RowReport)
  | entry (index : Option Nat) (generation : Nat)
  | generation (g : Nat)
  | quote (q : Quote)
  | journal (r : JournalRecord) (records reservations : Nat)
  | left (records : Nat)
  | oldest (sale : Nat)
  | voucher (e : VoucherEntry)
  | reservation (r : VoucherReservation)
  | items (n : Nat)
  | time (t : SiteTime)
  | site (clamped : List SiteField) (generation : Nat)
  | status (r : StatusReport)
  deriving DecidableEq, Repr

/-- A reply in the reply queue (R181). -/
structure HostReply where
  request : HostTag
  code : Code
  data : HostData
  deriving DecidableEq, Repr

/-- The AUTH_REQUEST notice (R101, R195). -/
structure AuthNotice where
  drop : Drop
  serial : Nat
  attempt : Nat
  sale : Nat
  frozen : Nat
  token : Option Token
  deriving DecidableEq, Repr

/-- A drop as the DROP_STATE notice shows it (R167). -/
structure DropNotice where
  kind : DropKind
  supply : ReaderSupply
  state : DropState
  misses : Nat
  deriving DecidableEq, Repr

/-- A printer as the PRINTER notice shows it (R162). -/
structure PrinterNotice where
  drop : Drop
  printer : PrinterState
  paperLow : Bool
  retries : Nat
  items : Nat
  reserved : Nat
  head : Option PrintTag
  deriving DecidableEq, Repr

/-- A screening as the SCREENING notice shows it (R13). -/
structure ScreeningNotice where
  number : Nat
  state : ScreeningState
  withdrawn : Bool
  counts : SeatCounts
  deriving DecidableEq, Repr

/-- A notice with what it carries (R182). -/
inductive Notice where
  | authRequest (n : AuthNotice)
  | journal (records reservations : Nat) (oldest : Option Nat)
  | dropState (drops : List DropNotice)
  | printer (printers : List PrinterNotice)
  | screening (screenings : List ScreeningNotice)
  | store (mode : StoreMode) (op : StoreOp) (written : Option Marks) (sale voucher : Option Nat)
      (failure : Option StoreFailure)
  | linkError (discards : Nat)
  deriving DecidableEq, Repr

/-- A frame the transmitter sends (R184). -/
inductive HostOut where
  | reply (r : HostReply)
  | notice (n : Notice)
  deriving DecidableEq, Repr

/-- The frame being transmitted, with its bytes in the layout of R194. -/
structure TxFrame where
  frame : HostOut
  bytes : List Byte
  deriving DecidableEq, Repr

/-- A good frame waiting in the receive buffer (R179, R194). -/
structure HostFrame where
  tag : BitVec 16
  kind : Byte
  body : List Byte
  deriving DecidableEq, Repr

/-- The Host Link Controller. -/
structure Hlc where
  frames : List HostFrame
  bytes : List Byte
  handling : Option HostTag
  replies : List HostReply
  conditions : Conditions
  levels : Levels
  discards : Nat
  tx : Option TxFrame
  clock : SiteTime
  hold : Nat
  cardWait : Nat
  authTimeout : Nat
  partState : PartState
  straps : Straps
  deriving DecidableEq, Repr

/-! ## The part -/

/-- The state of the part. `pending` holds the commands waiting, `orders` the orders between blocks that are on their way
(R190), both oldest first; `priceAnswer` is the FAU's answer to the last PRICE_ORDER command. -/
structure State where
  sbu : Sbu
  fau : Fau
  tdu : Tdu
  jnu : Jnu
  vcu : Vcu
  pru : Pru
  klc : Klc
  hlc : Hlc
  orders : List Instr
  priceAnswer : Option PriceAnswer
  pending : List Instr
  deriving DecidableEq, Repr

/-- What a command answers. -/
abbrev Result := Host.Outcome State Fault Refusal

/-! ## Values after power-on -/

/-- An EMPTY layout (R22). -/
def Layout.reset : Layout := { state := .empty, rowCount := 0, ideal := 0, centre := 0, rows := [], sellable := none }

/-- Clear price flags (R23). -/
def noFlags : PriceFlags := { inexact := false, noFare := false, ceiling := false, floor := false }

/-- Totals of nothing (R23). -/
def noTotals : Totals := { seatSum := 0, snackSum := 0, rebate := 0, gross := 0, seatTax := 0, snackTax := 0 }

/-- An IDLE basket with serial 0 and generation 0 (R23, R51). -/
def Basket.reset : Basket :=
  { serial := 0, state := .idle, bound := none, lines := [], countdown := 0, warned := false, extensions := 0
    attempts := 0, flags := noFlags, generation := 0, totals := noTotals, frozen := none, saved := none }

/-- The SBU after power-on, pin reset and RESTART (R22, R51). -/
def Sbu.reset : Sbu :=
  { layouts := Vector.replicate 8 .reset, screenings := Vector.replicate 16 none
    baskets := Vector.replicate 16 .reset }

/-- The pricing settings after reset (R68). -/
def PricingSettings.reset : PricingSettings :=
  { rounding := .nearestEven, noFareMasked := true, ceilingMasked := true, lineCeiling := 50000, houseFare := 1000
    rebate := 0, seatTax := 0, snackTax := 0 }

/-- The FAU after power-on, pin reset and RESTART (R81). -/
def Fau.reset : Fau :=
  { tariff := Vector.replicate 8 (Vector.replicate 24 none), dayparts := Vector.replicate 4 none, overlays := Vector.replicate 16 none
    catalogue := Vector.replicate 32 { valid := none, minutes := 30 }, settings := .reset, generation := 0 }

/-- All contacts open (R83). -/
def allOpen : Contacts := { detect1 := false, detect2 := false, sense1 := false, sense2 := false }

/-- An EMPTY reader slot (R83). -/
def ReaderSlot.reset : ReaderSlot :=
  { state := .empty, contacts := allOpen, cardClass := none, supply := none, outstanding := .none, spent := false
    removalPending := false, dataLost := false, badSupply := false, timer := none }

/-- An IDLE session with reference 0 (R93). -/
def Session.reset : Session :=
  { state := .idle, reference := 0, start := none, attempt := none, phase := none, journalGrant := none
    voucherGrant := none, printGrant := none, token := none, cardWait := none, authWait := none, lastTimedOut := 0 }

/-- The TDU after power-on, pin reset and RESTART (R83, R93). -/
def Tdu.reset : Tdu :=
  { readers := Vector.replicate 16 .reset, sessions := Vector.replicate 16 .reset }

/-- The counter store controller after power-on or pin reset (R122). -/
def Store.reset (fitted : Bool) : Store :=
  { mode := if fitted then .guarding else .absent, op := if fitted then .reading else .idle, written := none
    writing := none, tries := if fitted then some 1 else none, pendingNeed := false, voucherCounter := none
    failure := none, bus := if fitted then some (.read 0 10) else none }

/-- The JNU after power-on or pin reset (R113, R114, R121, R122). -/
def Jnu.reset (fitted : Bool) : Jnu :=
  { journal := [], reservations := [], saleCounter := none, store := .reset fitted }

/-- The VCU after power-on or pin reset (R132, R147). -/
def Vcu.reset : Vcu :=
  { used := [], reservations := [], counter := none, guardMark := none, guardOn := false, retention := 120 }

/-- The PRU after power-on, pin reset and RESTART (R149, R153, R162). -/
def Pru.reset : Pru :=
  { queues := Vector.replicate 16 [], reservations := []
    printers := Vector.replicate 16 { state := .offline, paperLow := false, retries := 0, headSent := false }
    printLater := false, backlog := 8 }

/-- An unconfigured drop record (R165). -/
def DropRecord.reset : DropRecord :=
  { kind := .none, supply := .only3V, state := .unused, misses := 0, outToggle := false, inToggle := none
    inDoubt := none, requestOutstanding := false, busyDue := none, holdOff := false
    slots := Vector.replicate 6 none }

/-- A kiosk line after reset (R170). -/
def KioskLine.reset : KioskLine := { round := 0, next := 0, idle := false, visit := none }

/-- The KLC after power-on or pin reset (R165, R170). -/
def Klc.reset : Klc := { drops := Vector.replicate 16 .reset, lineA := .reset, lineB := .reset }

/-- Every condition clear (R182). -/
def Conditions.reset : Conditions :=
  { auth := Vector.replicate 16 false, journal := false, dropState := false, printer := false, screening := false
    store := false, linkError := false }

/-- The notice levels after reset (R183). -/
def defaultLevels : Levels :=
  { authRequest := .value 3, journal := .value 2, dropState := .value 1, printer := .value 1, screening := .value 1
    store := .value 1, linkError := .value 1 }

/-- The HLC after power-on or pin reset (R181, R182, R183, R185, R187, R188). Without a store the counter load ends at once
with no counters (R122). -/
def Hlc.reset (straps : Straps) : Hlc :=
  { frames := [], bytes := [], handling := none, replies := [], conditions := .reset, levels := defaultLevels
    discards := 0, tx := none, clock := { day := 0, second := 0 }, hold := 240, cardWait := 60, authTimeout := 45
    partState := if straps.store then .starting else .needCounters, straps := straps }

/-- The part right after power-on with the straps of notes/assumptions/10.md, and an empty queue. -/
def State.reset : State :=
  { sbu := .reset, fau := .reset, tdu := .reset, jnu := .reset Config.resetStraps.store, vcu := .reset, pru := .reset
    klc := .reset, hlc := .reset Config.resetStraps, orders := [], priceAnswer := none, pending := [] }

end Sys2Proof.Machine
end

