-- ==== Sys2Proof/Config/Layouts.lean ====
section
/-! DEFINITION. The layouts of outgoing records that the spec does not give (R192 and R195 to R199 give some): constants with no
body, so that nothing proved here rests on them (notes/assumptions/9.md). -/

namespace Sys2Proof.Config

open Sys2Proof.Machine

/-- The records, and parts of records, that leave the part. -/
inductive OpenRecord where
  | partState | sellable | foundSeat | seatState | heldSeat | soldSeat | refusedSeats | refusedSeat | refundedSeats
  | refundedSeat | rowReport | rowSeat | rowAisle | counts | entry | generation | quote | lineOutcome | journalRead | left
  | oldest | voucherEntry | redemption | reservation | items | site | settings | status | dropShown | queueShown | marks
  | journal | dropState | dropNotice | printer | printerNotice | printTag | screenings | screeningNotice | store | linkError
  | seatLine | snackLine | voidLine | totals | basket | basketPush | soldPush | line | countdown | placement | placedSeat
  | tender | voucherReply | voucherKnown | voucherAlready | voucherExpired | voucherServed | voucherServable | dropReply | reader | tenderPush | slotPush
  deriving DecidableEq, Repr

/-- The bytes of a record that stand before its field of a place, or after its last one, and that no rule gives: what the
record holds beside those fields is all they depend on. -/
opaque bytesBefore {α : Type} (r : OpenRecord) (place : Nat) (x : α) : List Byte

/-- The bytes of a number of a record. -/
opaque numberWidth (r : OpenRecord) (place : Nat) : Nat

/-- The acknowledged toggle (bit 6) of an outbound control byte to a drop whose in toggle is NONE, which R197 does not give: a free
value (notes/assumptions/49.md). -/
opaque idleAckToggle : Drop → SentFrame → Bool

/-- The BUSY toggle (bit 3) of an outbound control byte that carries no BUSY mark, which R197 does not give: a free value
(notes/assumptions/49.md). -/
opaque idleBusyToggle : Drop → SentFrame → Bool

end Sys2Proof.Config
end

