-- ==== Sys2Proof/Machine/Formats.lean ====
section
/-! DEFINITION. Encodings of frames and records (11_message_and_record_formats, R192 to R201). -/

namespace Sys2Proof.Machine

/-! ## Integers, text and enumerations (R192) -/

/-- The `n` bytes of a number, high byte first. -/
def beBytes : Nat → Nat → List Byte
  | 0, _ => []
  | n + 1, v => BitVec.ofNat 8 (v >>> (8 * n)) :: beBytes n v

/-- The number that bytes spell, high byte first. -/
def beValue (bs : List Byte) : Nat := bs.foldl (fun acc b => acc * 256 + b.toNat) 0

/-- The bytes of a text. -/
def textBytes (t : Text) : List Byte := t.map (BitVec.ofNat 8)

/-- A row label in 2 bytes: one character is padded with a space. -/
def labelBytes (l : Text) : List Byte := textBytes ((l ++ [32, 32]).take 2)

/-- The row label of a field of two bytes: a space that pads one character is no part of it. -/
def labelAt (bs : List Byte) : Text :=
  match (bs.take 2).map (·.toNat) with
  | [c, 32] => [c]
  | l => l

/-- The character of a permitted label or approval code: an upper-case letter or a digit. -/
def isTextChar (c : Nat) : Bool := (65 ≤ c && c ≤ 90) || (48 ≤ c && c ≤ 57)

/-- The position kind of a code. -/
def posKindOfCode : Nat → Option PosKind
  | 0 => some .standard
  | 1 => some .premium
  | 2 => some .wheelchair
  | 3 => some .companion
  | 4 => some .aisle
  | _ => none

/-- The seat kind of a code. -/
def seatKindOfCode : Nat → Option SeatKind
  | 0 => some .standard
  | 1 => some .premium
  | 2 => some .wheelchair
  | 3 => some .companion
  | _ => none

/-- The concession of a code. -/
def concessionOfCode : Nat → Option Concession
  | 0 => some .adult
  | 1 => some .child
  | 2 => some .senior
  | 3 => some .student
  | 4 => some .member
  | 5 => some .companion
  | _ => none

/-- The code of a seat kind. -/
def seatKindCode : SeatKind → Nat
  | .standard => 0
  | .premium => 1
  | .wheelchair => 2
  | .companion => 3

/-- The code of a concession. -/
def concessionCode : Concession → Nat
  | .adult => 0
  | .child => 1
  | .senior => 2
  | .student => 3
  | .member => 4
  | .companion => 5

/-- A site time: day in 2 bytes, second in 3. -/
def siteTimeBytes (t : SiteTime) : List Byte := beBytes 2 t.day ++ beBytes 3 t.second

/-- The site time of a field of five bytes. -/
def siteTimeAt (bs : List Byte) : SiteTime := { day := beValue (bs.take 2), second := beValue ((bs.drop 2).take 3) }

/-- A seat address: row index in 1 byte, then position in 1 byte. -/
def seatAddrBytes (a : SeatAddr) : List Byte := beBytes 1 a.row ++ beBytes 1 a.pos

/-- The seat address of a field of two bytes. -/
def seatAddrAt (bs : List Byte) : SeatAddr := { row := beValue (bs.take 1), pos := beValue ((bs.drop 1).take 1) }

/-- The first `n` entries of a size that follow one another in bytes. -/
def entriesOf (size : Nat) : Nat → List Byte → List (List Byte)
  | 0, _ => []
  | n + 1, bs => bs.take size :: entriesOf size n (bs.drop size)

/-- A body with a list: absent unless its length is the fixed part plus the listed count times the entry size (R195, R197;
notes/assumptions/48.md). -/
def listBody {α β : Type} (fixed size : Nat) (entry : List Byte → β) (count : List Byte → Nat)
    (make : List Byte → List β → α) (bs : List Byte) : Body α :=
  if bs.length = fixed + count (bs.take fixed) * size then
    some (make (bs.take fixed) ((entriesOf size (count (bs.take fixed)) (bs.drop fixed)).map entry))
  else none

/-- The value of a reply code (R201). -/
def codeValue : Code → Nat
  | .ok => 0 | .partialDone => 1 | .clamped => 2 | .badRequest => 3 | .badValue => 4 | .starting => 5
  | .needCounters => 6 | .wrongState => 7 | .wrongDrop => 8
  | .inUse => 16 | .notLoading => 17 | .rowOrder => 18 | .tooManySeats => 19 | .layoutNotReady => 20
  | .duplicate => 21 | .screeningsFull => 22 | .noScreening => 23 | .notOpen => 24 | .closed => 25 | .noSeat => 26
  | .notFree => 27 | .notBlocked => 28 | .notSold => 29
  | .noBasket => 32 | .staleBasket => 33 | .inTender => 34 | .mixedScreening => 35 | .basketFull => 36
  | .noLine => 37 | .noExtension => 38 | .companionRule => 39 | .loneSeat => 40 | .noRun => 41
  | .attemptsUsed => 42 | .withdrawn => 43 | .priceChanged => 44 | .noFare => 45 | .ceiling => 46 | .noItem => 47
  | .journalFull => 48 | .vouchersFull => 49 | .printFull => 50 | .noPrinter => 51 | .counterLimit => 52
  | .counterEnd => 53 | .noTender => 54 | .tooLate => 55 | .cancelled => 56 | .mismatch => 57 | .late => 58
  | .unknownTender => 59
  | .empty => 64 | .notOldest => 65 | .badCode => 66 | .unknown => 67 | .void => 68 | .already => 69
  | .expired => 70 | .redeemed => 71 | .valid => 72 | .notIssued => 73 | .reserved => 74 | .noRoom => 75
  | .clockStep => 76

/-! ## The two checks (R193) -/

/-- One bit of the CRC-16: generator x^16 + x^12 + x^5 + 1, most significant bit first. -/
def crc16Bit (crc : BitVec 16) : BitVec 16 :=
  if crc.msb then (crc <<< 1) ^^^ 0x1021#16 else crc <<< 1

/-- The CRC-16 after one more byte. -/
def crc16Byte (crc : BitVec 16) (b : Byte) : BitVec 16 :=
  crc16Bit (crc16Bit (crc16Bit (crc16Bit (crc16Bit (crc16Bit (crc16Bit (crc16Bit
    (crc ^^^ (b.setWidth 16 <<< 8)))))))))

/-- The CRC-16 of bytes, from the initial value 65,535. -/
def crc16 (bs : List Byte) : BitVec 16 := bs.foldl crc16Byte 0xFFFF#16

/-- One bit of the CRC-8: generator x^8 + x^2 + x + 1, most significant bit first. -/
def crc8Bit (crc : Byte) : Byte := if crc.msb then (crc <<< 1) ^^^ 0x07#8 else crc <<< 1

/-- The CRC-8 after one more byte. -/
def crc8Byte (crc b : Byte) : Byte :=
  crc8Bit (crc8Bit (crc8Bit (crc8Bit (crc8Bit (crc8Bit (crc8Bit (crc8Bit (crc ^^^ b))))))))

/-- The CRC-8 of bytes, from the initial value 0. -/
def crc8 (bs : List Byte) : Byte := bs.foldl crc8Byte 0#8

/-! ## Host frames (R194, R195) -/

/-- A host frame: sync, length, tag, kind, body and the CRC-16 over length to body. -/
def hostFrameBytes (tag : BitVec 16) (kind : Nat) (body : List Byte) : List Byte :=
  let covered := beBytes 2 body.length ++ beBytes 2 tag.toNat ++ beBytes 1 kind ++ body
  90#8 :: (covered ++ beBytes 2 (crc16 covered).toNat)

/-- The kind of a reply: the received kind plus 128 when that is below 256, and 255 otherwise (R195). -/
def replyKind (k : Byte) : Nat := if k.toNat + 128 < 256 then k.toNat + 128 else 255

/-- The kind of a notice (R195). -/
def noticeKind : Notice → Nat
  | .authRequest _ => 64
  | .journal _ _ _ => 65
  | .dropState _ => 66
  | .printer _ => 67
  | .screening _ => 68
  | .store _ _ _ _ _ _ => 69
  | .linkError _ => 70

/-- The bytes a good frame takes in the receive buffer. -/
def hostFrameSize (f : HostFrame) : Nat := 8 + f.body.length

/-- The receive buffer read as a stream of frames (R179): the good frames, the bytes left, and the number of discards. A
discarded frame gives its bytes back and the search goes on after its sync byte; bytes before a sync byte are passed
over. The first argument bounds the search; a search of as many rounds as there are bytes, and one more, is whole. -/
def scanHost : Nat → List Byte → List HostFrame × List Byte × Nat
  | 0, bs => ([], bs, 0)
  | fuel + 1, bs =>
    match bs.dropWhile (· != 90#8) with
    | s :: l1 :: l2 :: rest =>
      let len := beValue [l1, l2]
      if 1024 < len then
        let r := scanHost fuel (l1 :: l2 :: rest)
        (r.1, r.2.1, r.2.2 + 1)
      else if rest.length < len + 5 then ([], s :: l1 :: l2 :: rest, 0)
      else
        let covered := l1 :: l2 :: rest.take (len + 3)
        if beValue ((rest.drop (len + 3)).take 2) == (crc16 covered).toNat then
          let r := scanHost fuel (rest.drop (len + 5))
          ({ tag := BitVec.ofNat 16 (beValue (rest.take 2)), kind := (rest.drop 2).headD 0#8
             body := (rest.drop 3).take len } :: r.1, r.2.1, r.2.2)
        else
          let r := scanHost fuel (l1 :: l2 :: rest)
          (r.1, r.2.1, r.2.2 + 1)
    | left => ([], left, 0)

/-- The bytes of a token, all zero when absent. -/
def tokenBytes : Option Token → List Byte
  | some t => BitVec.ofNat 8 t.scheme.val :: t.bytes.toList
  | none => List.replicate 17 0#8

/-- The body of the AUTH_REQUEST notice, 29 bytes (R195). -/
def authNoticeBytes (n : AuthNotice) : List Byte :=
  beBytes 1 n.drop.val ++ beBytes 2 n.serial ++ beBytes 1 n.attempt ++ beBytes 4 n.sale ++ beBytes 4 n.frozen
    ++ tokenBytes n.token

/-! ## Sale journal record (R198) -/

/-- The flags byte of a journal record. -/
def flagsByte (f : PriceFlags) (withdrawn : Bool) : Nat :=
  f.inexact.toNat + 2 * f.noFare.toNat + 4 * f.ceiling.toNat + 8 * f.floor.toNat + 16 * withdrawn.toNat

/-- A seat entry, 8 bytes. -/
def seatEntryBytes (e : SeatEntry) : List Byte :=
  labelBytes e.label ++ beBytes 1 e.number ++ beBytes 1 (seatKindCode e.kind) ++ beBytes 1 (concessionCode e.concession)
    ++ beBytes 3 e.amount

/-- A snack entry, 8 bytes. -/
def snackEntryBytes (e : SnackEntry) : List Byte := beBytes 1 e.item ++ beBytes 4 e.serial ++ beBytes 3 e.amount

/-- The six totals, 4 bytes each. -/
def totalsBytes (t : Totals) : List Byte :=
  beBytes 4 t.seatSum ++ beBytes 4 t.snackSum ++ beBytes 4 t.rebate ++ beBytes 4 t.gross ++ beBytes 4 t.seatTax
    ++ beBytes 4 t.snackTax

/-- Approval code and scheme code, 7 bytes: zero in ZERO_SALE. -/
def paymentBytes : Payment → List Byte
  | .card approval scheme => textBytes approval ++ beBytes 1 scheme.val
  | .none => List.replicate 7 0#8

/-- The kind byte of a sale record: 1 SALE, 2 ZERO_SALE. -/
def saleKindByte : Payment → Nat
  | .card _ _ => 1
  | .none => 2

/-- The bytes of a journal record; a TIMEOUT_VOID record is 17 bytes. -/
def journalRecordBytes : JournalRecord → List Byte
  | .sale r =>
    beBytes 1 (saleKindByte r.payment) ++ beBytes 4 r.sale ++ beBytes 1 r.drop.val ++ beBytes 2 r.serial
      ++ beBytes 2 (r.screening.getD 0) ++ siteTimeBytes r.time ++ beBytes 1 (flagsByte r.flags r.withdrawn)
      ++ beBytes 1 r.seats.length ++ beBytes 1 r.snacks.length ++ totalsBytes r.totals ++ paymentBytes r.payment
      ++ r.seats.flatMap seatEntryBytes ++ r.snacks.flatMap snackEntryBytes
  | .timeoutVoid v =>
    beBytes 1 3 ++ beBytes 4 v.sale ++ beBytes 1 v.drop.val ++ beBytes 2 v.serial ++ siteTimeBytes v.time
      ++ beBytes 4 v.frozen

/-! ## Records whose layout the spec leaves open (R192; notes/assumptions/9.md, 48.md)

A record is written as its fields whose encoding R192 gives, in the order its rule names them, with open bytes before, between and
after them. -/

/-- Fields with the bytes that stand before each of them and after the last. -/
def spread (before : Nat → List Byte) : Nat → List (List Byte) → List Byte
  | place, [] => before place
  | place, f :: rest => before place ++ f ++ spread before (place + 1) rest

/-- A record: what it holds beside its fields, and the fields. -/
def framed {α : Type} (r : Config.OpenRecord) (x : α) (fields : List (List Byte)) : List Byte :=
  spread (Config.bytesBefore r · x) 0 fields

/-- A number of a record, high byte first. -/
def num (r : Config.OpenRecord) (place n : Nat) : List Byte := beBytes (Config.numberWidth r place) n

/-- An optional number whose range leaves 0 out: 0 when absent. -/
def optNum (r : Config.OpenRecord) (place : Nat) (n : Option Nat) : List Byte := num r place (n.getD 0)

/-- The numbers of a record from a place on. -/
def nums (r : Config.OpenRecord) : Nat → List Nat → List (List Byte)
  | _, [] => []
  | place, n :: rest => num r place n :: nums r (place + 1) rest

/-! ### Parts of several records -/

/-- A seat's state as a reply shows it (R21). -/
def seatShownBytes : SeatShown → List Byte
  | .held d => framed .heldSeat () (nums .heldSeat 0 [d.val])
  | .sold sale origin => framed .soldSeat origin (nums .soldSeat 0 [sale])
  | .free => framed .seatState SeatShown.free []
  | .blocked => framed .seatState SeatShown.blocked []

/-- The four counts of a screening (R16). -/
def countsBytes (c : SeatCounts) : List Byte :=
  framed .counts () (nums .counts 0 [c.free, c.held, c.sold, c.blocked])

/-- One position of a queried row: its kind in the codes of R192, and for a seat its number and state (R21). -/
def rowPositionBytes : RowPosition → List Byte
  | .aisle => framed .rowAisle () [beBytes 1 4]
  | .seat k n st =>
    framed .rowSeat () [beBytes 1 (seatKindCode k), num .rowSeat 0 n, seatShownBytes st]

/-- The written marks, both 0 when absent: the ranges of the marks leave 0 out (R122). -/
def optMarksBytes (m : Option Marks) : List Byte :=
  framed .marks () [optNum .marks 0 (m.map (·.sale)), optNum .marks 1 (m.map (·.voucher))]

/-- What the FAU says of one line (R76, R80). -/
def lineOutcomeBytes : LineOutcome → List Byte
  | .priced amount i n c => framed .lineOutcome (i, n, c) (nums .lineOutcome 0 [amount])
  | .refused code => framed .lineOutcome code []

/-! ### Host replies -/

/-- The values past stage 1 of a FARE_QUOTE in the order of R80: F, q, d, Q, ρ, A1 and A2; q alone when the rest is absent. -/
def quoteNumbers (q : Quote) : List Nat :=
  match q.stages with
  | some st =>
    [st.fare, st.overlayFactor, st.daypartFactor, st.quotient, st.remainder, st.rounded, st.surcharged]
  | none => [q.factor]

/-- The state of a voucher entry, with its redemption time and counter drop (R131). -/
def voucherStateBytes : VoucherState → List Byte
  | .redeemed t d => framed .redemption () [siteTimeBytes t, num .redemption 0 d.val]
  | .issued => framed .redemption VoucherState.issued []
  | .voided => framed .redemption VoucherState.voided []

/-- The site settings (R187). -/
def settingsBytes (x : SiteSettings) : List Byte :=
  framed .settings (x.pricing.rounding, x.pricing.noFareMasked, x.pricing.ceilingMasked, x.printLater)
    (nums .settings 0
      [x.pricing.lineCeiling, x.pricing.houseFare, x.pricing.rebate, x.pricing.seatTax, x.pricing.snackTax, x.backlog,
       x.retention, x.hold, x.cardWait, x.authTimeout])

/-- A drop as STATUS shows it (R189). -/
def dropShownBytes (x : DropShown) : List Byte := framed .dropShown x []

/-- The reply of STATUS (R189). -/
def statusBytes (r : StatusReport) : List Byte :=
  framed .status (r.partState, r.straps, r.conditions, r.levels, r.storeMode)
    ([siteTimeBytes r.clock, settingsBytes r.settings] ++ nums .status 0 [r.generation, r.discards] ++
      [r.drops.flatMap dropShownBytes, optNum .status 2 r.saleCounter, optNum .status 3 r.voucherCounter,
       optMarksBytes r.written] ++
      nums .status 4 [r.journalRecords, r.journalReservations, r.usedVouchers, r.reservedVouchers] ++
      [r.queues.flatMap fun q => framed .queueShown () (nums .queueShown 0 [q.1, q.2])])

/-- The data that follows the status code of a host reply. An entry of SEAT_REFUND's OK carries the seat address before the sale number
and origin that R20 names (DESIGN CHOICE; notes/assumptions/51.md). -/
def hostDataBytes : HostData → List Byte
  | .none => []
  | .partState p => framed .partState p []
  | .sellable n => framed .sellable () (nums .sellable 0 [n])
  | .seat a => seatAddrBytes a
  | .seatState a st => framed .foundSeat () [seatAddrBytes a, seatShownBytes st]
  | .refused l =>
    framed .refusedSeats l.length
      [l.flatMap fun x => framed .refusedSeat x.code [seatAddrBytes x.addr, (x.state.map seatShownBytes).getD []]]
  | .refunded l =>
    framed .refundedSeats l.length
      [l.flatMap fun x => framed .refundedSeat x.origin [seatAddrBytes x.addr, num .refundedSeat 0 x.sale]]
  | .row r =>
    framed .rowReport (r.positions.length, r.state, r.withdrawn)
      [labelBytes r.label, r.positions.flatMap rowPositionBytes, countsBytes r.counts]
  | .entry index g => framed .entry index (nums .entry 0 [g])
  | .generation g => framed .generation () (nums .generation 0 [g])
  | .quote q =>
    framed .quote (q.overlay, q.stages.isSome)
      (nums .quote 0 (quoteNumbers q) ++ [lineOutcomeBytes q.outcome, num .quote 7 q.generation])
  | .journal r records reservations =>
    framed .journalRead () (journalRecordBytes r :: nums .journalRead 0 [records, reservations])
  | .left n => framed .left () (nums .left 0 [n])
  | .oldest sale => framed .oldest () (nums .oldest 0 [sale])
  | .voucher e =>
    framed .voucherEntry ()
      (nums .voucherEntry 0 [e.serial, e.item, e.amount, e.sale] ++
        [optNum .voucherEntry 4 e.screening, siteTimeBytes e.validUntil, voucherStateBytes e.state])
  | .reservation r => framed .reservation () (nums .reservation 0 [r.drop.val, r.first, r.count])
  | .items n => framed .items () (nums .items 0 [n])
  | .time t => siteTimeBytes t
  | .site clamped g => framed .site clamped (nums .site 0 [g])
  | .status r => statusBytes r

/-! ### Notices (R182) -/

/-- The tag of a print item (R148), both numbers 0 when absent: their ranges leave 0 out. -/
def optTagBytes (t : Option PrintTag) : List Byte :=
  framed .printTag () [optNum .printTag 0 (t.map (·.sale)), optNum .printTag 1 (t.map (·.index))]

/-- The body of a notice. -/
def noticeBody : Notice → List Byte
  | .authRequest n => authNoticeBytes n
  | .journal records reservations oldest =>
    framed .journal () [num .journal 0 records, num .journal 1 reservations, optNum .journal 2 oldest]
  | .dropState l =>
    framed .dropState () [l.flatMap fun x => framed .dropNotice (x.kind, x.supply, x.state) (nums .dropNotice 0 [x.misses])]
  | .printer l =>
    framed .printer l.length
      [l.flatMap fun x =>
        framed .printerNotice (x.printer, x.paperLow)
          (nums .printerNotice 0 [x.drop.val, x.retries, x.items, x.reserved] ++ [optTagBytes x.head])]
  | .screening l =>
    framed .screenings l.length
      [l.flatMap fun x =>
        framed .screeningNotice (x.state, x.withdrawn) [num .screeningNotice 0 x.number, countsBytes x.counts]]
  | .store mode op written sale voucher failure =>
    framed .store (mode, op, failure) [optMarksBytes written, optNum .store 0 sale, optNum .store 1 voucher]
  | .linkError n => framed .linkError () (nums .linkError 0 [n])

/-! ### Host frames out -/

/-- A host reply as a frame: kind plus 128, the request's tag, the status code and the data (R195). -/
def hostReplyBytes (r : HostReply) : List Byte :=
  hostFrameBytes r.request.tag (replyKind r.request.kind) (beBytes 1 (codeValue r.code) ++ hostDataBytes r.data)

/-- The bytes of an outbound host frame; a notice carries tag 0. -/
def hostOutBytes : HostOut → List Byte
  | .reply r => hostReplyBytes r
  | .notice n => hostFrameBytes 0#16 (noticeKind n) (noticeBody n)

/-! ## Print items (R199) and voucher codes (R138) -/

/-- The `n` decimal digits of a number, most significant first. -/
def decimalDigits : Nat → Nat → List Nat
  | 0, _ => []
  | n + 1, v => (v / 10 ^ n) % 10 :: decimalDigits n v

/-- The check digits of a voucher serial (R138). -/
def checkDigits (serial : Nat) : Nat := 98 - (serial * 100) % 97

/-- The code of a voucher: eight digits of its serial and its two check digits (R138). -/
def voucherCode (serial : Nat) : List Nat := decimalDigits 8 serial ++ decimalDigits 2 (checkDigits serial)

/-- Digits packed two to a byte, high digit first. -/
def packDigits : List Nat → List Byte
  | hi :: lo :: rest => BitVec.ofNat 8 (hi * 16 + lo) :: packDigits rest
  | _ => []

/-- A TICKET, 19 bytes. -/
def ticketBytes (t : Ticket) : List Byte :=
  beBytes 4 t.sale ++ beBytes 1 t.index ++ beBytes 2 t.screening ++ beBytes 2 t.startDay ++ beBytes 2 t.startMinute
    ++ beBytes 1 t.auditorium ++ labelBytes t.label ++ beBytes 1 t.number ++ beBytes 1 (concessionCode t.concession)
    ++ beBytes 3 t.amount

/-- The lines of a RECEIPT: a seat line is 8 bytes and a snack line 9, each snack line taking the next voucher code. -/
def summaryBytes : List SummaryLine → List (List Nat) → List Byte
  | [], _ => []
  | .seat label number c amount :: rest, codes =>
    beBytes 1 1 ++ labelBytes label ++ beBytes 1 number ++ beBytes 1 (concessionCode c) ++ beBytes 3 amount
      ++ summaryBytes rest codes
  | .snack item amount :: rest, codes =>
    beBytes 1 2 ++ beBytes 1 item ++ beBytes 2 amount ++ packDigits (codes.headD (List.replicate 10 0))
      ++ summaryBytes rest codes.tail

/-- A RECEIPT. -/
def receiptBytes (r : Receipt) : List Byte :=
  beBytes 4 r.sale ++ beBytes 1 r.index ++ beBytes 3 r.gross ++ beBytes 3 r.seatTax ++ beBytes 3 r.snackTax
    ++ (match r.approval with
        | some a => textBytes a
        | none => List.replicate 6 0#8)
    ++ beBytes 1 r.lines.length ++ summaryBytes r.lines r.codes

/-- A print item. -/
def printItemBytes : PrintItem → List Byte
  | .ticket t => ticketBytes t
  | .receipt r => receiptBytes r

/-! ## Kiosk-line frames (R196, R197) -/

/-- The line of a drop (R165). -/
def dropLine (d : Drop) : LineId := if d.val < 8 then .a else .b

/-- The drop at place `i` (address i + 1) of a line (R165). -/
def dropAt : LineId → Fin 8 → Drop
  | .a, i => ⟨i.val, by omega⟩
  | .b, i => ⟨i.val + 8, by omega⟩

/-- The address character of a drop: the marker, the line times 16, and the address 1 to 8. -/
def dropAddress (d : Drop) : BitVec 9 :=
  BitVec.ofNat 9 (256 + (if d.val < 8 then 0 else 16) + d.val % 8 + 1)

/-- The kind bits of an outbound control byte. -/
def sentKind : SentFrame → Nat
  | .sync => 0
  | .pollInDoubt => 1
  | .poll => 1
  | .body .reply _ _ => 2
  | .body .reader _ _ => 3
  | .body .pushBasket _ _ => 4
  | .body .pushTender _ _ => 5
  | .body .pushSlot _ _ => 6
  | .body .print _ _ => 7

/-- The frame toggle: 0 on a SYNC or a bare poll. -/
def sentToggle : SentFrame → Bool
  | .body _ t _ => t
  | _ => false

/-- The outbound control byte (R197). The acknowledged toggle to a drop whose in toggle is NONE, and the BUSY toggle without a BUSY
mark, are free values: the spec gives them none (notes/assumptions/49.md). -/
def outControl (d : Drop) (sent : SentFrame) (inToggle busy : Option Bool) : Byte :=
  BitVec.ofNat 8 (128 * (sentToggle sent).toNat + 64 * (inToggle.getD (Config.idleAckToggle d sent)).toNat
    + 32 * inToggle.isSome.toNat + 16 * busy.isSome.toNat + 8 * (busy.getD (Config.idleBusyToggle d sent)).toNat
    + sentKind sent)

/-! ### Records for drops (R36, R92, R99; notes/assumptions/9.md, 48.md) -/

/-- A slot in use of a line stack with its slot index: for a SEAT line screening, seat address, kind, concession, amount and
generation, for a SNACK line item, amount and generation (R25, R36). -/
def basketLineBytes (x : BasketLine × Nat) : List Byte :=
  match x.1 with
  | .seat n a k c m g =>
    framed .seatLine ()
      (nums .seatLine 0 [x.2, n] ++
        [seatAddrBytes a, beBytes 1 (seatKindCode k), beBytes 1 (concessionCode c)] ++ nums .seatLine 2 [m, g])
  | .snack item m g => framed .snackLine () (nums .snackLine 0 [x.2, item, m, g])
  | .void => framed .voidLine () (nums .voidLine 0 [x.2])

/-- The six totals of a basket in a record for its drop (R36, R78). -/
def basketTotalsBytes (t : Totals) : List Byte :=
  framed .totals () (nums .totals 0 [t.seatSum, t.snackSum, t.rebate, t.gross, t.seatTax, t.snackTax])

/-- The record of a basket (R36). -/
def basketRecordBytes (b : BasketRecord) : List Byte :=
  framed .basket (b.state, b.lines.length, b.flags, b.frozen.isSome, b.stale)
    ([num .basket 0 b.serial, b.lines.zipIdx.flatMap basketLineBytes, basketTotalsBytes b.totals] ++
      nums .basket 1 [b.countdown, b.extensions, b.attempts] ++ (b.frozen.map (num .basket 4)).toList)

/-- A basket push: its reason with UNFROZEN's cause, the basket, and with SOLD the sale number (R36). -/
def basketPushBytes (p : BasketPush) : List Byte :=
  match p.reason with
  | .sold sale => framed .soldPush () [basketRecordBytes p.basket, num .basketPush 0 sale]
  | r => framed .basketPush r [basketRecordBytes p.basket, optNum .basketPush 0 none]

/-- The item code and the screening number of a voucher, the latter 0 when absent (R140). -/
def itemAndScreening (item : Nat) (screening : Option Nat) : List (List Byte) :=
  [num .voucherKnown 0 item, optNum .voucherKnown 1 screening]

/-- What a voucher reply adds to the code as presented: item code, screening number when present, and what the reply names (R140 to
R142). -/
def voucherDetailBytes : VoucherDetail → List Byte
  | .none => []
  | .entry item sc => framed .voucherKnown () (itemAndScreening item sc)
  | .already item sc t d => framed .voucherAlready () (itemAndScreening item sc ++ [siteTimeBytes t, num .voucherAlready 0 d.val])
  | .expired item sc t => framed .voucherExpired () (itemAndScreening item sc ++ [siteTimeBytes t])
  | .served item sc serial sale =>
    framed .voucherServed () (itemAndScreening item sc ++ nums .voucherServed 0 [serial, sale])
  | .servable item sc serial sale t =>
    framed .voucherServable () (itemAndScreening item sc ++ nums .voucherServable 0 [serial, sale] ++ [siteTimeBytes t])

/-- What a reply to a drop names beside its code, serial and basket. -/
def replyDetailBytes : ReplyDetail → List Byte
  | .none => []
  | .seat a => seatAddrBytes a
  | .seatState a st => framed .foundSeat () [seatAddrBytes a, seatShownBytes st]
  | .line slot => framed .line () (nums .line 0 [slot])
  | .countdown n => framed .countdown () (nums .countdown 0 [n])
  | .placement split score seats =>
    framed .placement (split, seats.length)
      [num .placement 0 score,
       seats.flatMap fun x =>
        framed .placedSeat () [seatAddrBytes x.addr, labelBytes x.label, num .placedSeat 0 x.number]]
  | .tender st attempt frozen =>
    framed .tender (st, frozen.isSome) (optNum .tender 0 attempt :: (frozen.map (num .tender 1)).toList)
  | .voucher code v => framed .voucherReply () [textBytes code, voucherDetailBytes v]

/-- What follows the status code in a reply to a drop: the basket serial and the basket, when it carries them, and its detail (R28,
R36). -/
def dropReplyBytes (r : DropReply) : List Byte :=
  framed .dropReply (r.serial.isSome, r.basket.isSome)
    ((r.serial.map (num .dropReply 0)).toList ++ (r.basket.map basketRecordBytes).toList ++ [replyDetailBytes r.detail])

/-- The body of a tender state push (R99). An absent basket serial, amount or countdown is left out, and an absent attempt number or sale
number is 0 (R192; for the serial DESIGN CHOICE, notes/assumptions/54.md). -/
def tenderPushBytes (p : TenderPush) : List Byte :=
  framed .tenderPush (p.state, p.serial.isSome, p.frozen.isSome, p.cardWait.isSome, p.outcome)
    ((p.serial.map (num .tenderPush 0)).toList ++ (p.frozen.map (num .tenderPush 1)).toList ++ [optNum .tenderPush 2 p.attempt]
      ++ (p.cardWait.map (num .tenderPush 3)).toList ++ [optNum .tenderPush 4 p.sale])

/-- The body of a waiting frame. A reply's first byte is its status code (R201); a READER frame and a slot push hold no field that
R192 encodes (R87, R90, R92). -/
def outBody : OutFrame → List Byte
  | .reply r => beBytes 1 (codeValue r.code) ++ dropReplyBytes r
  | .reader c => framed .reader c []
  | .basketPush p => basketPushBytes p
  | .tenderPush p => tenderPushBytes p
  | .slotPush p => framed .slotPush p []
  | .print i => printItemBytes i

/-- The body of what a visit sends. -/
def sentBody : SentFrame → List Byte
  | .body _ _ f => outBody f
  | _ => []

/-- The bytes after the address character: control, length, body and CRC-16 (R196). The body is sent whole and the length byte is its
length modulo 256: R196 has a length of 0 to 120, and no layout shows how a record longer than that goes into it (DESIGN CHOICE;
notes/assumptions/57.md). -/
def outFrameBytes (d : Drop) (sent : SentFrame) (inToggle busy : Option Bool) : List Byte :=
  let body := sentBody sent
  let covered := [outControl d sent inToggle busy, BitVec.ofNat 8 body.length] ++ body
  covered ++ beBytes 2 (crc16 ((dropAddress d).setWidth 8 :: covered)).toNat

/-- The kind test of an answer (R197). -/
def answerKindOk (a : Answer) : Bool :=
  if a.control.getLsbD 4 then
    match a.body with
    | [] => false
    | c :: _ => 1 ≤ c.toNat && c.toNat ≤ 19
  else a.length == 0#8 && a.control.extractLsb' 0 4 == 0#4

/-- Whether an answer to a visit to this drop is good, but for its timing (R172). -/
def answerGood (d : Drop) (a : Answer) : Bool :=
  a.addr == dropAddress d && a.length.toNat ≤ 120 && a.body.length == a.length.toNat
    && a.crc == crc16 (a.addr.setWidth 8 :: a.control :: a.length :: a.body) && answerKindOk a

/-- The frame toggle of an answer. -/
def answerToggle (a : Answer) : Bool := a.control.getLsbD 7

/-- The taken toggle of an answer. -/
def answerTaken (a : Answer) : Bool := a.control.getLsbD 6

/-- The hold-off flag of an answer. -/
def answerHoldOff (a : Answer) : Bool := a.control.getLsbD 5

/-- Whether an answer carries an inbound frame. -/
def answerPresent (a : Answer) : Bool := a.control.getLsbD 4

/-! ## Counter store record (R200) -/

/-- The nine bytes of the marks. -/
def marksBytes (m : Marks) : List Byte := beBytes 5 m.sale ++ beBytes 4 m.voucher

/-- The counter store record: the marks and their CRC-8. -/
def storeRecordBytes (m : Marks) : List Byte := marksBytes m ++ [crc8 (marksBytes m)]

/-- Whether the marks are in range (R122). -/
def marksInRange (m : Marks) : Bool :=
  1 ≤ m.sale && m.sale ≤ 4294967296 && 1 ≤ m.voucher && m.voucher ≤ 100000000

/-- The marks of the bytes a read try received, when the try succeeds: ten bytes, a matching CRC-8 and marks in range. -/
def readMarks (bs : List Byte) : Option Marks :=
  let m : Marks := { sale := beValue (bs.take 5), voucher := beValue ((bs.drop 5).take 4) }
  if bs.length == 10 && bs.getLast? == some (crc8 (bs.take 9)) && marksInRange m then some m else none

end Sys2Proof.Machine
end

