-- ==== Sys2Proof/Machine/Ops.lean ====
section
/-! DEFINITION. The operations every block shares: reading and replacing one record, sending and taking orders, outbound slots,
notice conditions, host replies, layout and seat lookups, and site time. -/

namespace Sys2Proof.Machine

/-! ## One record of a block -/

def State.basket (s : State) (d : Drop) : Basket := vget s.sbu.baskets d
def State.setBasket (s : State) (d : Drop) (b : Basket) : State :=
  { s with sbu := { s.sbu with baskets := vput s.sbu.baskets d b } }

def State.screening (s : State) (i : Fin 16) : Option Screening := vget s.sbu.screenings i
def State.setScreening (s : State) (i : Fin 16) (sc : Option Screening) : State :=
  { s with sbu := { s.sbu with screenings := vput s.sbu.screenings i sc } }

def State.layout (s : State) (i : Fin 8) : Layout := vget s.sbu.layouts i
def State.setLayout (s : State) (i : Fin 8) (l : Layout) : State :=
  { s with sbu := { s.sbu with layouts := vput s.sbu.layouts i l } }

def State.reader (s : State) (d : Drop) : ReaderSlot := vget s.tdu.readers d
def State.setReader (s : State) (d : Drop) (r : ReaderSlot) : State :=
  { s with tdu := { s.tdu with readers := vput s.tdu.readers d r } }

def State.session (s : State) (d : Drop) : Session := vget s.tdu.sessions d
def State.setSession (s : State) (d : Drop) (x : Session) : State :=
  { s with tdu := { s.tdu with sessions := vput s.tdu.sessions d x } }

def State.printer (s : State) (d : Drop) : Printer := vget s.pru.printers d
def State.setPrinter (s : State) (d : Drop) (p : Printer) : State :=
  { s with pru := { s.pru with printers := vput s.pru.printers d p } }

def State.queue (s : State) (d : Drop) : List PrintItem := vget s.pru.queues d
def State.setQueue (s : State) (d : Drop) (q : List PrintItem) : State :=
  { s with pru := { s.pru with queues := vput s.pru.queues d q } }

def State.dropRec (s : State) (d : Drop) : DropRecord := vget s.klc.drops d
def State.setDropRec (s : State) (d : Drop) (r : DropRecord) : State :=
  { s with klc := { s.klc with drops := vput s.klc.drops d r } }

def State.line (s : State) : LineId → KioskLine
  | .a => s.klc.lineA
  | .b => s.klc.lineB
def State.setLine (s : State) : LineId → KioskLine → State
  | .a, k => { s with klc := { s.klc with lineA := k } }
  | .b, k => { s with klc := { s.klc with lineB := k } }

def State.setJnu (s : State) (j : Jnu) : State := { s with jnu := j }
def State.setVcu (s : State) (v : Vcu) : State := { s with vcu := v }
def State.setPru (s : State) (p : Pru) : State := { s with pru := p }
def State.setFau (s : State) (f : Fau) : State := { s with fau := f }
def State.setHlc (s : State) (h : Hlc) : State := { s with hlc := h }

/-! ## Orders between blocks (R190; notes/assumptions/1.md, 2.md) -/

/-- The owner takes an order: its oldest occurrence is no longer on its way. -/
def State.accept (s : State) (c : Instr) : State := { s with orders := s.orders.erase c }

/-- A block sends orders, in this order. -/
def State.send (s : State) (cs : List Instr) : State := { s with orders := s.orders ++ cs }

/-! ## Drops and their outbound slots (R165, R168) -/

/-- Whether a drop is configured KIOSK, as the KLC holds it. -/
def State.isKiosk (s : State) (d : Drop) : Bool := (s.dropRec d).kind == .kiosk

/-- The place of a slot in rank order. -/
def slotIndex : SlotId → Fin 6
  | .reply => 0
  | .reader => 1
  | .pushBasket => 2
  | .pushTender => 3
  | .pushSlot => 4
  | .print => 5

/-- The entry of a slot. -/
def State.slot (s : State) (d : Drop) (i : SlotId) : Option SlotEntry := vget (s.dropRec d).slots (slotIndex i)

/-- A drop record with a slot's entry replaced. -/
def DropRecord.setSlot (r : DropRecord) (i : SlotId) (e : Option SlotEntry) : DropRecord :=
  { r with slots := vput r.slots (slotIndex i) e }

/-- A block places a frame in a slot, replacing the one that waits (R168). -/
def State.place (s : State) (d : Drop) (i : SlotId) (f : OutFrame) : State :=
  s.setDropRec d ((s.dropRec d).setSlot i (some { frame := f, sent := false }))

/-- The owner withdraws a waiting frame: the slot is emptied (R168). -/
def State.withdraw (s : State) (d : Drop) (i : SlotId) : State :=
  s.setDropRec d ((s.dropRec d).setSlot i none)

/-- The answer to a drop's request goes into its REPLY slot (R168). -/
def State.replyDrop (s : State) (d : Drop) (r : DropReply) : State := s.place d .reply (.reply r)

/-- A reply that carries a code alone. -/
def bareReply (c : Code) : DropReply := { code := c, serial := none, basket := none, detail := .none }

/-! ## Notice conditions and host replies (R181, R182) -/

/-- A pending notice condition (R182). -/
inductive Condition where
  | auth (d : Drop)
  | journal | dropState | printer | screening | store | linkError
  deriving DecidableEq, Repr

/-- The conditions with one set or cleared. -/
def Conditions.put (c : Conditions) (k : Condition) (v : Bool) : Conditions :=
  match k with
  | .auth d => { c with auth := vput c.auth d v }
  | .journal => { c with journal := v }
  | .dropState => { c with dropState := v }
  | .printer => { c with printer := v }
  | .screening => { c with screening := v }
  | .store => { c with store := v }
  | .linkError => { c with linkError := v }

/-- Whether a condition is raised. -/
def Conditions.raised (c : Conditions) : Condition → Bool
  | .auth d => vget c.auth d
  | .journal => c.journal
  | .dropState => c.dropState
  | .printer => c.printer
  | .screening => c.screening
  | .store => c.store
  | .linkError => c.linkError

/-- The owner of a condition raises it; a raised one stays raised (R182). -/
def State.raise (s : State) (k : Condition) : State :=
  s.setHlc { s.hlc with conditions := s.hlc.conditions.put k true }

/-- A condition is cleared without being sent (R182, R98). -/
def State.unraise (s : State) (k : Condition) : State :=
  s.setHlc { s.hlc with conditions := s.hlc.conditions.put k false }

/-- An owner's answer joins the reply queue at its tail, and the HLC handles no request of that tag any more (R181). The queue
holds at most 4 (notes/assumptions/14.md). -/
def State.replyHost (s : State) (h : HostTag) (code : Code) (data : HostData) : State :=
  s.setHlc { s.hlc with
    handling := if s.hlc.handling == some h then none else s.hlc.handling
    replies := if s.hlc.replies.length < 4 then s.hlc.replies ++ [{ request := h, code := code, data := data }]
      else s.hlc.replies }

/-! ## Layouts and seats (R1, R2, R15, R17) -/

/-- The rows taken of a layout (R1). -/
def Layout.rowsTaken (l : Layout) : Nat := l.rows.length

/-- The position kind at an address, when the row and the position exist. -/
def Layout.kindAt (l : Layout) (a : SeatAddr) : Option PosKind := (l.rows[a.row]?).bind fun r => r.kinds[a.pos]?

/-- The seat kind of a position kind that is a seat. -/
def seatOfPos : PosKind → Option SeatKind
  | .standard => some .standard
  | .premium => some .premium
  | .wheelchair => some .wheelchair
  | .companion => some .companion
  | .aisle => none

/-- The kind of the seat at an address; absent when the seat does not exist (R17). -/
def Layout.seatKind (l : Layout) (a : SeatAddr) : Option SeatKind := (l.kindAt a).bind seatOfPos

/-- Whether a seat exists: its row is below the row count, its position below the row's length and not AISLE (R17). -/
def Layout.seatExists (l : Layout) (a : SeatAddr) : Bool := a.row < l.rowCount && (l.seatKind a).isSome

/-- The seat number of a position: the non-AISLE positions from 0 up to and including it (R2). -/
def rowSeatNumber (kinds : List PosKind) (pos : Nat) : Nat := ((kinds.take (pos + 1)).filter (· != .aisle)).length

/-- The seat number of an address (R2). -/
def Layout.seatNumber (l : Layout) (a : SeatAddr) : Nat :=
  match l.rows[a.row]? with
  | some r => rowSeatNumber r.kinds a.pos
  | none => 0

/-- The label of a row. -/
def Layout.label (l : Layout) (row : Nat) : Text :=
  match l.rows[row]? with
  | some r => r.label
  | none => []

/-- The seats of a row that are not AISLE. -/
def rowSeatCount (r : LayoutRow) : Nat := (r.kinds.filter (· != .aisle)).length

/-- The sellable count: the non-AISLE positions over all rows (R2). -/
def Layout.countSeats (l : Layout) : Nat := (l.rows.map rowSeatCount).sum

/-- The addresses of the non-AISLE positions of a row. -/
def rowAddrs (row : Nat) (r : LayoutRow) : List SeatAddr :=
  (List.range r.kinds.length).filterMap fun p => if r.kinds[p]? == some .aisle then none else some { row := row, pos := p }

/-- The addresses of every non-AISLE position of a layout, row by row. -/
def Layout.seatAddrs (l : Layout) : List SeatAddr := (l.rows.zipIdx.map fun p => rowAddrs p.2 p.1).flatten

/-- The left neighbour of a seat within its segment (R2). -/
def Layout.leftOf (l : Layout) (a : SeatAddr) : Option SeatAddr :=
  if a.pos == 0 then none
  else if l.seatExists { a with pos := a.pos - 1 } then some { a with pos := a.pos - 1 } else none

/-- The right neighbour of a seat within its segment (R2). -/
def Layout.rightOf (l : Layout) (a : SeatAddr) : Option SeatAddr :=
  if l.seatExists { a with pos := a.pos + 1 } then some { a with pos := a.pos + 1 } else none

/-- The state of a screening's seat record (R15). -/
def Screening.stateAt (sc : Screening) (a : SeatAddr) : Option SeatState :=
  (sc.seats.find? fun r => r.addr == a).map (·.state)

/-- A seat's state as replies show it (R21). The state found of a NOT_FREE, NOT_BLOCKED or NOT_SOLD refusal is shown in the same
form, its fields with it: R18 to R20 and R29 name the state alone (DESIGN CHOICE; notes/assumptions/43.md). -/
def shown : SeatState → SeatShown
  | .free => .free
  | .held d _ => .held d
  | .sold n o => .sold n o
  | .blocked => .blocked

/-- The count of one state, raised by 1. -/
def SeatCounts.inc (c : SeatCounts) : SeatState → SeatCounts
  | .free => { c with free := c.free + 1 }
  | .held _ _ => { c with held := c.held + 1 }
  | .sold _ _ => { c with sold := c.sold + 1 }
  | .blocked => { c with blocked := c.blocked + 1 }

/-- The count of one state, lowered by 1. -/
def SeatCounts.dec (c : SeatCounts) : SeatState → SeatCounts
  | .free => { c with free := c.free - 1 }
  | .held _ _ => { c with held := c.held - 1 }
  | .sold _ _ => { c with sold := c.sold - 1 }
  | .blocked => { c with blocked := c.blocked - 1 }

/-- One seat record changes state and the two counts move by 1 (R16). -/
def Screening.setSeat (sc : Screening) (a : SeatAddr) (new : SeatState) : Screening :=
  match sc.stateAt a with
  | none => sc
  | some old =>
    { sc with
      counts := (sc.counts.dec old).inc new
      seats := sc.seats.map fun r => if r.addr == a then { r with state := new } else r }

/-- The slot and record of a screening number (R6). -/
def State.findScreening (s : State) (number : Nat) : Option (Fin 16 × Screening) :=
  (List.finRange 16).findSome? fun i =>
    match s.screening i with
    | some sc => if sc.number == number then some (i, sc) else none
    | none => none

/-! ## Site time (R6, R137, R185, R186) -/

/-- A site time in seconds across days (R186). -/
def siteSeconds (t : SiteTime) : Nat := t.day * 86400 + t.second

/-- The site time of a number of seconds. -/
def siteTimeOf (seconds : Nat) : SiteTime := { day := seconds / 86400, second := seconds % 86400 }

/-- The site time at second 0 of a minute of a day, the minute carried over midnight. -/
def minuteStart (day minute : Nat) : SiteTime := siteTimeOf (day * 86400 + minute * 60)

/-- The close time of a screening (R6). -/
def Screening.closeTime (sc : Screening) : SiteTime := minuteStart sc.startDay (sc.startMinute + sc.lateSale)

/-- Whether one time is not later than another. -/
def notLater (a b : SiteTime) : Bool := siteSeconds a ≤ siteSeconds b

/-- A list without repeats of any member. -/
def noRepeats : List SeatAddr → Bool
  | [] => true
  | a :: rest => !rest.contains a && noRepeats rest

end Sys2Proof.Machine
end

