-- ==== Sys2Proof/Machine/Transmit.lean ====
section
/-! DEFINITION. The HLC's transmitter: what each notice carries, and the choice of the next outbound frame (R182 to R184). -/

namespace Sys2Proof.Machine

/-- The entries reserved in the voucher table (R133). -/
def Vcu.reservedCount (v : Vcu) : Nat := (v.reservations.map (·.count)).sum

/-- The reserved count of a drop's queue (R149). -/
def Pru.reservedFor (p : Pru) (d : Drop) : Nat := ((p.reservations.filter (·.drop == d)).map (·.count)).sum

/-- The tag of a print item (R148). -/
def itemTag : PrintItem → PrintTag
  | .ticket t => { sale := t.sale, index := t.index }
  | .receipt r => { sale := r.sale, index := r.index }

/-- The sale number of a journal record. -/
def recordSale : JournalRecord → Nat
  | .sale r => r.sale
  | .timeoutVoid v => v.sale

/-- The AUTH_REQUEST notice of a drop, as its session holds it (R101). -/
def State.authNotice (s : State) (d : Drop) : AuthNotice :=
  let x := s.session d
  { drop := d, serial := (x.start.map (·.serial)).getD 0, attempt := x.attempt.getD 0, sale := x.journalGrant.getD 0
    frozen := (x.start.map (·.frozen)).getD 0, token := x.token }

/-- What the PRINTER notice carries of a drop configured KIOSK (R162). -/
def State.printerNotice (s : State) (d : Drop) : PrinterNotice :=
  let p := s.printer d
  { drop := d, printer := p.state, paperLow := p.paperLow, retries := p.retries, items := (s.queue d).length
    reserved := s.pru.reservedFor d, head := (s.queue d).head?.map itemTag }

/-- What the SCREENING notice carries of a screening (R13). -/
def screeningNotice (sc : Screening) : ScreeningNotice :=
  { number := sc.number, state := sc.state, withdrawn := sc.withdrawn, counts := sc.counts }

/-- What the DROP_STATE notice carries of a drop (R167). -/
def dropNotice (r : DropRecord) : DropNotice := { kind := r.kind, supply := r.supply, state := r.state, misses := r.misses }

/-- The content of a notice, as its owner holds it now (R182). STORE's counters are those the JNU holds: the voucher counter is the
one last reported to its controller (R124, R125). No rule gives the order of what SCREENING, DROP_STATE and PRINTER list: the model goes by
screening slot and by drop (DESIGN CHOICE; notes/assumptions/55.md). -/
def State.notice (s : State) : Condition → Notice
  | .auth d => .authRequest (s.authNotice d)
  | .journal => .journal s.jnu.journal.length s.jnu.reservations.length (s.jnu.journal.head?.map recordSale)
  | .dropState => .dropState (s.klc.drops.toList.map dropNotice)
  | .printer => .printer (((List.finRange 16).filter s.isKiosk).map s.printerNotice)
  | .screening => .screening ((s.sbu.screenings.toList.filterMap id).map screeningNotice)
  | .store =>
    .store s.jnu.store.mode s.jnu.store.op s.jnu.store.written s.jnu.saleCounter s.jnu.store.voucherCounter s.jnu.store.failure
  | .linkError => .linkError s.hlc.discards

/-- The level of a condition's kind (R183). -/
def levelOf (l : Levels) : Condition → Level
  | .auth _ => l.authRequest
  | .journal => l.journal
  | .dropState => l.dropState
  | .printer => l.printer
  | .screening => l.screening
  | .store => l.store
  | .linkError => l.linkError

/-- The conditions in the order that breaks ties between equal levels (R184). -/
def conditionOrder : List Condition :=
  (List.finRange 16).map .auth ++ [.journal, .dropState, .printer, .screening, .store, .linkError]

/-- The raised conditions whose kind is not OFF, with their levels, in tie order (R184). -/
def Hlc.due (h : Hlc) : List (Condition × Nat) :=
  conditionOrder.filterMap fun c =>
    match h.conditions.raised c, levelOf h.levels c with
    | true, .value n => some (c, n)
    | _, _ => none

/-- The first of the entries of highest level. -/
def highest : List (Condition × Nat) → Option (Condition × Nat)
  | [] => none
  | e :: rest =>
    match highest rest with
    | none => some e
    | some best => if e.2 < best.2 then some best else some e

/-- A notice is started: its content is asked for, its condition cleared, and LINK_ERROR reads and zeroes the discard count
(R182). -/
def State.startNotice (s : State) (c : Condition) : State :=
  let frame := HostOut.notice (s.notice c)
  s.setHlc { s.hlc with
    tx := some { frame := frame, bytes := hostOutBytes frame }
    conditions := s.hlc.conditions.put c false
    discards := if c = .linkError then 0 else s.hlc.discards }

/-- On an idle link the transmitter chooses the next frame: the reply at the head of the queue, else the due notice of highest
level, else none (R184). A frame once started is sent whole, so on a busy link nothing is chosen. -/
def State.transmit (s : State) : State :=
  match s.hlc.tx with
  | some _ => s
  | none =>
    match s.hlc.replies with
    | r :: rest =>
      s.setHlc { s.hlc with tx := some { frame := .reply r, bytes := hostOutBytes (.reply r) }, replies := rest }
    | [] =>
      match highest s.hlc.due with
      | some (c, _) => s.startNotice c
      | none => s

/-- A command that may have placed a reply or raised a condition is done: an idle link takes up what is due (R184;
notes/assumptions/28.md). -/
def State.done (s : State) : Result := .next s.transmit

end Sys2Proof.Machine
end

