-- ==== Sys2Proof/Machine/Flags.lean ====
section
/-! DEFINITION. The four price flags of a basket: how the conditions of priced lines and the floor set them (R76, R78). -/

namespace Sys2Proof.Machine

/-- The flags with those of a priced line's conditions set; a refused line reports none, and a set flag stays set (R76). -/
def flagsWithLine (f : PriceFlags) : LineOutcome → PriceFlags
  | .priced _ inexact noFare ceiling =>
    { f with inexact := f.inexact || inexact, noFare := f.noFare || noFare, ceiling := f.ceiling || ceiling }
  | .refused _ => f

/-- The flags with those of every line's conditions set (R76). -/
def flagsWithLines (f : PriceFlags) (os : List LineOutcome) : PriceFlags := os.foldl flagsWithLine f

/-- The flags with FLOOR set when the totals met it (R76, R78). -/
def flagsWithFloor (f : PriceFlags) (floorMet : Bool) : PriceFlags := { f with floor := f.floor || floorMet }

end Sys2Proof.Machine
end

