-- ==== Sys2Proof/Machine/Pricing.lean ====
section
/-! DEFINITION. The Fare Unit: the price of a line, price orders and totals, and the host's requests on the pricing state
(04_fare_arithmetic, R63 to R82). -/

namespace Sys2Proof.Machine

/-! ## The price of a seat line (R71 to R75) -/

/-- The base tariff entry E(b,k,c) (R63). -/
def Fau.entry (f : Fau) (band : Nat) (k : SeatKind) (c : Concession) : Option Nat :=
  (f.tariff[band]?).bind fun row => (row[6 * seatKindCode k + concessionCode c]?).join

/-- A match field that is ANY or equal (R66). -/
def fieldMatches {α : Type} [BEq α] (m : Option α) (x : α) : Bool :=
  match m with
  | none => true
  | some y => y == x

/-- Whether an overlay matches a seat line (R66). -/
def Overlay.covers (o : Overlay) (q : SeatQuery) : Bool :=
  fieldMatches o.band q.band && fieldMatches o.kind q.kind && fieldMatches o.concession q.concession
    && fieldMatches o.screening q.screening

/-- The overlay that applies: the first ACTIVE one in slot order that matches (R71). -/
def Fau.overlayFor (f : Fau) (q : SeatQuery) : Option (Fin 16 × Overlay) :=
  (List.finRange 16).findSome? fun i =>
    match vget f.overlays i with
    | some o => if o.covers q then some (i, o) else none
    | none => none

/-- What stage 1 gives: the slot that applied, the fare (absent when the base entry read is EMPTY) and the overlay factor. -/
structure FareLookup where
  overlay : Option (Fin 16)
  fare : Option Nat
  factor : Nat
  deriving DecidableEq, Repr

/-- Stage 1: fare lookup (R71). -/
def Fau.lookup (f : Fau) (q : SeatQuery) : FareLookup :=
  match f.overlayFor q with
  | some (i, { action := .replace v, .. }) => { overlay := some i, fare := some v, factor := 10000 }
  | some (i, { action := .scale x, .. }) =>
    { overlay := some i, fare := f.entry q.band q.kind q.concession, factor := x }
  | none => { overlay := none, fare := f.entry q.band q.kind q.concession, factor := 10000 }

/-- The later of two dayparts by start minute. -/
def laterDaypart (acc : Option Daypart) (d : Daypart) : Option Daypart :=
  match acc with
  | none => some d
  | some b => if b.start < d.start then some d else some b

/-- Stage 2: the factor of the VALID daypart of greatest start not above the minute, or 10,000 (R73). -/
def Fau.daypartFactor (f : Fau) (minute : Nat) : Nat :=
  match ((f.dayparts.toList.filterMap id).filter (·.start ≤ minute)).foldl laterDaypart none with
  | some d => d.factor
  | none => 10000

/-- Stage 4: the rounded fare of a quotient and remainder by 100,000,000 (R74). -/
def roundFare (mode : Rounding) (quotient rem : Nat) : Nat :=
  if rem = 0 then quotient
  else match mode with
    | .down => quotient
    | .up => quotient + 1
    | .nearestUp => if rem < 50000000 then quotient else quotient + 1
    | .nearestEven =>
      if rem < 50000000 then quotient
      else if rem = 50000000 then (if quotient % 2 = 0 then quotient else quotient + 1)
      else quotient + 1

/-- Stages 2 to 5 of a seat line priced from a fare and an overlay factor (R73 to R75). -/
def Fau.stages (f : Fau) (q : SeatQuery) (fare factor : Nat) : QuoteStages :=
  let d := f.daypartFactor q.minute
  let p := fare * d * factor
  let a1 := roundFare f.settings.rounding (p / 100000000) (p % 100000000)
  { fare := fare, overlayFactor := factor, daypartFactor := d, quotient := p / 100000000, remainder := p % 100000000
    rounded := a1, surcharged := a1 + q.surcharge }

/-- Stage 6: the line ceiling (R75). -/
def Fau.capLine (f : Fau) (st : QuoteStages) (noFare : Bool) : LineOutcome :=
  if st.surcharged ≤ f.settings.lineCeiling then .priced st.surcharged (st.remainder != 0) noFare false
  else if f.settings.ceilingMasked then .priced f.settings.lineCeiling (st.remainder != 0) noFare true
  else .refused .ceiling

/-- The stages past the first, absent when NO_FARE is unmasked and met (R72). -/
def Fau.seatStages (f : Fau) (q : SeatQuery) : Option QuoteStages :=
  let l := f.lookup q
  match l.fare with
  | some fare => some (f.stages q fare l.factor)
  | none => if f.settings.noFareMasked then some (f.stages q f.settings.houseFare l.factor) else none

/-- The price of a seat line (R71 to R76). -/
def Fau.priceSeat (f : Fau) (q : SeatQuery) : LineOutcome :=
  match f.seatStages q with
  | some st => f.capLine st (f.lookup q).fare.isNone
  | none => .refused .noFare

/-- A catalogue item (R67). -/
def Fau.item (f : Fau) (code : Nat) : Option CatalogueItem := f.catalogue[code]?

/-- The VALID contents of a catalogue item (R67). -/
def Fau.itemPrice (f : Fau) (code : Nat) : Option ItemPrice := (f.item code).bind (·.valid)

/-- The price of a snack line (R77). -/
def Fau.priceSnack (f : Fau) (code : Nat) : LineOutcome :=
  match f.itemPrice code with
  | some p => .priced p.price false false false
  | none => .refused .noItem

/-- The price of a line of an order (R70). -/
def Fau.priceLine (f : Fau) : ToPrice → LineOutcome
  | .seat q => f.priceSeat q
  | .snack item => f.priceSnack item

/-! ## Totals (R78, R79) -/

/-- The amount of a seat line, 0 for a snack line. -/
def seatAmount : KeptLine → Nat
  | .seat a => a
  | .snack _ _ => 0

/-- The amount of a snack line, 0 for a seat line. -/
def snackAmount : KeptLine → Nat
  | .seat _ => 0
  | .snack _ a => a

/-- Whether a line is a seat line. -/
def isSeatLine : KeptLine → Bool
  | .seat _ => true
  | .snack _ _ => false

/-- Whether a line is a snack line whose item is VALID with its combo flag set (R78). -/
def Fau.isCombo (f : Fau) : KeptLine → Bool
  | .seat _ => false
  | .snack item _ =>
    match f.itemPrice item with
    | some p => p.combo
    | none => false

/-- The tax contained in an amount, halves rounded up (R79). -/
def containedTax (amount rate : Nat) : Nat :=
  let n := amount * rate
  let d := 10000 + rate
  if d ≤ 2 * (n % d) then n / d + 1 else n / d

/-- The totals over lines, and whether FLOOR was met (R78, R79). -/
def Fau.totals (f : Fau) (lines : List KeptLine) : Totals × Bool :=
  let ss := (lines.map seatAmount).sum
  let sv := (lines.map snackAmount).sum
  let pairs := min (lines.filter isSeatLine).length (lines.filter f.isCombo).length
  let r := pairs * f.settings.rebate
  let net := sv - r
  ({ seatSum := ss, snackSum := sv, rebate := r, gross := ss + net, seatTax := containedTax ss f.settings.seatTax
     snackTax := containedTax net f.settings.snackTax }, sv < r)

/-! ## Price orders (R70) -/

/-- A priced line as the totals take it; a refused line is left out. -/
def pricedLine : ToPrice → LineOutcome → Option KeptLine
  | .seat _, .priced a _ _ _ => some (.seat a)
  | .snack item, .priced a _ _ _ => some (.snack item a)
  | _, .refused _ => none

/-- The first refusal of a list of outcomes, with its index, counted from the number given for the first. -/
def firstRefusal : List LineOutcome → Nat → Option (Nat × Code)
  | [], _ => none
  | .refused c :: _, i => some (i, c)
  | .priced _ _ _ _ :: rest, i => firstRefusal rest (i + 1)

/-- The FAU prices an order's lines and computes the totals (R70). The index of the refused line in an ALL_OR_NOTHING answer counts the
lines to price from 0; R70 gives no base (DESIGN CHOICE; notes/assumptions/56.md). -/
def Fau.answer (f : Fau) (o : PriceOrder) : PriceAnswer :=
  let outcomes := o.lines.map f.priceLine
  let priced := PriceAnswer.priced outcomes
    (f.totals (o.kept ++ (List.zipWith pricedLine o.lines outcomes).filterMap id)).1
    (f.totals (o.kept ++ (List.zipWith pricedLine o.lines outcomes).filterMap id)).2 f.generation
  match o.mode, firstRefusal outcomes 0 with
  | .allOrNothing, some (i, c) => .refused i c f.generation
  | _, _ => priced

/-- PRICE_ORDER: the FAU takes an order and its answer goes back; no table, setting or generation changes (R70). -/
def execPriceOrder (o : PriceOrder) (s : State) : Result :=
  .next { s.accept (.priceOrder o) with priceAnswer := some (s.fau.answer o) }

/-! ## Host requests in general (R180, R188, R195) -/

/-- The requests taken in READY alone (R188). -/
def readyOnly (p : PartState) : Bool := p == .ready

/-- The requests taken in READY and in NEED_COUNTERS (R188). -/
def readyOrNeed (p : PartState) : Bool := p != .starting

/-- The code that names a part state (R180 step 2, R28 step 2, R139). -/
def partStateCode : PartState → Code
  | .starting => .starting
  | .needCounters => .needCounters
  | .ready => .ok

/-- A host request is taken: a part state that does not allow it is the answer (R180; notes/assumptions/13.md), then a body of
the wrong length is BAD_VALUE (R195), then the owner acts. Both refusals carry what every reply to the request carries. -/
def State.serveWith {α : Type} (s : State) (h : HostTag) (allowed : PartState → Bool) (body : Body α) (every : HostData)
    (act : α → State → State) : Result :=
  if allowed s.hlc.partState then
    match body with
    | none => (s.replyHost h .badValue every).done
    | some r => (act r s).done
  else (s.replyHost h (partStateCode s.hlc.partState) every).done

/-- A host request that has nothing in its every reply. -/
def State.serve {α : Type} (s : State) (h : HostTag) (allowed : PartState → Bool) (body : Body α)
    (act : α → State → State) : Result :=
  s.serveWith h allowed body .none act

/-! ## Host requests on the pricing state (R64 to R69, R80) -/

/-- The pricing generation goes up by 1, from 65,535 to 0 (R69). -/
def nextGeneration (g : Nat) : Nat := (g + 1) % 65536

/-- The FAU refuses a request; the reply carries the generation, as the reply to every request of its chapter does (R69). -/
def State.priceRefused (s : State) (h : HostTag) : State := s.replyHost h .badValue (.generation s.fau.generation)

/-- A host request to the FAU is taken in READY; every reply to it carries the generation (R69; notes/assumptions/45.md). -/
def State.servePricing {α : Type} (s : State) (h : HostTag) (body : Body α) (act : α → State → State) : Result :=
  s.serveWith h readyOnly body (.generation s.fau.generation) act

/-- A change of the pricing state is stored, the generation moves and the reply is OK with it (R69). -/
def State.priceChange (s : State) (h : HostTag) (f : Fau) : State :=
  let g := nextGeneration s.fau.generation
  (s.setFau { f with generation := g }).replyHost h .ok (.generation g)

/-- The first entry whose fare is above 50,000, named by its place among the 24, counted from 0: R64 gives the name no form and no base
(DESIGN CHOICE; notes/assumptions/56.md). -/
def badEntry (es : List (Option Nat)) (i : Nat) : Option Nat :=
  match es with
  | [] => none
  | some v :: rest => if 50000 < v then some i else badEntry rest (i + 1)
  | none :: rest => badEntry rest (i + 1)

/-- TARIFF_LOAD (R64). A BAD_VALUE names the first entry above 50,000, whatever the band; where the band alone is out of range
no entry offends and none is named (DESIGN CHOICE; notes/assumptions/44.md). -/
def State.tariffLoad (h : HostTag) (r : TariffReq) (s : State) : State :=
  match badEntry r.entries.toList 0 with
  | some i => s.replyHost h .badValue (.entry (some i) s.fau.generation)
  | none =>
    if hb : r.band < 8 then s.priceChange h { s.fau with tariff := vput s.fau.tariff ⟨r.band, hb⟩ r.entries }
    else s.replyHost h .badValue (.entry none s.fau.generation)

def execTariffLoad (h : HostTag) (req : Body TariffReq) (s : State) : Result :=
  (s.accept (.tariffLoad h req)).servePricing h req (State.tariffLoad h)

/-- Strictly ascending start minutes (R65). -/
def startsAscend : List Daypart → Bool
  | a :: b :: rest => a.start < b.start && startsAscend (b :: rest)
  | _ => true

/-- Whether four daypart slots may be loaded (R65). -/
def daypartsOk (slots : Vector (Option Daypart) 4) : Bool :=
  let valid := slots.toList.filterMap id
  valid.all (fun d => d.start ≤ 1439 && d.factor ≤ 40000) && startsAscend valid

/-- DAYPART_LOAD (R65). -/
def State.daypartLoad (h : HostTag) (r : DaypartReq) (s : State) : State :=
  if daypartsOk r.slots then s.priceChange h { s.fau with dayparts := r.slots } else s.priceRefused h

def execDaypartLoad (h : HostTag) (req : Body DaypartReq) (s : State) : Result :=
  (s.accept (.daypartLoad h req)).servePricing h req (State.daypartLoad h)

/-- An optional field that is absent or passes. -/
def optionOk {α : Type} (p : α → Bool) : Option α → Bool
  | none => true
  | some x => p x

/-- Whether an overlay action is in range (R66). -/
def actionOk : OverlayAction → Bool
  | .replace v => v ≤ 50000
  | .scale x => 1 ≤ x && x ≤ 40000

/-- Whether the contents of an overlay are in range (R66). -/
def overlayOk (o : OverlayFields) : Bool :=
  optionOk (· ≤ 7) o.band && optionOk (· ≤ 3) o.kind && optionOk (· ≤ 5) o.concession
    && optionOk (fun n => 1 ≤ n && n ≤ 65535) o.screening && actionOk o.action

/-- The overlay that contents in range make (R66). -/
def overlayOf (o : OverlayFields) : Overlay :=
  { band := o.band, kind := o.kind.bind seatKindOfCode, concession := o.concession.bind concessionOfCode
    screening := o.screening, action := o.action }

/-- OVERLAY_SET (R66). -/
def State.overlaySet (h : HostTag) (r : OverlayReq) (s : State) : State :=
  if hs : r.slot < 16 then
    if optionOk overlayOk r.contents then
      s.priceChange h { s.fau with overlays := vput s.fau.overlays ⟨r.slot, hs⟩ (r.contents.map overlayOf) }
    else s.priceRefused h
  else s.priceRefused h

def execOverlaySet (h : HostTag) (req : Body OverlayReq) (s : State) : Result :=
  (s.accept (.overlaySet h req)).servePricing h req (State.overlaySet h)

/-- Whether no item is named twice (R67). -/
def itemsDistinct : List ItemSetting → Bool
  | [] => true
  | x :: rest => !(rest.any fun y => y.item == x.item) && itemsDistinct rest

/-- Whether item contents are in range (R67). -/
def itemOk (c : ItemFields) : Bool := c.price ≤ 50000 && 30 ≤ c.minutes && c.minutes ≤ 720

/-- Whether a list of item settings may be loaded (R67). -/
def catalogueOk (l : List ItemSetting) : Bool :=
  1 ≤ l.length && l.length ≤ 32 && itemsDistinct l
    && l.all fun x => x.item ≤ 31 && optionOk itemOk x.contents

/-- An item with a setting applied: an item made EMPTY keeps its validity minutes (R67). -/
def CatalogueItem.apply (i : CatalogueItem) : Option ItemFields → CatalogueItem
  | some c => { valid := some { price := c.price, combo := c.combo }, minutes := c.minutes }
  | none => { i with valid := none }

/-- The catalogue with one setting applied (R67). -/
def applyItem (cat : Vector CatalogueItem 32) (x : ItemSetting) : Vector CatalogueItem 32 :=
  if hx : x.item < 32 then vput cat ⟨x.item, hx⟩ ((vget cat ⟨x.item, hx⟩).apply x.contents) else cat

/-- CATALOGUE_LOAD (R67). -/
def State.catalogueLoad (h : HostTag) (l : List ItemSetting) (s : State) : State :=
  if catalogueOk l then s.priceChange h { s.fau with catalogue := l.foldl applyItem s.fau.catalogue }
  else s.priceRefused h

def execCatalogueLoad (h : HostTag) (req : Body (List ItemSetting)) (s : State) : Result :=
  (s.accept (.catalogueLoad h req)).servePricing h req (State.catalogueLoad h)

/-- The seat line of a FARE_QUOTE whose values are in range (R80). -/
def quoteLine (r : FareQuoteReq) : Option SeatQuery :=
  match seatKindOfCode r.kind, concessionOfCode r.concession with
  | some k, some c =>
    if r.band ≤ 7 && r.minute ≤ 1439 && r.surcharge ≤ 5000 && (1 ≤ r.screening && r.screening ≤ 65535) then
      some { screening := r.screening, band := r.band, surcharge := r.surcharge, minute := r.minute, kind := k
             concession := c }
    else none
  | _, _ => none

/-- The reply of a FARE_QUOTE (R80). -/
def Fau.quote (f : Fau) (q : SeatQuery) : Quote :=
  { overlay := (f.lookup q).overlay.map (·.val), factor := (f.lookup q).factor, stages := f.seatStages q
    outcome := f.priceSeat q, generation := f.generation }

/-- FARE_QUOTE: nothing but the reply (R80). -/
def State.fareQuote (h : HostTag) (r : FareQuoteReq) (s : State) : State :=
  match quoteLine r with
  | some q => s.replyHost h .ok (.quote (s.fau.quote q))
  | none => s.priceRefused h

def execFareQuote (h : HostTag) (req : Body FareQuoteReq) (s : State) : Result :=
  (s.accept (.fareQuote h req)).servePricing h req (State.fareQuote h)

end Sys2Proof.Machine
end

