-- ==== Sys2Proof/Machine/Holds.lean ====
section
/-! DEFINITION. What the SBU's requests share: releasing seats, clearing and repricing a basket, basket pushes, and the closing
of a screening (R9, R12, R13, R26, R27, R36, R37, R39). -/

namespace Sys2Proof.Machine

/-! ## Lines of a basket (R25) -/

/-- Whether a line is not VOID. -/
def BasketLine.live : BasketLine → Bool
  | .void => false
  | _ => true

/-- Whether a line is a non-void SEAT line. -/
def BasketLine.isSeat : BasketLine → Bool
  | .seat _ _ _ _ _ _ => true
  | _ => false

/-- Whether a line is a non-void SNACK line. -/
def BasketLine.isSnack : BasketLine → Bool
  | .snack _ _ _ => true
  | _ => false

/-- Whether a line is a non-void SEAT line naming a screening. -/
def BasketLine.inScreening (number : Nat) : BasketLine → Bool
  | .seat n _ _ _ _ _ => n == number
  | _ => false

/-- A line as a kept line of a price order (R70). -/
def BasketLine.kept : BasketLine → Option KeptLine
  | .seat _ _ _ _ amount _ => some (.seat amount)
  | .snack item amount _ => some (.snack item amount)
  | .void => none

/-- The number of non-void SEAT lines. -/
def Basket.seatCount (b : Basket) : Nat := (b.lines.filter BasketLine.isSeat).length

/-- The number of non-void SNACK lines. -/
def Basket.snackCount (b : Basket) : Nat := (b.lines.filter BasketLine.isSnack).length

/-- Whether the basket has a non-void line. -/
def Basket.hasLine (b : Basket) : Bool := b.lines.any BasketLine.live

/-- The cleared basket: serial and generation are kept (R23). -/
def Basket.cleared (b : Basket) : Basket := { Basket.reset with serial := b.serial, generation := b.generation }

/-- The basket with its totals recomputed over its non-void lines, and FLOOR set when met (R27, R78). -/
def Basket.withTotals (b : Basket) (f : Fau) : Basket :=
  let t := f.totals (b.lines.filterMap BasketLine.kept)
  { b with totals := t.1, flags := flagsWithFloor b.flags t.2 }

/-- After a change to its lines: the bound screening is absent when no SEAT line is left (R26), the totals are recomputed, and a
basket with no non-void line is cleared (R27). -/
def Basket.settled (b : Basket) (f : Fau) : Basket :=
  if b.hasLine then
    Basket.withTotals { b with bound := if b.lines.any BasketLine.isSeat then b.bound else none } f
  else b.cleared

/-! ## Releasing seats (R13, R26) -/

/-- A CLOSING screening with no held seat enters CLOSED, and SCREENING is raised (R13). -/
def State.closeTest (s : State) (i : Fin 16) : State :=
  match s.screening i with
  | some sc =>
    if sc.state = .closing ∧ sc.counts.held = 0 then
      (s.setScreening i (some { sc with state := .closed })).raise .screening
    else s
  | none => s

/-- The seat of a line leaves its hold: its record takes a new state, the counts move, and a CLOSING screening is tested, as it is
each time its held count is lowered (R13, R16). -/
def State.putSeat (s : State) (number : Nat) (a : SeatAddr) (new : SeatState) : State :=
  match s.findScreening number with
  | some (i, sc) => (s.setScreening i (some (sc.setSeat a new))).closeTest i
  | none => s

/-- A seat is released: its record becomes FREE (R26). -/
def State.releaseSeat (s : State) (number : Nat) (a : SeatAddr) : State := s.putSeat number a .free

/-- The seat of a line is released, when the line is a SEAT line. -/
def State.releaseLine (s : State) : BasketLine → State
  | .seat number a _ _ _ _ => s.releaseSeat number a
  | _ => s

/-- The seats of lines are released in order. -/
def State.releaseLines (s : State) (ls : List BasketLine) : State := ls.foldl State.releaseLine s

/-! ## Repricing and pushes (R36, R37) -/

/-- The line as a price order puts it to the FAU; absent for VOID (R37, R70). -/
def State.lineToPrice (s : State) : BasketLine → Option ToPrice
  | .seat number _ kind concession _ _ =>
    (s.findScreening number).map fun x =>
      .seat { screening := number, band := x.2.band, surcharge := x.2.surcharge, minute := x.2.startMinute, kind := kind
              concession := concession }
  | .snack item _ _ => some (.snack item)
  | .void => none

/-- What the FAU says of a line at the current pricing state; absent for VOID. -/
def State.lineOutcome (s : State) (l : BasketLine) : Option LineOutcome := (s.lineToPrice l).map s.fau.priceLine

/-- Whether repricing refuses a line. -/
def refusedOutcome : Option LineOutcome → Bool
  | some (.refused _) => true
  | _ => false

/-- A line with a new price: a refused line is tagged VOID (R37). -/
def BasketLine.repriced (g : Nat) : BasketLine → Option LineOutcome → BasketLine
  | .seat n a k c _ _, some (.priced amount _ _ _) => .seat n a k c amount g
  | .snack item _ _, some (.priced amount _ _ _) => .snack item amount g
  | _, some (.refused _) => .void
  | l, none => l
  | .void, some (.priced _ _ _ _) => .void

/-- The basket priced whole at the current generation, before its totals (R37). -/
def State.repricedBasket (s : State) (b : Basket) : Basket :=
  { b with
    lines := b.lines.map fun l => l.repriced s.fau.generation (s.lineOutcome l)
    flags := flagsWithLines b.flags (b.lines.filterMap s.lineOutcome)
    generation := s.fau.generation }

/-- The basket of a drop is priced whole: refused lines are tagged VOID and their seats released, the totals are recomputed, and
a basket left with no non-void line is cleared (R37). -/
def State.reprice (s : State) (d : Drop) : State :=
  let b := s.basket d
  (s.releaseLines (b.lines.filter fun l => refusedOutcome (s.lineOutcome l))).setBasket d
    ((s.repricedBasket b).settled s.fau)

/-- A basket's record, as replies and pushes carry it (R36); stale when its generation is not the current one (R34). -/
def basketRecord (b : Basket) (current : Nat) : BasketRecord :=
  { serial := b.serial, state := b.state, lines := b.lines, totals := b.totals, flags := b.flags
    countdown := b.countdown, extensions := b.extensions, attempts := b.attempts, frozen := b.frozen
    stale := b.generation != current }

/-- A stale OPEN basket is priced whole before its push (R37). -/
def State.repriceForPush (s : State) (d : Drop) : State :=
  if (s.basket d).state = .opened ∧ (s.basket d).generation ≠ s.fau.generation then s.reprice d else s

/-- A basket push is placed in PUSH-BASKET, after whole repricing of a stale OPEN basket (R36, R37). -/
def State.pushBasket (s : State) (d : Drop) (reason : PushReason) : State :=
  let t := s.repriceForPush d
  t.place d .pushBasket (.basketPush { reason := reason, basket := basketRecord (t.basket d) t.fau.generation })

/-- A basket expires: its seats are released in slot order, it is cleared, and an EXPIRED push is placed (R39). -/
def State.expireBasket (s : State) (d : Drop) : State :=
  ((s.releaseLines (s.basket d).lines).setBasket d (s.basket d).cleared).pushBasket d .expired

/-! ## Closing a screening (R9, R12) -/

/-- The lines with those of a screening tagged VOID. -/
def voidLinesOf (number : Nat) (ls : List BasketLine) : List BasketLine :=
  ls.map fun l => if l.inScreening number then .void else l

/-- What the closing of a screening does to one basket: an OPEN basket with SEAT lines naming it has them tagged VOID and their
seats freed, is settled, and is pushed SCREENING_CLOSED (R12). -/
def State.closeForBasket (number : Nat) (s : State) (d : Drop) : State :=
  let b := s.basket d
  if b.state = .opened ∧ b.lines.any (BasketLine.inScreening number) = true then
    ((s.releaseLines (b.lines.filter (BasketLine.inScreening number))).setBasket d
      (Basket.settled { b with lines := voidLinesOf number b.lines } s.fau)).pushBasket d .screeningClosed
  else s

/-- A screening enters CLOSING: SCREENING is raised, R12 acts on every OPEN basket, and the screening is tested under R13. -/
def State.enterClosing (s : State) (i : Fin 16) (sc : Screening) : State :=
  let t := (s.setScreening i (some { sc with state := .closing })).raise .screening
  ((List.finRange 16).foldl (State.closeForBasket sc.number) t).closeTest i

/-- An ON_SALE screening whose close time is not later than the site time enters CLOSING (R9). -/
def State.closeIfDue (now : SiteTime) (s : State) (i : Fin 16) : State :=
  match s.screening i with
  | some sc => if sc.state = .onSale ∧ notLater sc.closeTime now = true then s.enterClosing i sc else s
  | none => s

/-- The SBU is told of a new site time (R9). -/
def State.closeDue (s : State) (now : SiteTime) : State := (List.finRange 16).foldl (State.closeIfDue now) s

end Sys2Proof.Machine
end

