-- ==== Sys2Proof/Machine/Seats.lean ====
section
/-! DEFINITION. The host's requests on layouts, screenings and seats (01_seat_maps_and_screenings, R1 to R21). -/

namespace Sys2Proof.Machine

/-! ## Layouts (R3 to R5) -/

/-- Whether a screening slot that is not EMPTY names a layout. -/
def State.layoutInUse (s : State) (i : Fin 8) : Bool :=
  s.sbu.screenings.toList.any fun o =>
    match o with
    | some sc => sc.layout == i
    | none => false

/-- LAYOUT_BEGIN (R3). -/
def State.layoutBegin (h : HostTag) (r : LayoutBeginReq) (s : State) : State :=
  if hi : r.index < 8 then
    if 1 ≤ r.rowCount ∧ r.rowCount ≤ 24 ∧ r.ideal < r.rowCount ∧ r.centre ≤ 78 then
      if s.layoutInUse ⟨r.index, hi⟩ then s.replyHost h .inUse .none
      else
        (s.setLayout ⟨r.index, hi⟩
          { state := .loading, rowCount := r.rowCount, ideal := r.ideal, centre := r.centre, rows := [], sellable := none }
          ).replyHost h .ok .none
    else s.replyHost h .badValue .none
  else s.replyHost h .badValue .none

def execLayoutBegin (h : HostTag) (req : Body LayoutBeginReq) (s : State) : Result :=
  (s.accept (.layoutBegin h req)).serve h readyOnly req (State.layoutBegin h)

/-- Whether a row label is one or two characters of the permitted set (R1). -/
def labelOk (l : Text) : Bool := 1 ≤ l.length && l.length ≤ 2 && l.all isTextChar

/-- The position kinds of codes, when every code is one of the five. -/
def kindsOfCodes (cs : List Nat) : Option (List PosKind) := cs.mapM posKindOfCode

/-- A layout that a failed load leaves INVALID: its rows are discarded (R4, R5). -/
def Layout.invalidated (l : Layout) : Layout := { l with state := .invalid, rows := [], sellable := none }

/-- The end of a row's taking: a load that is whole becomes READY with its sellable count, or INVALID (R4, R5). -/
def State.rowTaken (h : HostTag) (i : Fin 8) (l : Layout) (s : State) : State :=
  if l.rowsTaken < l.rowCount then (s.setLayout i l).replyHost h .ok .none
  else if 480 < l.countSeats then (s.setLayout i l.invalidated).replyHost h .tooManySeats .none
  else (s.setLayout i { l with state := .ready, sellable := some l.countSeats }).replyHost h .ok (.sellable l.countSeats)

/-- LAYOUT_ROW (R4). A layout index above 7 names no LOADING layout (notes/assumptions/31.md). -/
def State.layoutRow (h : HostTag) (r : LayoutRowReq) (s : State) : State :=
  if hi : r.index < 8 then
    let l := s.layout ⟨r.index, hi⟩
    if l.state ≠ .loading then s.replyHost h .notLoading .none
    else if r.row ≠ l.rowsTaken then (s.setLayout ⟨r.index, hi⟩ l.invalidated).replyHost h .rowOrder .none
    else
      match kindsOfCodes r.kinds with
      | some ks =>
        if 1 ≤ ks.length ∧ ks.length ≤ 40 ∧ labelOk r.label = true ∧ (l.rows.any fun x => x.label == r.label) = false then
          s.rowTaken h ⟨r.index, hi⟩ { l with rows := l.rows ++ [{ label := r.label, kinds := ks }] }
        else s.replyHost h .badValue .none
      | none => s.replyHost h .badValue .none
  else s.replyHost h .notLoading .none

def execLayoutRow (h : HostTag) (req : Body LayoutRowReq) (s : State) : Result :=
  (s.accept (.layoutRow h req)).serve h readyOnly req (State.layoutRow h)

/-! ## The screening table (R7 to R14) -/

/-- A screening made by SCREENING_LOAD: LOADED, every seat FREE (R7). -/
def newScreening (r : ScreeningLoadReq) (i : Fin 8) (gap : Bool) (l : Layout) : Screening :=
  { number := r.number, layout := i, startDay := r.startDay, startMinute := r.startMinute, lateSale := r.lateSale
    band := r.band, surcharge := r.surcharge, gapGuard := gap, withdrawn := false, state := .loaded
    counts := { free := l.sellable.getD 0, held := 0, sold := 0, blocked := 0 }
    seats := l.seatAddrs.map fun a => { addr := a, state := .free } }

/-- Whether the fields of a SCREENING_LOAD are in range, its close time included (R7). -/
def screeningFieldsOk (r : ScreeningLoadReq) : Bool :=
  1 ≤ r.number && r.number ≤ 65535 && r.startDay ≤ 65535 && r.startMinute ≤ 1439 && r.lateSale ≤ 30 && r.band ≤ 7
    && r.surcharge ≤ 5000 && (minuteStart r.startDay (r.startMinute + r.lateSale)).day ≤ 65535

/-- The lowest EMPTY screening slot. -/
def State.freeSlot (s : State) : Option (Fin 16) := (List.finRange 16).find? fun i => (s.screening i).isNone

/-- SCREENING_LOAD (R7). -/
def State.screeningLoad (h : HostTag) (r : ScreeningLoadReq) (s : State) : State :=
  if hl : r.layout < 8 then
    match screeningFieldsOk r, r.gapGuard with
    | true, some gap =>
      if (s.findScreening r.number).isSome then s.replyHost h .duplicate .none
      else if (s.layout ⟨r.layout, hl⟩).state ≠ .ready then s.replyHost h .layoutNotReady .none
      else
        match s.freeSlot with
        | none => s.replyHost h .screeningsFull .none
        | some i =>
          (s.setScreening i (some (newScreening r ⟨r.layout, hl⟩ gap (s.layout ⟨r.layout, hl⟩)))).replyHost h .ok .none
    | _, _ => s.replyHost h .badValue .none
  else s.replyHost h .badValue .none

def execScreeningLoad (h : HostTag) (req : Body ScreeningLoadReq) (s : State) : Result :=
  (s.accept (.screeningLoad h req)).serve h readyOnly req (State.screeningLoad h)

/-- A request that names a screening: NO_SCREENING when no slot holds it. -/
def State.onScreening (s : State) (h : HostTag) (number : Nat) (act : Fin 16 → Screening → State) : State :=
  match s.findScreening number with
  | some (i, sc) => act i sc
  | none => s.replyHost h .noScreening .none

/-- SCREENING_OPEN (R8). -/
def State.screeningOpen (h : HostTag) (number : Nat) (s : State) : State :=
  s.onScreening h number fun i sc =>
    match sc.state with
    | .loaded =>
      if siteSeconds s.hlc.clock < siteSeconds sc.closeTime then
        (s.setScreening i (some { sc with state := .onSale })).replyHost h .ok .none
      else s.replyHost h .closed .none
    | .onSale => s.replyHost h .ok .none
    | .closing => s.replyHost h .closed .none
    | .closed => s.replyHost h .closed .none

def execScreeningOpen (h : HostTag) (number : Body Nat) (s : State) : Result :=
  (s.accept (.screeningOpen h number)).serve h readyOnly number (State.screeningOpen h)

/-- SCREENING_CLOSE (R10). -/
def State.screeningClose (h : HostTag) (number : Nat) (s : State) : State :=
  s.onScreening h number fun i sc =>
    match sc.state with
    | .onSale => (s.enterClosing i sc).replyHost h .ok .none
    | .closing => s.replyHost h .ok .none
    | .closed => s.replyHost h .ok .none
    | .loaded => s.replyHost h .wrongState .none

def execScreeningClose (h : HostTag) (number : Body Nat) (s : State) : Result :=
  (s.accept (.screeningClose h number)).serve h readyOnly number (State.screeningClose h)

/-- SCREENING_WITHDRAW (R11). On entry to CLOSED the SCREENING condition is raised (R13). -/
def State.screeningWithdraw (h : HostTag) (number : Nat) (s : State) : State :=
  s.onScreening h number fun i sc =>
    match sc.state with
    | .onSale => (s.enterClosing i { sc with withdrawn := true }).replyHost h .ok .none
    | .loaded =>
      ((s.setScreening i (some { sc with withdrawn := true, state := .closed })).raise .screening).replyHost h .ok .none
    | .closing => (s.setScreening i (some { sc with withdrawn := true })).replyHost h .ok .none
    | .closed => (s.setScreening i (some { sc with withdrawn := true })).replyHost h .ok .none

def execScreeningWithdraw (h : HostTag) (number : Body Nat) (s : State) : Result :=
  (s.accept (.screeningWithdraw h number)).serve h readyOnly number (State.screeningWithdraw h)

/-- SCREENING_UNLOAD (R14). -/
def State.screeningUnload (h : HostTag) (number : Nat) (s : State) : State :=
  s.onScreening h number fun i sc =>
    if sc.state = .closed then (s.setScreening i none).replyHost h .ok .none else s.replyHost h .inUse .none

def execScreeningUnload (h : HostTag) (number : Body Nat) (s : State) : Result :=
  (s.accept (.screeningUnload h number)).serve h readyOnly number (State.screeningUnload h)

/-! ## Host seat operations (R17 to R21) -/

/-- Whether a seat list holds 1 to 40 seats in range (R17). -/
def seatListOk (l : List SeatAddr) : Bool := 1 ≤ l.length && l.length ≤ 40 && l.all fun a => a.row ≤ 23 && a.pos ≤ 39

/-- A seat operation: a bad list is BAD_VALUE, an unknown screening NO_SCREENING (R17). -/
def State.onSeats (s : State) (h : HostTag) (number : Nat) (seats : List SeatAddr) (act : Fin 16 → Screening → State) :
    State :=
  if seatListOk seats then s.onScreening h number act else s.replyHost h .badValue .none

/-- One seat of a SEAT_BLOCK or SEAT_UNBLOCK: it moves from one state to another, or is refused with the state found (R18). -/
def moveSeat (l : Layout) (old new : SeatState) (code : Code) (acc : Screening × List RefusedSeat) (a : SeatAddr) :
    Screening × List RefusedSeat :=
  match l.seatExists a, acc.1.stateAt a with
  | true, some st =>
    if st = old then (acc.1.setSeat a new, acc.2)
    else (acc.1, acc.2 ++ [{ addr := a, code := code, state := some (shown st) }])
  | _, _ => (acc.1, acc.2 ++ [{ addr := a, code := .noSeat, state := none }])

/-- The seats of a list taken one at a time; OK when all took effect, else PARTIAL with the refused ones (R18). -/
def State.moveSeats (s : State) (h : HostTag) (i : Fin 16) (sc : Screening) (old new : SeatState) (code : Code)
    (seats : List SeatAddr) : State :=
  let r := seats.foldl (moveSeat (s.layout sc.layout) old new code) (sc, [])
  let t := s.setScreening i (some r.1)
  if r.2.isEmpty then t.replyHost h .ok .none else t.replyHost h .partialDone (.refused r.2)

/-- SEAT_BLOCK (R18). -/
def State.seatBlock (h : HostTag) (r : SeatListReq) (s : State) : State :=
  s.onSeats h r.screening r.seats fun i sc => s.moveSeats h i sc .free .blocked .notFree r.seats

def execSeatBlock (h : HostTag) (req : Body SeatListReq) (s : State) : Result :=
  (s.accept (.seatBlock h req)).serve h readyOnly req (State.seatBlock h)

/-- SEAT_UNBLOCK (R18). -/
def State.seatUnblock (h : HostTag) (r : SeatListReq) (s : State) : State :=
  s.onSeats h r.screening r.seats fun i sc => s.moveSeats h i sc .blocked .free .notBlocked r.seats

def execSeatUnblock (h : HostTag) (req : Body SeatListReq) (s : State) : Result :=
  (s.accept (.seatUnblock h req)).serve h readyOnly req (State.seatUnblock h)

/-- The first seat that does not exist. -/
def firstMissing (l : Layout) (seats : List SeatAddr) : Option SeatAddr := seats.find? fun a => !(l.seatExists a)

/-- The first seat whose state a test picks, with that state. -/
def firstInState (sc : Screening) (p : SeatState → Bool) (seats : List SeatAddr) : Option (SeatAddr × SeatState) :=
  seats.findSome? fun a =>
    match sc.stateAt a with
    | some st => if p st then some (a, st) else none
    | none => none

/-- Whether a seat is HELD or SOLD. -/
def SeatState.taken : SeatState → Bool
  | .held _ _ => true
  | .sold _ _ => true
  | _ => false

/-- Whether a seat is SOLD. -/
def SeatState.isSold : SeatState → Bool
  | .sold _ _ => true
  | _ => false

/-- Every seat of a list put in one state. -/
def Screening.setSeats (sc : Screening) (seats : List SeatAddr) (new : SeatState) : Screening :=
  seats.foldl (fun acc a => acc.setSeat a new) sc

/-- SEAT_SELL (R19). -/
def State.seatSell (h : HostTag) (r : SeatSellReq) (s : State) : State :=
  s.onSeats h r.screening r.seats fun i sc =>
    if r.sale = 0 ∨ 4294967295 < r.sale ∨ noRepeats r.seats = false then s.replyHost h .badValue .none
    else if sc.state = .loaded then s.replyHost h .notOpen .none
    else if sc.state = .closed then s.replyHost h .closed .none
    else
      match firstMissing (s.layout sc.layout) r.seats, firstInState sc SeatState.taken r.seats with
      | some a, _ => s.replyHost h .noSeat (.seat a)
      | none, some (a, st) => s.replyHost h .notFree (.seatState a (shown st))
      | none, none =>
        (s.setScreening i (some (sc.setSeats r.seats (.sold r.sale .house)))).replyHost h .ok .none

def execSeatSell (h : HostTag) (req : Body SeatSellReq) (s : State) : Result :=
  (s.accept (.seatSell h req)).serve h readyOnly req (State.seatSell h)

/-- The sale number and origin a SOLD seat carries (R20). -/
def refundOf (sc : Screening) (a : SeatAddr) : Option RefundedSeat :=
  match sc.stateAt a with
  | some (.sold n o) => some { addr := a, sale := n, origin := o }
  | _ => none

/-- SEAT_REFUND (R20). -/
def State.seatRefund (h : HostTag) (r : SeatListReq) (s : State) : State :=
  s.onSeats h r.screening r.seats fun i sc =>
    if noRepeats r.seats = false then s.replyHost h .badValue .none
    else if sc.state = .loaded then s.replyHost h .notOpen .none
    else
      match firstMissing (s.layout sc.layout) r.seats, firstInState sc (fun st => !st.isSold) r.seats with
      | some a, _ => s.replyHost h .noSeat (.seat a)
      | none, some (a, st) => s.replyHost h .notSold (.seatState a (shown st))
      | none, none =>
        (s.setScreening i (some (sc.setSeats r.seats .free))).replyHost h .ok
          (.refunded (r.seats.filterMap (refundOf sc)))

def execSeatRefund (h : HostTag) (req : Body SeatListReq) (s : State) : Result :=
  (s.accept (.seatRefund h req)).serve h readyOnly req (State.seatRefund h)

/-- One position of a row as SEAT_QUERY shows it (R21). -/
def rowPosition (l : Layout) (sc : Screening) (row pos : Nat) : RowPosition :=
  match l.seatKind { row := row, pos := pos }, sc.stateAt { row := row, pos := pos } with
  | some k, some st => .seat k (l.seatNumber { row := row, pos := pos }) (shown st)
  | _, _ => .aisle

/-- The positions of a row. -/
def Layout.rowLength (l : Layout) (row : Nat) : Nat :=
  match l.rows[row]? with
  | some r => r.kinds.length
  | none => 0

/-- The reply of SEAT_QUERY for a row of a layout (R21). -/
def rowReport (l : Layout) (sc : Screening) (row : Nat) : RowReport :=
  { label := l.label row
    positions := (List.range (l.rowLength row)).map (rowPosition l sc row)
    state := sc.state, withdrawn := sc.withdrawn, counts := sc.counts }

/-- SEAT_QUERY (R17, R21). -/
def State.seatQuery (h : HostTag) (r : SeatQueryReq) (s : State) : State :=
  if 23 < r.row then s.replyHost h .badValue .none
  else
    s.onScreening h r.screening fun _ sc =>
      if (s.layout sc.layout).rowCount ≤ r.row then s.replyHost h .noSeat .none
      else s.replyHost h .ok (.row (rowReport (s.layout sc.layout) sc r.row))

def execSeatQuery (h : HostTag) (req : Body SeatQueryReq) (s : State) : Result :=
  (s.accept (.seatQuery h req)).serve h readyOnly req (State.seatQuery h)

end Sys2Proof.Machine
end

