-- ==== Sys2Proof/Machine/Search.lean ====
section
/-! DEFINITION. The two seat rules (R41, R42) and the best-available search (03_best_available_search, R54 to R58). -/

namespace Sys2Proof.Machine

/-! ## The lone-seat rule (R41) -/

/-- Whether a seat is FREE once the seats of a request are HELD. -/
def freeAfter (sc : Screening) (taken : List SeatAddr) (a : SeatAddr) : Bool :=
  sc.stateAt a == some .free && !taken.contains a

/-- Whether a neighbour is absent or not FREE once the seats of a request are HELD. -/
def sideTaken (sc : Screening) (taken : List SeatAddr) : Option SeatAddr → Bool
  | some b => !freeAfter sc taken b
  | none => true

/-- Whether a seat is lone once the seats of a request are HELD; with no seat taken, the "before" map (R41). -/
def loneAfter (l : Layout) (sc : Screening) (taken : List SeatAddr) (a : SeatAddr) : Bool :=
  freeAfter sc taken a && sideTaken sc taken (l.leftOf a) && sideTaken sc taken (l.rightOf a)

/-- The first seat that the request makes lone, in ascending order of row and position, over the rows of the request (R41). -/
def newLoneSeat (l : Layout) (sc : Screening) (taken : List SeatAddr) : Option SeatAddr :=
  l.seatAddrs.find? fun a =>
    taken.any (fun t => t.row == a.row) && loneAfter l sc taken a && !loneAfter l sc [] a

/-- The lone-seat rule, which the gap guard turns on. -/
def loneSeatDenial (l : Layout) (sc : Screening) (taken : List SeatAddr) : Option SeatAddr :=
  if sc.gapGuard then newLoneSeat l sc taken else none

/-! ## The companion rule (R42) -/

/-- The seat of a non-void SEAT line. -/
def BasketLine.seatAddr : BasketLine → Option SeatAddr
  | .seat _ a _ _ _ _ => some a
  | _ => none

/-- The seats of a basket's non-void SEAT lines, in slot order. -/
def Basket.seatAddrs (b : Basket) : List SeatAddr := b.lines.filterMap BasketLine.seatAddr

/-- Whether a position is a WHEELCHAIR seat of a list. -/
def wheelchairIn (l : Layout) (mine : List SeatAddr) (a : SeatAddr) : Bool :=
  l.seatKind a == some .wheelchair && mine.contains a

/-- Whether one of the two positions next to a seat is a WHEELCHAIR seat of a list (R42). -/
def companionOk (l : Layout) (mine : List SeatAddr) (a : SeatAddr) : Bool :=
  (1 ≤ a.pos && wheelchairIn l mine { a with pos := a.pos - 1 }) || wheelchairIn l mine { a with pos := a.pos + 1 }

/-- The first COMPANION seat of a request that fails the companion rule (R42). -/
def companionDenial (l : Layout) (mine seats : List SeatAddr) : Option SeatAddr :=
  seats.find? fun a => l.seatKind a == some .companion && !companionOk l mine a

/-! ## Candidate runs (R54, R55) -/

/-- The positions of a run. -/
def runSeats (row start n : Nat) : List SeatAddr := (List.range n).map fun i => { row := row, pos := start + i }

/-- Whether a run is a candidate run: every position is a FREE seat of the kind, so that the run lies in one segment, and under
a gap guard the run makes no new lone seat (R54). -/
def isCandidate (l : Layout) (sc : Screening) (k : SeatKind) (n row start : Nat) : Bool :=
  (runSeats row start n).all (fun a => l.seatKind a == some k && sc.stateAt a == some .free)
    && (loneSeatDenial l sc (runSeats row start n)).isNone

/-- The score of a run (R55). -/
def runScore (l : Layout) (n row start : Nat) : Nat :=
  4 * absDiff row l.ideal + absDiff (2 * start + n - 1) l.centre

/-- A run with its score. -/
structure Run where
  row : Nat
  start : Nat
  score : Nat
  deriving DecidableEq, Repr

/-- The candidate runs of a row, by ascending start. -/
def rowRuns (l : Layout) (sc : Screening) (k : SeatKind) (n row : Nat) : List Run :=
  ((List.range (l.rowLength row)).filter (isCandidate l sc k n row)).map fun st =>
    { row := row, start := st, score := runScore l n row st }

/-- The rows the search looks at: within the request's range and below the row count (R52, R54). -/
def searchRows (l : Layout) (range : Option (Nat × Nat)) : List Nat :=
  (List.range l.rowCount).filter fun r =>
    match range with
    | some (first, last) => first ≤ r && r ≤ last
    | none => true

/-- The first of the members with the lowest score (R56, R58). -/
def leastBy {α : Type} (score : α → Nat) : List α → Option α
  | [] => none
  | x :: rest =>
    match leastBy score rest with
    | none => some x
    | some y => if score y < score x then some y else some x

/-! ## Placements (R56 to R59) -/

/-- What the search finds: its seats in hold order and its score (R60). -/
structure Placement where
  split : Bool
  score : Nat
  seats : List SeatAddr
  deriving DecidableEq, Repr

/-- The candidate run of lowest score, then of lowest row, then of lowest start (R56). -/
def singlePlacement (l : Layout) (sc : Screening) (k : SeatKind) (n : Nat) (range : Option (Nat × Nat)) :
    Option Placement :=
  (leastBy Run.score ((searchRows l range).flatMap (rowRuns l sc k n))).map fun r =>
    { split := false, score := r.score, seats := runSeats r.row r.start n }

/-- The size of the upper run of a split: n / 2 rounded up (R57). -/
def upperSize (n : Nat) : Nat := (n + 1) / 2

/-- The seats of a split pair in hold order (R60). -/
def pairSeats (n : Nat) (p : Run × Run) : List SeatAddr :=
  runSeats p.1.row p.1.start (upperSize n) ++ runSeats p.2.row p.2.start (n - upperSize n)

/-- The score of a split pair (R58). -/
def pairScore (p : Run × Run) : Nat := p.1.score + p.2.score + 6

/-- The valid pairs with the upper run in a row, by ascending upper start and then lower start (R57, R58). -/
def rowPairs (l : Layout) (sc : Screening) (k : SeatKind) (n : Nat) (rows : List Nat) (row : Nat) : List (Run × Run) :=
  if rows.contains (row + 1) then
    (rowRuns l sc k (upperSize n) row).flatMap fun u =>
      ((rowRuns l sc k (n - upperSize n) (row + 1)).map fun w => (u, w)).filter fun p =>
        (loneSeatDenial l sc (pairSeats n p)).isNone
  else []

/-- The valid pair of lowest score (R58). -/
def splitPlacement (l : Layout) (sc : Screening) (k : SeatKind) (n : Nat) (range : Option (Nat × Nat)) :
    Option Placement :=
  (leastBy pairScore ((searchRows l range).flatMap (rowPairs l sc k n (searchRows l range)))).map fun p =>
    { split := true, score := pairScore p, seats := pairSeats n p }

/-- The search: a single run, else a split pair when n is at least 2 and the split flag is set, else nothing (R56 to R59). -/
def findPlacement (l : Layout) (sc : Screening) (k : SeatKind) (n : Nat) (range : Option (Nat × Nat)) (split : Bool) :
    Option Placement :=
  match singlePlacement l sc k n range with
  | some p => some p
  | none => if 2 ≤ n ∧ split = true then splitPlacement l sc k n range else none

end Sys2Proof.Machine
end

