-- ==== Sys2Proof/Machine/Baskets.lean ====
section
/-! DEFINITION. The kiosk's requests on a basket, the tender orders of the TDU, the hold expiry and the commit
(02_baskets_and_holds R28 to R51, 03_best_available_search R52 to R61). -/

namespace Sys2Proof.Machine

/-! ## Replies and the taking of a request (R28) -/

/-- The record of a drop's basket as replies carry it now (R36). -/
def State.record (s : State) (d : Drop) : BasketRecord := basketRecord (s.basket d) s.fau.generation

/-- A reply with the serial and the basket as they stand (R28). -/
def State.basketReply (s : State) (d : Drop) (c : Code) (detail : ReplyDetail) : State :=
  s.replyDrop d { code := c, serial := some (s.basket d).serial, basket := some (s.record d), detail := detail }

/-- A reply with the serial alone (R28). -/
def State.serialReply (s : State) (d : Drop) (c : Code) : State :=
  s.replyDrop d { code := c, serial := some (s.basket d).serial, basket := none, detail := .none }

/-- The taking of a basket request (R28): `opens` is set for SELECT, BEST and SNACK_ADD and `views` for VIEW. A body of the
wrong length is BAD_VALUE (R197; notes/assumptions/12.md). -/
def State.basketRequest {α : Type} (s : State) (d : Drop) (body : Body α) (serialOf : α → Nat) (opens views : Bool)
    (act : α → State → State) : State :=
  match body with
  | none => s.basketReply d .badValue .none
  | some r =>
    if s.isKiosk d = false then s.serialReply d .wrongDrop
    else if s.hlc.partState ≠ .ready then s.serialReply d (partStateCode s.hlc.partState)
    else
      match (s.basket d).state with
      | .idle => if opens then act r s else s.basketReply d .noBasket .none
      | .opened => if serialOf r = (s.basket d).serial then act r s else s.serialReply d .staleBasket
      | .tender =>
        if serialOf r = (s.basket d).serial then
          if views then act r s else s.basketReply d .inTender .none
        else s.serialReply d .staleBasket

/-- The serial of the next opening (R24). -/
def nextSerial (n : Nat) : Nat := if 65535 ≤ n then 1 else n + 1

/-- The basket opened when it was IDLE, before its lines are pushed (R24). -/
def State.openedBasket (s : State) (b : Basket) : Basket :=
  match b.state with
  | .idle =>
    { Basket.reset with serial := nextSerial b.serial, state := .opened, countdown := s.hlc.hold
                        generation := s.fau.generation }
  | .opened => b
  | .tender => b

/-! ## Holding seats (R29) -/

/-- A refusal of SELECT or BEST: its code and what the reply names. -/
abbrev Denial := Code × ReplyDetail

/-- Whether the screening a request names is another than the bound one. -/
def Basket.boundElsewhere (b : Basket) (number : Nat) : Bool :=
  match b.bound with
  | some n => n != number
  | none => false

/-- Checks 2 to 5 of SELECT, which are checks 1 to 4 of BEST (R29, R53). -/
def State.screeningDenial (s : State) (b : Basket) (number count : Nat) : Option Denial :=
  match s.findScreening number with
  | none => some (.noScreening, .none)
  | some (_, sc) =>
    match sc.state with
    | .loaded => some (.notOpen, .none)
    | .closing => some (.closed, .none)
    | .closed => some (.closed, .none)
    | .onSale =>
      if b.boundElsewhere number then some (.mixedScreening, .none)
      else if 10 < b.lines.length + count ∨ 8 < b.seatCount + count then some (.basketFull, .none)
      else none

/-- Checks 6 to 9 of SELECT (R29). -/
def seatDenial (l : Layout) (sc : Screening) (b : Basket) (seats : List SeatAddr) : Option Denial :=
  match firstMissing l seats, firstInState sc (fun st => st != .free) seats,
    companionDenial l (b.seatAddrs ++ seats) seats, loneSeatDenial l sc seats with
  | some a, _, _, _ => some (.noSeat, .seat a)
  | none, some (a, st), _, _ => some (.notFree, .seatState a (shown st))
  | none, none, some a, _ => some (.companionRule, .seat a)
  | none, none, none, some a => some (.loneSeat, .seat a)
  | none, none, none, none => none

/-- A seat with its price (R29 check 10, R61). -/
structure PricedSeat where
  addr : SeatAddr
  kind : SeatKind
  concession : Concession
  outcome : LineOutcome
  deriving DecidableEq, Repr

/-- The seat line a screening's seat is priced as (R70). -/
def seatQueryOf (sc : Screening) (k : SeatKind) (c : Concession) : SeatQuery :=
  { screening := sc.number, band := sc.band, surcharge := sc.surcharge, minute := sc.startMinute, kind := k
    concession := c }

/-- One seat put to the FAU. -/
def Fau.priceHeld (f : Fau) (l : Layout) (sc : Screening) (x : SeatAddr × Concession) : PricedSeat :=
  let k := (l.seatKind x.1).getD .standard
  { addr := x.1, kind := k, concession := x.2, outcome := f.priceSeat (seatQueryOf sc k x.2) }

/-- The refusal of a priced seat, naming it. -/
def PricedSeat.denial (p : PricedSeat) : Option Denial :=
  match p.outcome with
  | .refused c => some (c, .seat p.addr)
  | .priced _ _ _ _ => none

/-- The amount of a line's outcome. -/
def outcomeAmount : LineOutcome → Nat
  | .priced a _ _ _ => a
  | .refused _ => 0

/-- The SEAT line of a priced seat (R25). -/
def PricedSeat.line (p : PricedSeat) (number generation : Nat) : BasketLine :=
  .seat number p.addr p.kind p.concession (outcomeAmount p.outcome) generation

/-- The basket with the lines of priced seats pushed: the flags of the masked conditions, the bound screening, the countdown at
H, warning-sent clear and the totals (R29). -/
def State.basketHolding (s : State) (b : Basket) (number : Nat) (ps : List PricedSeat) : Basket :=
  let o := s.openedBasket b
  Basket.withTotals
    { o with
      lines := o.lines ++ ps.map fun p => p.line number s.fau.generation
      flags := flagsWithLines o.flags (ps.map (·.outcome))
      bound := some number, countdown := s.hlc.hold, warned := false } s.fau

/-- The screening with seats HELD by a drop from a line slot on (R15, R29). -/
def Screening.holdFrom (sc : Screening) (d : Drop) : Nat → List SeatAddr → Screening
  | _, [] => sc
  | slot, a :: rest => Screening.holdFrom (sc.setSeat a (.held d slot)) d (slot + 1) rest

/-- Priced seats are held: lines pushed, records HELD, counts moved (R29). -/
def State.holdSeats (s : State) (d : Drop) (i : Fin 16) (sc : Screening) (ps : List PricedSeat) : State :=
  (s.setScreening i (some (sc.holdFrom d (s.openedBasket (s.basket d)).lines.length (ps.map (·.addr))))).setBasket d
    (s.basketHolding (s.basket d) sc.number ps)

/-- Check 10 and the holding: the first refused seat is the reply, with nothing changed; else the seats are held and the reply
is OK (R29, R61). -/
def State.priceAndHold (s : State) (d : Drop) (i : Fin 16) (sc : Screening) (seats : List (SeatAddr × Concession))
    (detail : ReplyDetail) : State :=
  let ps := seats.map (s.fau.priceHeld (s.layout sc.layout) sc)
  match ps.findSome? PricedSeat.denial with
  | some x => s.basketReply d x.1 x.2
  | none => (s.holdSeats d i sc ps).basketReply d .ok detail

/-! ## SELECT (R29) -/

/-- The seats of a SELECT whose form is good (R29 check 1). -/
def selectSeats (r : SelectReq) : Option (List (SeatAddr × Concession)) :=
  match r.seats.mapM fun x => (concessionOfCode x.concession).map fun c => (x.addr, c) with
  | some l =>
    if 1 ≤ l.length ∧ l.length ≤ 8 ∧ (l.all fun x => x.1.row ≤ 23 && x.1.pos ≤ 39) = true
        ∧ noRepeats (l.map (·.1)) = true then some l
    else none
  | none => none

/-- SELECT past R28 (R29). -/
def State.select (d : Drop) (r : SelectReq) (s : State) : State :=
  match selectSeats r with
  | none => s.basketReply d .badValue .none
  | some seats =>
    match s.screeningDenial (s.basket d) r.screening seats.length, s.findScreening r.screening with
    | none, some (i, sc) =>
      match seatDenial (s.layout sc.layout) sc (s.basket d) (seats.map (·.1)) with
      | some x => s.basketReply d x.1 x.2
      | none => s.priceAndHold d i sc seats .none
    | some x, _ => s.basketReply d x.1 x.2
    | none, none => s.basketReply d .noScreening .none

def execSelect (d : Drop) (req : Body SelectReq) (s : State) : Result :=
  ((s.accept (.select d req)).basketRequest d req SelectReq.serial true false (State.select d)).done

/-! ## BEST (R52 to R61) -/

/-- A BEST whose form is good (R52). -/
structure BestForm where
  kind : SeatKind
  concessions : List Concession
  deriving DecidableEq, Repr

/-- Whether a row range is absent or in range (R52). -/
def rangeOk : Option (Nat × Nat) → Bool
  | none => true
  | some (first, last) => first ≤ last && last ≤ 23

/-- The form check of BEST (R52). -/
def bestForm (r : BestReq) : Option BestForm :=
  match seatKindOfCode r.kind, r.concessions.mapM concessionOfCode with
  | some k, some cs =>
    if 1 ≤ r.count ∧ r.count ≤ 8 ∧ cs.length = r.count ∧ (k = .standard ∨ k = .premium) ∧ rangeOk r.range = true then
      some { kind := k, concessions := cs }
    else none
  | _, _ => none

/-- A seat of a placement as the reply names it (R60). -/
def placedSeat (l : Layout) (a : SeatAddr) : PlacedSeat := { addr := a, label := l.label a.row, number := l.seatNumber a }

/-- BEST past R28: form, checks, search, and the holding of what is found (R52 to R61). -/
def State.best (d : Drop) (r : BestReq) (s : State) : State :=
  match bestForm r with
  | none => s.basketReply d .badValue .none
  | some f =>
    match s.screeningDenial (s.basket d) r.screening r.count, s.findScreening r.screening with
    | none, some (i, sc) =>
      match findPlacement (s.layout sc.layout) sc f.kind r.count r.range r.split with
      | none => s.basketReply d .noRun .none
      | some p =>
        match seatDenial (s.layout sc.layout) sc (s.basket d) p.seats with
        | some x => s.basketReply d x.1 x.2
        | none =>
          s.priceAndHold d i sc (p.seats.zip f.concessions)
            (.placement p.split p.score (p.seats.map (placedSeat (s.layout sc.layout))))
    | some x, _ => s.basketReply d x.1 x.2
    | none, none => s.basketReply d .noScreening .none

def execBest (d : Drop) (req : Body BestReq) (s : State) : Result :=
  ((s.accept (.best d req)).basketRequest d req BestReq.serial true false (State.best d)).done

/-! ## SNACK_ADD, UNDO and VOID_LINE (R30 to R32) -/

/-- The basket with a SNACK line pushed (R30). -/
def State.basketWithSnack (s : State) (b : Basket) (item price : Nat) : Basket :=
  let o := s.openedBasket b
  Basket.withTotals { o with lines := o.lines ++ [.snack item price s.fau.generation] } s.fau

/-- SNACK_ADD past R28 (R30). -/
def State.snackAdd (d : Drop) (r : SnackReq) (s : State) : State :=
  if 31 < r.item then s.basketReply d .badValue .none
  else if 10 ≤ (s.basket d).lines.length ∨ 8 ≤ (s.basket d).snackCount then s.basketReply d .basketFull .none
  else
    match s.fau.itemPrice r.item with
    | none => s.basketReply d .noItem .none
    | some p => (s.setBasket d (s.basketWithSnack (s.basket d) r.item p.price)).basketReply d .ok .none

def execSnackAdd (d : Drop) (req : Body SnackReq) (s : State) : Result :=
  ((s.accept (.snackAdd d req)).basketRequest d req SnackReq.serial true false (State.snackAdd d)).done

/-- The stack without the VOID slots at its top, top first. -/
def liveTop (ls : List BasketLine) : List BasketLine := ls.reverse.dropWhile fun l => !l.live

/-- The line that UNDO removes (R31). -/
def undoneLine (ls : List BasketLine) : Option BasketLine := (liveTop ls).head?

/-- The stack after UNDO (R31). -/
def undoneLines (ls : List BasketLine) : List BasketLine := (liveTop ls).tail.reverse

/-- A change to an OPEN basket's lines that releases the seats of the lines that go (R26, R27). -/
def State.changeLines (s : State) (d : Drop) (gone kept : List BasketLine) : State :=
  (s.releaseLines gone).setBasket d (Basket.settled { s.basket d with lines := kept } s.fau)

/-- UNDO past R28 (R31). -/
def State.undo (d : Drop) (_ : Nat) (s : State) : State :=
  (s.changeLines d (undoneLine (s.basket d).lines).toList (undoneLines (s.basket d).lines)).basketReply d .ok .none

def execUndo (d : Drop) (serial : Body Nat) (s : State) : Result :=
  ((s.accept (.undo d serial)).basketRequest d serial id false false (State.undo d)).done

/-- VOID_LINE past R28 (R32). -/
def State.voidLine (d : Drop) (r : VoidLineReq) (s : State) : State :=
  if 9 < r.slot then s.basketReply d .badValue .none
  else
    match (s.basket d).lines[r.slot]? with
    | none => s.basketReply d .noLine .none
    | some .void => s.basketReply d .noLine .none
    | some l => (s.changeLines d [l] ((s.basket d).lines.set r.slot .void)).basketReply d .ok .none

def execVoidLine (d : Drop) (req : Body VoidLineReq) (s : State) : Result :=
  ((s.accept (.voidLine d req)).basketRequest d req VoidLineReq.serial false false (State.voidLine d)).done

/-! ## EXTEND, VIEW and CLEAR (R33 to R35) -/

/-- The extended countdown (R33). -/
def extended (countdown hold : Nat) : Nat := min (countdown + hold / 2) hold

/-- EXTEND past R28 (R33). -/
def State.extend (d : Drop) (_ : Nat) (s : State) : State :=
  let b := s.basket d
  if b.extensions < 2 then
    (s.setBasket d { b with countdown := extended b.countdown s.hlc.hold, extensions := b.extensions + 1, warned := false }
      ).basketReply d .ok (.countdown (extended b.countdown s.hlc.hold))
  else s.basketReply d .noExtension .none

def execExtend (d : Drop) (serial : Body Nat) (s : State) : Result :=
  ((s.accept (.extend d serial)).basketRequest d serial id false false (State.extend d)).done

/-- VIEW past R28 (R34). -/
def State.view (d : Drop) (_ : Nat) (s : State) : State := s.basketReply d .ok .none

def execView (d : Drop) (serial : Body Nat) (s : State) : Result :=
  ((s.accept (.view d serial)).basketRequest d serial id false true (State.view d)).done

/-- A basket's seats are released in slot order and the basket is cleared (R35, R39, R51). -/
def State.dropBasket (s : State) (d : Drop) : State :=
  (s.releaseLines (s.basket d).lines).setBasket d (s.basket d).cleared

/-- CLEAR past R28 (R35). -/
def State.clear (d : Drop) (_ : Nat) (s : State) : State := (s.dropBasket d).basketReply d .ok .none

def execClear (d : Drop) (serial : Body Nat) (s : State) : Result :=
  ((s.accept (.clear d serial)).basketRequest d serial id false false (State.clear d)).done

/-! ## TENDER (R42 to R45) -/

/-- The slot of the first COMPANION line without its WHEELCHAIR seat (R42). -/
def companionSlot (l : Layout) (b : Basket) : Option Nat :=
  (b.lines.zipIdx.find? fun p =>
    match p.1 with
    | .seat _ a .companion _ _ _ => !companionOk l b.seatAddrs a
    | _ => false).map (·.2)

/-- The bound screening's record. -/
def State.boundScreening (s : State) (b : Basket) : Option (Fin 16 × Screening) := b.bound.bind s.findScreening

/-- The checks of a TENDER (R43). -/
def State.tenderDenial (s : State) (b : Basket) : Option Denial :=
  if 3 ≤ b.attempts then some (.attemptsUsed, .none)
  else
    match s.boundScreening b with
    | some (_, sc) =>
      if sc.withdrawn then some (.withdrawn, .none)
      else (companionSlot (s.layout sc.layout) b).map fun slot => (.companionRule, .line slot)
    | none => none

/-- The freeze: the countdown is saved, and stands where it stopped (R45). -/
def State.freeze (s : State) (d : Drop) : State :=
  let b := s.basket d
  (s.setBasket d { b with frozen := some b.totals.gross, saved := some b.countdown, state := .tender }).send
    [.tenderStart d { serial := b.serial, frozen := b.totals.gross, seats := b.seatCount, snacks := b.snackCount
                      attempts := b.attempts }]

/-- Whether whole repricing voids a line (R44). -/
def State.repriceVoids (s : State) (d : Drop) : Bool := (s.basket d).lines.any fun l => refusedOutcome (s.lineOutcome l)

/-- TENDER past R28 (R43, R44). -/
def State.tender (d : Drop) (_ : Nat) (s : State) : State :=
  match s.tenderDenial (s.basket d) with
  | some x => s.basketReply d x.1 x.2
  | none =>
    if (s.basket d).generation = s.fau.generation then s.freeze d
    else if s.repriceVoids d = true ∨ ((s.reprice d).basket d).totals.gross ≠ (s.basket d).totals.gross then
      (s.reprice d).basketReply d .priceChanged .none
    else (s.reprice d).freeze d

def execTender (d : Drop) (serial : Body Nat) (s : State) : Result :=
  ((s.accept (.tender d serial)).basketRequest d serial id false false (State.tender d)).done

/-! ## Tender orders (R46) and the hold expiry (R39, R40) -/

/-- An order of the TDU acts on a basket in TENDER with the serial it names, and is discarded otherwise (R46). -/
def State.tenderOrder (s : State) (d : Drop) (serial : Nat) (act : State → State) : State :=
  if (s.basket d).state = .tender ∧ (s.basket d).serial = serial then act s else s

/-- ATTEMPT (R46). -/
def State.attempt (d : Drop) (s : State) : State :=
  s.setBasket d { s.basket d with attempts := (s.basket d).attempts + 1 }

def execAttempt (d : Drop) (serial : Nat) (s : State) : Result :=
  .next ((s.accept (.attempt d serial)).tenderOrder d serial (State.attempt d))

/-- UNFREEZE (R46). -/
def State.unfreeze (d : Drop) (cause : TenderOutcome) (s : State) : State :=
  let b := s.basket d
  (s.setBasket d { b with state := .opened, frozen := none, saved := none, countdown := max (b.saved.getD 0) 60
                          warned := false }).pushBasket d (.unfrozen cause)

def execUnfreeze (d : Drop) (serial : Nat) (cause : TenderOutcome) (s : State) : Result :=
  ((s.accept (.unfreeze d serial cause)).tenderOrder d serial (State.unfreeze d cause)).done

def execExpire (d : Drop) (serial : Nat) (s : State) : Result :=
  ((s.accept (.expire d serial)).tenderOrder d serial fun t => t.expireBasket d).done

/-- The expiry of a hold acts on an OPEN basket whose countdown stands at 0, so that a request taken first that raised the
countdown, froze the basket or cleared it stops it (R39, R40; notes/assumptions/5.md). -/
def State.holdExpiry (s : State) (d : Drop) : State :=
  if (s.basket d).state = .opened ∧ (s.basket d).countdown = 0 then s.expireBasket d else s

def execHoldExpiry (d : Drop) (s : State) : Result := ((s.accept (.holdExpiry d)).holdExpiry d).done

/-! ## COMMIT (R47 to R49) -/

/-- One seat of a committed basket becomes SOLD, origin KIOSK (R47). -/
def State.sellLine (sale : Nat) (s : State) : BasketLine → State
  | .seat number a _ _ _ _ => s.putSeat number a (.sold sale .kiosk)
  | _ => s

/-- The seats of a committed basket are sold in slot order. A CLOSING screening is tested at each, and so after the last (R13,
R47; notes/assumptions/47.md). -/
def State.sellBasket (s : State) (b : Basket) (sale : Nat) : State := b.lines.foldl (State.sellLine sale) s

/-- The SNACK lines with their voucher serials, consecutive from the first (R47). -/
def numberSnacks (first : Nat) : List BasketLine → List (BasketLine × Nat)
  | [] => []
  | .snack item amount g :: rest => (.snack item amount g, first) :: numberSnacks (first + 1) rest
  | .seat n a k c m g :: rest => (.seat n a k c m g, 0) :: numberSnacks first rest
  | .void :: rest => numberSnacks first rest

/-- The lines of a committed basket, each SNACK line with its voucher serial (R47). -/
def committedLines (b : Basket) (c : CommitOrder) : List (BasketLine × Nat) := numberSnacks (c.firstVoucher.getD 0) b.lines

/-- The seat entry of a sale record (R48). -/
def seatEntryOf (l : Layout) : BasketLine × Nat → Option SeatEntry
  | (.seat _ a k c m _, _) => some { label := l.label a.row, number := l.seatNumber a, kind := k, concession := c, amount := m }
  | _ => none

/-- The snack entry of a sale record (R48). -/
def snackEntryOf : BasketLine × Nat → Option SnackEntry
  | (.snack item m _, v) => some { item := item, serial := v, amount := m }
  | _ => none

/-- The layout that a basket's seats are in; none is read when it holds no seat. -/
def State.boundLayout (s : State) (b : Basket) : Layout :=
  match s.boundScreening b with
  | some (_, sc) => s.layout sc.layout
  | none => Layout.reset

/-- Whether the bound screening's WITHDRAWN flag is set (R48). -/
def State.boundWithdrawn (s : State) (b : Basket) : Bool :=
  match s.boundScreening b with
  | some (_, sc) => sc.withdrawn
  | none => false

/-- The sale record (R48). -/
def State.saleRecordOf (s : State) (d : Drop) (b : Basket) (c : CommitOrder) : SaleRecord :=
  { sale := c.sale, drop := d, serial := b.serial, screening := b.bound, time := s.hlc.clock
    seats := (committedLines b c).filterMap (seatEntryOf (s.boundLayout b))
    snacks := (committedLines b c).filterMap snackEntryOf, totals := b.totals, flags := b.flags
    withdrawn := s.boundWithdrawn b, payment := c.payment }

/-- The validity minutes of an item (R48, R67). -/
def Fau.itemMinutes (f : Fau) (item : Nat) : Nat :=
  match f.item item with
  | some i => i.minutes
  | none => 0

/-- The line of an issue order (R48). -/
def Fau.issueLineOf (f : Fau) : BasketLine × Nat → Option IssueLine
  | (.snack item m _, v) => some { item := item, serial := v, amount := m, minutes := f.itemMinutes item }
  | _ => none

/-- The issue order (R48). -/
def State.issueOrderOf (s : State) (b : Basket) (c : CommitOrder) : IssueOrder :=
  { sale := c.sale, time := s.hlc.clock
    screening := (s.boundScreening b).map fun x =>
      { number := x.2.number, day := x.2.startDay, minute := x.2.startMinute }
    lines := (committedLines b c).filterMap s.fau.issueLineOf }

/-- The SEAT lines of a basket with their screening, seat, concession and amount. -/
def seatOfLine : BasketLine → Option (Nat × SeatAddr × Concession × Nat)
  | .seat n a _ c m _ => some (n, a, c, m)
  | _ => none

/-- One TICKET (R48). -/
def ticketOf (sc : Option Screening) (l : Layout) (sale index : Nat) (x : Nat × SeatAddr × Concession × Nat) : Ticket :=
  { sale := sale, index := index, screening := x.1
    startDay := match sc with | some y => y.startDay | none => 0
    startMinute := match sc with | some y => y.startMinute | none => 0
    auditorium := match sc with | some y => y.layout.val | none => 0
    label := l.label x.2.1.row, number := l.seatNumber x.2.1, concession := x.2.2.1, amount := x.2.2.2 }

/-- The summary line of a non-void line (R48). -/
def summaryOf (l : Layout) : BasketLine → Option SummaryLine
  | .seat _ a _ c m _ => some (.seat (l.label a.row) (l.seatNumber a) c m)
  | .snack item m _ => some (.snack item m)
  | .void => none

/-- The approval code of a CARD payment. -/
def approvalOf : Payment → Option Text
  | .card a _ => some a
  | .none => none

/-- The print items of a commit: one TICKET per SEAT line and one RECEIPT (R48). -/
def State.printItemsOf (s : State) (b : Basket) (c : CommitOrder) : List PrintItem :=
  let l := s.boundLayout b
  let seats := b.lines.filterMap seatOfLine
  (seats.zipIdx.map fun p =>
      PrintItem.ticket (ticketOf ((s.boundScreening b).map (·.2)) l c.sale (p.2 + 1) p.1)) ++
    [PrintItem.receipt
      { sale := c.sale, index := seats.length + 1, lines := b.lines.filterMap (summaryOf l), gross := b.totals.gross
        seatTax := b.totals.seatTax, snackTax := b.totals.snackTax, approval := approvalOf c.payment
        codes := ((committedLines b c).filterMap snackEntryOf).map fun e => voucherCode e.serial }]

/-- The three orders of a commit, in order; the issue order only with a SNACK line (R48). -/
def State.commitOrders (s : State) (d : Drop) (b : Basket) (c : CommitOrder) : List Instr :=
  [.saleRecord (s.saleRecordOf d b c)]
    ++ (if b.lines.any BasketLine.isSnack then [.issueOrder (s.issueOrderOf b c)] else [])
    ++ [.printOrder d (s.printItemsOf b c)]

/-- COMMIT: the seats are sold, the orders sent, the basket cleared and pushed SOLD, and the TDU told last (R47 to R49). -/
def State.commit (d : Drop) (c : CommitOrder) (s : State) : State :=
  let b := s.basket d
  ((((s.sellBasket b c.sale).send (s.commitOrders d b c)).setBasket d b.cleared).pushBasket d (.sold c.sale)).send
    [.commitConfirmation d b.serial]

def execCommit (d : Drop) (c : CommitOrder) (s : State) : Result :=
  ((s.accept (.commit d c)).tenderOrder d c.serial (State.commit d c)).done

/-! ## Drops returned and reset (R50, R51) -/

/-- DROP_ONLINE_SBU: a RESYNC push for a returning kiosk drop (R50). -/
def execDropOnlineSbu (d : Drop) (s : State) : Result :=
  let t := s.accept (.dropOnlineSbu d)
  (if t.isKiosk d then t.pushBasket d .resync else t).done

/-- DROP_RESET at the SBU: seats released, basket cleared and pushed RESET, and a basket that was in TENDER sends the TDU a
release (R51). -/
def State.resetBasket (s : State) (d : Drop) : State :=
  match (s.basket d).state with
  | .idle => s
  | .opened => (s.dropBasket d).pushBasket d .reset
  | .tender => ((s.dropBasket d).pushBasket d .reset).send [.release d (s.basket d).serial]

end Sys2Proof.Machine
end

