-- ==== Sys2Proof/Machine/Reader.lean ====
section
/-! DEFINITION. The reader slots of the Tender Unit: card contacts, power sequencing and slot pushes (05_card_tender, R83 to
R92). -/

namespace Sys2Proof.Machine

/-! ## Slot states (R84, R90, R92) -/

/-- Entry to EMPTY: DATA_LOST keeps its value (R84). -/
def ReaderSlot.toEmpty (r : ReaderSlot) : ReaderSlot :=
  { r with state := .empty, timer := none, spent := false, removalPending := false, badSupply := false, cardClass := none
           supply := none }

/-- Entry to PARTIAL (R84). -/
def ReaderSlot.toPartial (r : ReaderSlot) : ReaderSlot :=
  { r with state := .partialIn, timer := some { purpose := .partialIn, ms := 2000 }, cardClass := none, supply := none }

/-- Entry to SETTLING, or its timer started again (R84, R85). -/
def ReaderSlot.toSettling (r : ReaderSlot) : ReaderSlot :=
  { r with state := .settling, timer := some { purpose := .settle, ms := 100 }, cardClass := none, supply := none }

/-- The slot side of the off command (R90). -/
def ReaderSlot.toPowerDown (r : ReaderSlot) : ReaderSlot :=
  { r with state := .poweringDown, outstanding := .off, spent := true, removalPending := false
           timer := some { purpose := .acknowledge, ms := 500 } }

/-- The slot side of the on command (R87). -/
def ReaderSlot.toPowerUp (r : ReaderSlot) : ReaderSlot :=
  { r with state := .poweringUp, outstanding := .on, timer := some { purpose := .acknowledge, ms := 500 } }

/-- Whether the slot timer runs for a purpose. -/
def ReaderSlot.timing (r : ReaderSlot) (p : TimerPurpose) : Bool :=
  match r.timer with
  | some t => t.purpose == p
  | none => false

/-- Whether a slot is in one of the three states of a card under power (R110, R166). -/
def ReaderState.powered : ReaderState → Bool
  | .poweringUp => true
  | .ready => true
  | .poweringDown => true
  | _ => false

/-- The slot push of a slot (R92). -/
def slotPushOf (r : ReaderSlot) (reason : SlotReason) : SlotPush :=
  { state := r.state, cardClass := r.cardClass, supply := r.supply, spent := r.spent, dataLost := r.dataLost
    badSupply := r.badSupply, reason := reason }

/-- A slot push is placed with the slot as it now stands (R92). -/
def State.pushSlot (s : State) (d : Drop) (reason : SlotReason) : State :=
  s.place d .pushSlot (.slotPush (slotPushOf (s.reader d) reason))

/-- The push at the end of an event: the named reason, else CHANGE when the slot state changed (R92; notes/assumptions/16.md). -/
def State.pushSlotAfter (s : State) (d : Drop) (before : ReaderState) : Option SlotReason → State
  | some reason => s.pushSlot d reason
  | none => if (s.reader d).state = before then s else s.pushSlot d .change

/-- The off command is placed (R90). -/
def State.powerOff (s : State) (d : Drop) : State :=
  (s.setReader d (s.reader d).toPowerDown).place d .reader (.reader .off)

/-- The power condition (R87). -/
def State.powerCondition (s : State) (d : Drop) : Bool :=
  (s.reader d).state == .classified && !(s.reader d).spent && (s.reader d).outstanding == .none
    && (s.session d).state == .cardWait

/-- The test of the power condition: a card that meets it gets READER_POWER on with the slot's supply (R87). -/
def State.powerTest (s : State) (d : Drop) : State :=
  if s.powerCondition d then
    (s.setReader d (s.reader d).toPowerUp).place d .reader (.reader (.on ((s.reader d).supply.getD .v3)))
  else s

/-- A report from a drop not configured KIOSK, or of the wrong length, is discarded (R91, R197). -/
def State.readerReport {α : Type} (s : State) (d : Drop) (body : Body α) (act : α → State → State) : State :=
  match body with
  | some r => if s.isKiosk d then act r s else s
  | none => s

/-! ## CONTACTS (R84, R85, R88, R89) -/

/-- Whether both detect contacts are made. -/
def bothMade (c : Contacts) : Bool := c.detect1 && c.detect2

/-- Whether neither detect contact is made. -/
def noneMade (c : Contacts) : Bool := !c.detect1 && !c.detect2

/-- The slot moved by the detect contacts out of EMPTY, PARTIAL, SETTLING or CLASSIFIED when they are not both made. -/
def ReaderSlot.pulled (r : ReaderSlot) : ReaderSlot := if noneMade r.contacts then r.toEmpty else r.toPartial

/-- A CONTACTS report in a state without card power: the slot with the contacts recorded, moved as R84 and R85 state. -/
def ReaderSlot.contactsMove (old : ReaderSlot) (c : Contacts) : ReaderSlot :=
  let r := { old with contacts := c }
  match old.state with
  | .empty => if bothMade c then r.toSettling else if noneMade c then r else r.toPartial
  | .partialIn => if bothMade c then r.toSettling else if noneMade c then r.toEmpty else r
  | .settling => if bothMade c then (if c = old.contacts then r else r.toSettling) else r.pulled
  | .classified =>
    if bothMade c then
      (if c.sense1 = old.contacts.sense1 ∧ c.sense2 = old.contacts.sense2 then r else r.toSettling)
    else r.pulled
  | .unsupported => if noneMade c then r.toEmpty else r
  | .fault => if noneMade c then r.toEmpty else r
  | .poweringUp => r
  | .ready => r
  | .poweringDown => r

/-- A card pulled under power: DATA_LOST, the off command and a CARD_REMOVED push (R88, R89). -/
def State.cardRemoved (s : State) (d : Drop) : State :=
  ((s.setReader d { s.reader d with dataLost := true }).powerOff d).pushSlot d .cardRemoved

/-- CONTACTS past R91 (R84, R85, R88 to R90). -/
def State.contacts (d : Drop) (c : Contacts) (s : State) : State :=
  let old := s.reader d
  let t := s.setReader d (old.contactsMove c)
  match old.state with
  | .poweringUp =>
    if bothMade c then t
    else if old.timing .delay then t.cardRemoved d
    else t.setReader d { t.reader d with removalPending := true }
  | .ready => if bothMade c then t else t.cardRemoved d
  | .poweringDown => t
  | .empty => t.pushSlotAfter d old.state none
  | .partialIn => t.pushSlotAfter d old.state none
  | .settling => t.pushSlotAfter d old.state none
  | .classified => t.pushSlotAfter d old.state none
  | .unsupported => t.pushSlotAfter d old.state none
  | .fault => t.pushSlotAfter d old.state none

def execContacts (d : Drop) (c : Body Contacts) (s : State) : Result :=
  .next ((s.accept (.contacts d c)).readerReport d c (State.contacts d))

/-! ## Slot timers without card power (R84 to R86) -/

/-- READER_PARTIAL_TIMEOUT: a slot still PARTIAL is pushed REINSERT (R84). -/
def State.partialTimeout (d : Drop) (s : State) : State :=
  if (s.reader d).state = .partialIn ∧ (s.reader d).timing .partialIn = true then
    (s.setReader d { s.reader d with timer := none }).pushSlot d .reinsert
  else s

def execReaderPartialTimeout (d : Drop) (s : State) : Result := .next (s.partialTimeout d)

/-- The slot classified from the sense contacts and the drop's reader supply (R86). -/
def ReaderSlot.classify (r : ReaderSlot) (supply : ReaderSupply) : ReaderSlot :=
  match r.contacts.sense1, r.contacts.sense2, supply with
  | true, false, _ =>
    { r with state := .classified, cardClass := some .v3, supply := some .v3, dataLost := false, timer := none }
  | false, true, .both =>
    { r with state := .classified, cardClass := some .v5, supply := some .v5, dataLost := false, timer := none }
  | false, true, .only3V => { r with state := .unsupported, cardClass := some .v5, badSupply := true, timer := none }
  | true, true, _ =>
    { r with state := .classified, cardClass := some .dual, supply := some .v3, dataLost := false, timer := none }
  | false, false, _ => { r with state := .unsupported, cardClass := some .notACard, timer := none }

/-- READER_SETTLE_END: the card is classified and the power condition tested (R86, R87). -/
def State.settleEnd (d : Drop) (s : State) : State :=
  if (s.reader d).state = .settling ∧ (s.reader d).timing .settle = true then
    ((s.setReader d ((s.reader d).classify (s.dropRec d).supply)).powerTest d).pushSlotAfter d .settling none
  else s

def execReaderSettleEnd (d : Drop) (s : State) : Result := .next (s.settleEnd d)

/-! ## Power up and power down (R88, R90) -/

/-- The off command is placed and the change of state pushed. -/
def State.powerOffPush (s : State) (d : Drop) : State := (s.powerOff d).pushSlotAfter d (s.reader d).state none

/-- POWER_DONE on in POWERING_UP (R88). -/
def State.powerDoneOn (s : State) (d : Drop) : State :=
  let r := { s.reader d with outstanding := .none }
  if (s.reader d).removalPending = true ∨ (s.session d).state ≠ .cardWait then (s.setReader d r).powerOffPush d
  else s.setReader d { r with timer := some { purpose := .delay, ms := 40 } }

/-- POWER_DONE past R91: an acknowledge of the command outstanding in its state (R88, R90, R91). -/
def State.powerDone (d : Drop) (on : Bool) (s : State) : State :=
  match (s.reader d).state, (s.reader d).outstanding, on with
  | .poweringUp, .on, true => s.powerDoneOn d
  | .poweringDown, .off, false =>
    s.setReader d { s.reader d with outstanding := .none, timer := some { purpose := .delay, ms := 40 } }
  | _, _, _ => s

def execPowerDone (d : Drop) (on : Body Bool) (s : State) : Result :=
  .next ((s.accept (.powerDone d on)).readerReport d on (State.powerDone d))

/-- READER_POWER_UP_ACK_TIMEOUT (R88). -/
def State.powerUpAckTimeout (d : Drop) (s : State) : State :=
  if (s.reader d).state = .poweringUp ∧ (s.reader d).timing .acknowledge = true then
    (s.setReader d { s.reader d with outstanding := .none }).powerOffPush d
  else s

def execReaderPowerUpAckTimeout (d : Drop) (s : State) : Result := .next (s.powerUpAckTimeout d)

/-- READER_POWER_UP_DELAY_END (R88). -/
def State.powerUpDelayEnd (d : Drop) (s : State) : State :=
  if (s.reader d).state = .poweringUp ∧ (s.reader d).timing .delay = true then
    if (s.session d).state = .cardWait then
      (s.setReader d { s.reader d with state := .ready, timer := none }).pushSlot d .change
    else s.powerOffPush d
  else s

def execReaderPowerUpDelayEnd (d : Drop) (s : State) : Result := .next (s.powerUpDelayEnd d)

/-- READER_POWER_DOWN_ACK_TIMEOUT: the slot enters FAULT (R90). -/
def State.powerDownAckTimeout (d : Drop) (s : State) : State :=
  if (s.reader d).state = .poweringDown ∧ (s.reader d).timing .acknowledge = true then
    (s.setReader d { s.reader d with outstanding := .none, state := .fault, timer := none }).pushSlot d .change
  else s

def execReaderPowerDownAckTimeout (d : Drop) (s : State) : Result := .next (s.powerDownAckTimeout d)

/-- The slot after the power-down delay, moved by the detect contacts (R90). -/
def ReaderSlot.afterPowerDown (r : ReaderSlot) : ReaderSlot :=
  if bothMade r.contacts then { r with state := .classified, timer := none } else r.pulled

/-- READER_POWER_DOWN_DELAY_END (R90). -/
def State.powerDownDelayEnd (d : Drop) (s : State) : State :=
  if (s.reader d).state = .poweringDown ∧ (s.reader d).timing .delay = true then
    ((s.setReader d (s.reader d).afterPowerDown).powerTest d).pushSlotAfter d .poweringDown none
  else s

def execReaderPowerDownDelayEnd (d : Drop) (s : State) : Result := .next (s.powerDownDelayEnd d)

/-! ## READY (R89) -/

/-- READ_FAILED past R91 (R89). -/
def State.readFailed (d : Drop) (_ : Unit) (s : State) : State :=
  if (s.reader d).state = .ready then (s.powerOff d).pushSlot d .readFailed else s

def execReadFailed (d : Drop) (req : Body Unit) (s : State) : Result :=
  .next ((s.accept (.readFailed d req)).readerReport d req (State.readFailed d))

/-- The slot is told that the session has left CARD_WAIT: a READY slot gets the off command (R89, R98). -/
def State.leaveCardWait (s : State) (d : Drop) : State :=
  if (s.reader d).state = .ready then s.powerOffPush d else s

/-! ## Tender state pushes and TOKEN (R99, R100) -/

/-- The sale number a tender state push carries: from AUTH_PENDING onward (R99). -/
def Session.pushedSale (x : Session) : Option Nat :=
  match x.state with
  | .authPending => x.journalGrant
  | .committing => x.journalGrant
  | _ => none

/-- The tender state push of a session (R99). -/
def tenderPushOf (x : Session) : TenderPush :=
  { state := x.state, serial := x.start.map (·.serial), frozen := x.start.map (·.frozen), attempt := x.attempt
    cardWait := x.cardWait, sale := x.pushedSale, outcome := none }

/-- The tender state push of the session as it stands is placed (R99). -/
def State.pushTender (s : State) (d : Drop) : State := s.place d .pushTender (.tenderPush (tenderPushOf (s.session d)))

/-- The session takes a token: CARD_READ (R100). -/
def State.takeToken (s : State) (d : Drop) (t : Token) : State :=
  (s.setSession d { s.session d with state := .cardRead, token := some t, cardWait := none }).pushTender d

/-- TOKEN past R91: in READY the session in CARD_WAIT takes it, and the off command is placed in every case (R89, R100). -/
def State.token (d : Drop) (t : Token) (s : State) : State :=
  if (s.reader d).state = .ready then
    (if (s.session d).state = .cardWait then s.takeToken d t else s).powerOffPush d
  else s

def execToken (d : Drop) (t : Body Token) (s : State) : Result :=
  .next ((s.accept (.token d t)).readerReport d t (State.token d))

/-! ## Loss, return and reset of the drop (R92, R110, R111) -/

/-- The slot of a lost drop: EMPTY with every field as after power-on, its READER command withdrawn (R92). -/
def State.loseSlot (s : State) (d : Drop) : State :=
  ((s.setReader d ReaderSlot.reset).withdraw d .reader).pushSlotAfter d (s.reader d).state none

/-- DROP_ONLINE_TDU: the slot of a returning kiosk drop is pushed as it stands (R92). -/
def execDropOnlineTdu (d : Drop) (s : State) : Result :=
  let t := s.accept (.dropOnlineTdu d)
  .next (if t.isKiosk d then t.pushSlot d .change else t)

/-- The slot at DROP_RESET, and at a change of kind from KIOSK: EMPTY with every field as after power-on, READER_POWER off for a card
under power, and a CHANGE push when the slot state changed (R92, R110, R111; notes/assumptions/40.md). -/
def State.resetSlot (s : State) (d : Drop) : State :=
  let t := s.setReader d ReaderSlot.reset
  let u := if (s.reader d).state.powered then t.place d .reader (.reader .off) else t
  u.pushSlotAfter d (s.reader d).state none

end Sys2Proof.Machine
end

