-- ==== Sys2Proof/Machine/Tender.lean ====
section
/-! DEFINITION. The tender sessions of the Tender Unit: reservation, card wait, authorisation and outcome (05_card_tender, R93 to
R111). -/

namespace Sys2Proof.Machine

/-! ## The end of a session (R98) -/

/-- An IDLE session: the tender reference and the last timed-out sale number are kept (R93). -/
def Session.ended (x : Session) : Session := { Session.reset with reference := x.reference, lastTimedOut := x.lastTimedOut }

/-- The basket serial a session holds. -/
def Session.serial (x : Session) : Nat :=
  match x.start with
  | some t => t.serial
  | none => 0

/-- The frozen amount a session holds. -/
def Session.frozen (x : Session) : Nat :=
  match x.start with
  | some t => t.frozen
  | none => 0

/-- The return of a journal grant, when held. -/
def Session.journalReturns (x : Session) : List Instr := (x.journalGrant.map Instr.journalReturn).toList

/-- The returns of the voucher and print grants, when held. -/
def Session.otherReturns (x : Session) (d : Drop) : List Instr :=
  (x.voucherGrant.map fun g => Instr.voucherReturn g.1 g.2).toList
    ++ (x.printGrant.map fun _ => Instr.printReturn d x.reference).toList

/-- The push of a session that has just returned to IDLE, with its outcome (R99; notes/assumptions/17.md). -/
def endedPush (x : Session) (o : TenderOutcome) : TenderPush :=
  { state := .idle, serial := x.start.map (·.serial), frozen := x.start.map (·.frozen), attempt := none, cardWait := none
    sale := none, outcome := some o }

/-- The session enters IDLE and its outcome is pushed. -/
def State.idleSession (s : State) (d : Drop) (o : TenderOutcome) : State :=
  (s.setSession d (s.session d).ended).place d .pushTender (.tenderPush (endedPush (s.session d) o))

/-- A session returns to IDLE without a sale: grants returned, the authorisation notice withdrawn, the reader slot told, the SBU
ordered, the outcome pushed (R98). -/
def State.endSession (s : State) (d : Drop) (o : TenderOutcome) (returns order : List Instr) : State :=
  ((((s.send returns).unraise (.auth d)).leaveCardWait d).send order).idleSession d o

/-- Every grant held is returned (R98 step 1). -/
def State.allReturns (s : State) (d : Drop) : List Instr :=
  (s.session d).journalReturns ++ (s.session d).otherReturns d

/-- The order that hands the basket back. -/
def State.unfreezeOrder (s : State) (d : Drop) (o : TenderOutcome) : List Instr := [.unfreeze d (s.session d).serial o]

/-- The order after an attempt that failed: EXPIRE after the third, else UNFREEZE (R102, R107). -/
def State.afterAttempt (s : State) (d : Drop) (o : TenderOutcome) : List Instr :=
  if (s.session d).attempt = some 3 then [.expire d (s.session d).serial] else s.unfreezeOrder d o

/-- The timeout void order of a session (R108). -/
def State.voidOrder (s : State) (d : Drop) : List Instr :=
  match (s.session d).journalGrant with
  | some n =>
    [.timeoutVoidOrder { sale := n, drop := d, serial := (s.session d).serial, frozen := (s.session d).frozen
                         time := s.hlc.clock }]
  | none => []

/-- The sale number is kept as the drop's last timed-out one (R108). -/
def State.keepTimedOut (s : State) (d : Drop) : State :=
  s.setSession d { s.session d with lastTimedOut := (s.session d).journalGrant.getD (s.session d).lastTimedOut }

/-- The answer to a CANCEL, which is no basket request: its code with the session's serial (R28, R103;
notes/assumptions/39.md). -/
def State.cancelReply (s : State) (d : Drop) (c : Code) (detail : ReplyDetail) : State :=
  s.replyDrop d { code := c, serial := (s.session d).start.map (·.serial), basket := none, detail := detail }

/-! ## Tender start and the reservation protocol (R94 to R97) -/

/-- The session a tender start makes (R94). -/
def Session.started (x : Session) (t : TenderStart) : Session :=
  { Session.reset with
    state := .reserving, reference := (x.reference + 1) % 256, start := some t, phase := some .journal
    lastTimedOut := x.lastTimedOut }

/-- TENDER_START (R94). One that finds a session not IDLE is discarded (notes/assumptions/22.md). -/
def State.tenderStart (s : State) (d : Drop) (t : TenderStart) : State :=
  if (s.session d).state = .idle then
    let x := (s.session d).started t
    ((s.setSession d x).send [.journalGrantRequest d x.reference]).pushTender d
  else s

def execTenderStart (d : Drop) (t : TenderStart) (s : State) : Result :=
  .next ((s.accept (.tenderStart d t)).tenderStart d t)

/-- The phase a grant answers. -/
def grantPhase : Grant → Phase
  | .journal _ => .journal
  | .voucher _ _ => .voucher
  | .print _ => .print

/-- Whether an answer matches the drop's session: RESERVING, with its reference and phase (R95). -/
def State.answerMatches (s : State) (d : Drop) (ref : Nat) (p : Phase) : Bool :=
  (s.session d).state == .reserving && (s.session d).reference == ref && (s.session d).phase == some p

/-- The return of a stray grant (R95). -/
def grantReturned (d : Drop) (ref : Nat) : Grant → Instr
  | .journal sale => .journalReturn sale
  | .voucher first count => .voucherReturn first count
  | .print _ => .printReturn d ref

/-- The session with a grant recorded. -/
def Session.record (x : Session) : Grant → Session
  | .journal sale => { x with journalGrant := some sale }
  | .voucher first count => { x with voucherGrant := some (first, count) }
  | .print count => { x with printGrant := some count }

/-- The seat and snack line counts a session holds. -/
def Session.seats (x : Session) : Nat :=
  match x.start with
  | some t => t.seats
  | none => 0
def Session.snacks (x : Session) : Nat :=
  match x.start with
  | some t => t.snacks
  | none => 0

/-- The PRINT phase begins (R95). -/
def State.askPrint (s : State) (d : Drop) : State :=
  (s.setSession d { s.session d with phase := some .print }).send
    [.printGrantRequest d (s.session d).reference ((s.session d).seats + 1)]

/-- The VOUCHER phase begins (R95). -/
def State.askVoucher (s : State) (d : Drop) : State :=
  (s.setSession d { s.session d with phase := some .voucher }).send
    [.voucherGrantRequest d (s.session d).reference (s.session d).snacks]

/-- The first voucher serial that COMMIT carries, when there are snack lines (R97, R106). -/
def Session.firstVoucher (x : Session) : Option Nat := if x.snacks = 0 then none else x.voucherGrant.map (·.1)

/-- The COMMIT of a session (R97, R106). -/
def Session.commitOrder (x : Session) (p : Payment) : CommitOrder :=
  { serial := x.serial, sale := x.journalGrant.getD 0, payment := p, firstVoucher := x.firstVoucher }

/-- A session with nothing to pay commits at once (R97). Like every reply to a TENDER, this one carries the basket as it stands
(R28, R36; notes/assumptions/39.md). -/
def State.commitZero (s : State) (d : Drop) : State :=
  let x := { s.session d with state := .committing, phase := none }
  (((s.setSession d x).send [.commit d (x.commitOrder .none)]).basketReply d .ok (.tender .committing none none)).pushTender d

/-- The attempt number at entry to CARD_WAIT (R97). -/
def Session.nextAttempt (x : Session) : Nat :=
  match x.start with
  | some t => t.attempts + 1
  | none => 1

/-- Entry to CARD_WAIT (R97). -/
def State.enterCardWait (s : State) (d : Drop) : State :=
  let x := { s.session d with state := .cardWait, phase := none, attempt := some (s.session d).nextAttempt
                              cardWait := some s.hlc.cardWait }
  let t := ((s.setSession d x).send [.attempt d x.serial]).setReader d { s.reader d with spent := false }
  let u := ((t.basketReply d .ok (.tender .cardWait x.attempt (some x.frozen))).pushTender d).powerTest d
  u.pushSlotAfter d (s.reader d).state none

/-- The protocol ends with all its grants held (R97). -/
def State.allGranted (s : State) (d : Drop) : State :=
  if (s.session d).frozen = 0 then s.commitZero d else s.enterCardWait d

/-- A matching grant is recorded and the next phase begins, or the protocol ends (R95, R97). -/
def State.granted (s : State) (d : Drop) (g : Grant) : State :=
  let t := s.setSession d ((s.session d).record g)
  match g with
  | .journal _ => if (s.session d).snacks = 0 then t.askPrint d else t.askVoucher d
  | .voucher _ _ => t.askPrint d
  | .print _ => t.allGranted d

/-- RESERVATION_GRANT: a stray grant is returned at once (R95). -/
def execReservationGrant (d : Drop) (ref : Nat) (g : Grant) (s : State) : Result :=
  let t := s.accept (.reservationGrant d ref g)
  .next (if t.answerMatches d ref (grantPhase g) then t.granted d g else t.send [grantReturned d ref g])

/-- RESERVATION_REFUSAL: a matching refusal ends the protocol, a stray one is discarded (R95, R96). -/
def execReservationRefusal (d : Drop) (ref : Nat) (phase : Phase) (code : Code) (s : State) : Result :=
  let t := s.accept (.reservationRefusal d ref phase code)
  (if t.answerMatches d ref phase then
    (t.basketReply d code .none).endSession d (.refused code) (t.allReturns d) (t.unfreezeOrder d (.refused code))
  else t).done

/-! ## Countdowns, CANCEL and delivery (R101 to R104, R108) -/

/-- CARD_WAIT_TIMEOUT (R102). -/
def State.cardWaitTimeout (s : State) (d : Drop) : State :=
  if (s.session d).state = .cardWait ∧ (s.session d).cardWait = some 0 then
    s.endSession d .cardTimeout (s.allReturns d) (s.afterAttempt d .cardTimeout)
  else s

def execCardWaitTimeout (d : Drop) (s : State) : Result := ((s.accept (.cardWaitTimeout d)).cardWaitTimeout d).done

/-- A session ends with its journal grant consumed by a timeout void order (R108, R110). -/
def State.endVoid (s : State) (d : Drop) (o : TenderOutcome) (order : List Instr) : State :=
  (s.keepTimedOut d).endSession d o (s.voidOrder d ++ (s.session d).otherReturns d) order

/-- AUTH_TIMEOUT (R108). -/
def State.authTimeout (s : State) (d : Drop) : State :=
  if (s.session d).state = .authPending ∧ (s.session d).authWait = some 0 then
    s.endVoid d .authTimeout [.expire d (s.session d).serial]
  else s

def execAuthTimeout (d : Drop) (s : State) : Result := ((s.accept (.authTimeout d)).authTimeout d).done

/-- The session ends as cancelled (R103, R104). -/
def State.cancelSession (s : State) (d : Drop) : State :=
  s.endSession d .cancelled (s.allReturns d) (s.unfreezeOrder d .cancelled)

/-- CANCEL past the drop, body and part-state checks (R103). In RESERVING, which the KLC keeps a CANCEL from (R94), the code is
free (notes/assumptions/39.md). -/
def State.cancel (s : State) (d : Drop) (serial : Nat) : State :=
  if (s.session d).state = .idle then s.cancelReply d .noTender .none
  else if (s.session d).serial ≠ serial then s.cancelReply d .staleBasket .none
  else
    match (s.session d).state with
    | .cardWait => (s.cancelReply d .ok .none).cancelSession d
    | .cardRead => (s.cancelReply d .ok .none).cancelSession d
    | .idle => s.cancelReply d .noTender .none
    | .reserving => s.cancelReply d Config.cancelReservingCode .none
    | .authPending => s.cancelReply d .tooLate .none
    | .committing => s.cancelReply d .tooLate .none

/-- CANCEL (R103, R197). -/
def execCancel (d : Drop) (serial : Body Nat) (s : State) : Result :=
  let t := s.accept (.cancel d serial)
  (match serial with
  | none => t.replyDrop d (bareReply .badValue)
  | some n =>
    if t.isKiosk d = false then t.replyDrop d (bareReply .wrongDrop)
    else if t.hlc.partState ≠ PartState.ready then t.replyDrop d (bareReply (partStateCode t.hlc.partState))
    else t.cancel d n).done

/-- READER_OFF_DELIVERED (R101). -/
def State.offDelivered (s : State) (d : Drop) : State :=
  if (s.session d).state = .cardRead then
    ((s.setSession d { s.session d with state := .authPending, authWait := some s.hlc.authTimeout }).raise
      (.auth d)).pushTender d
  else s

def execReaderOffDelivered (d : Drop) (s : State) : Result :=
  ((s.accept (.readerOffDelivered d)).offDelivered d).done

/-- The session of a lost kiosk drop (R104). -/
def State.loseSession (s : State) (d : Drop) : State :=
  match (s.session d).state with
  | .reserving => (s.basketReply d .cancelled .none).cancelSession d
  | .cardWait => s.cancelSession d
  | .cardRead => s.cancelSession d
  | .idle => s
  | .authPending => s
  | .committing => s

/-- DROP_OFFLINE_TDU (R92, R104). -/
def execDropOfflineTdu (d : Drop) (s : State) : Result :=
  let t := s.accept (.dropOfflineTdu d)
  (if t.isKiosk d then (t.loseSession d).loseSlot d else t).done

/-! ## The host's result (R105 to R107) -/

/-- Whether the fields of an AUTH_RESULT are in range (R105 check 1). -/
def authFieldsOk (r : AuthResultReq) : Bool :=
  1 ≤ r.sale && r.sale ≤ 4294967295 && (r.outcome == 1 || r.outcome == 2) && r.amount ≤ 1199992
    && r.approval.length == 6 && r.approval.all isTextChar

/-- The drop whose session in AUTH_PENDING holds a sale number (R105 check 2). -/
def State.pendingSale (s : State) (sale : Nat) : Option Drop :=
  (List.finRange 16).find? fun d =>
    (s.session d).state == .authPending && (s.session d).journalGrant == some sale

/-- Whether a sale number is the last timed-out one of any drop (R105). -/
def State.timedOut (s : State) (sale : Nat) : Bool :=
  (List.finRange 16).any fun d => (s.session d).lastTimedOut == sale

/-- The payment of an approved sale (R106). -/
def Session.payment (x : Session) (approval : Text) : Payment :=
  match x.token with
  | some t => .card approval t.scheme
  | none => .card approval 0

/-- APPROVED for the frozen amount (R106). -/
def State.approve (s : State) (d : Drop) (approval : Text) : State :=
  let x := s.session d
  ((s.setSession d { x with state := .committing, token := none, authWait := none }).send
    [.commit d (x.commitOrder (x.payment approval))]).pushTender d

/-- A decline or a mismatch (R107). -/
def State.decline (s : State) (d : Drop) (o : TenderOutcome) : State :=
  s.endSession d o (s.allReturns d) (s.afterAttempt d o)

/-- A matched result (R106, R107). -/
def State.matchedResult (s : State) (h : HostTag) (d : Drop) (r : AuthResultReq) : State :=
  if r.outcome = 2 then (s.decline d .declined).replyHost h .ok .none
  else if r.amount = (s.session d).frozen then (s.approve d r.approval).replyHost h .ok .none
  else (s.decline d .mismatch).replyHost h .mismatch .none

/-- AUTH_RESULT (R105). -/
def State.authResult (h : HostTag) (r : AuthResultReq) (s : State) : State :=
  if authFieldsOk r then
    match s.pendingSale r.sale with
    | some d => s.matchedResult h d r
    | none => if s.timedOut r.sale then s.replyHost h .late .none else s.replyHost h .unknownTender .none
  else s.replyHost h .badValue .none

def execAuthResult (h : HostTag) (req : Body AuthResultReq) (s : State) : Result :=
  (s.accept (.authResult h req)).serve h readyOnly req (State.authResult h)

/-! ## Confirmation, release and reset (R109 to R111) -/

/-- COMMIT_CONFIRMATION (R109). -/
def State.confirm (s : State) (d : Drop) (serial : Nat) : State :=
  if (s.session d).state = .committing ∧ (s.session d).serial = serial then s.idleSession d .sold else s

def execCommitConfirmation (d : Drop) (serial : Nat) (s : State) : Result :=
  .next ((s.accept (.commitConfirmation d serial)).confirm d serial)

/-- RELEASE (R110). -/
def State.release (s : State) (d : Drop) (serial : Nat) : State :=
  if (s.session d).state ≠ .idle ∧ (s.session d).serial = serial then
    match (s.session d).state with
    | .authPending => s.endVoid d .cancelled []
    | .committing => s.endVoid d .cancelled []
    | .reserving => s.endSession d .cancelled (s.allReturns d) []
    | .cardWait => s.endSession d .cancelled (s.allReturns d) []
    | .cardRead => s.endSession d .cancelled (s.allReturns d) []
    | .idle => s
  else s

def execRelease (d : Drop) (serial : Nat) (s : State) : Result := ((s.accept (.release d serial)).release d serial).done

/-- The session at DROP_RESET, when the TDU accepts it (R110). -/
def State.resetSession (s : State) (d : Drop) : State :=
  if (s.session d).state = .idle then s else (s.send (s.allReturns d)).idleSession d .cancelled

/-- Whether the TDU refuses a DROP_RESET (R110). -/
def State.resetRefused (s : State) (d : Drop) : Bool :=
  match (s.session d).state with
  | .authPending => true
  | .committing => true
  | _ => false

/-- DROP_RESET at the TDU (R110). -/
def State.resetTender (s : State) (d : Drop) : State := (s.resetSession d).resetSlot d

/-- DROP_KIND_CHANGE_TDU: a drop that leaves KIOSK has its slot made EMPTY as at a reset; one that becomes KIOSK starts with its
slot EMPTY and its session IDLE (R111). -/
def execDropKindChangeTdu (d : Drop) (kind : DropKind) (s : State) : Result :=
  let t := (s.accept (.dropKindChangeTdu d kind)).resetSlot d
  .next (if kind = .kiosk then t.setSession d (t.session d).ended else t)

end Sys2Proof.Machine
end

