-- ==== Sys2Proof/Machine/Journal.lean ====
section
/-! DEFINITION. The Journal Unit: the sale journal, its reservations, the sale counter and the counter store controller
(06_sales_commit_journal_and_counters, R112 to R130). -/

namespace Sys2Proof.Machine

/-! ## The counter store controller (R122 to R126) -/

/-- The marks a write carries: each counter plus 256, capped (R124). -/
def marksAhead (sale voucher : Nat) : Marks :=
  { sale := min (sale + 256) 4294967296, voucher := min (voucher + 256) 100000000 }

/-- The marks of a write that is needed now: a counter is within 64 of its written mark and the marks would change (R124). -/
def Jnu.need (j : Jnu) : Option Marks :=
  match j.store.mode, j.saleCounter, j.store.voucherCounter with
  | .absent, _, _ => none
  | _, some a, some b =>
    match j.store.written with
    | none => some (marksAhead a b)
    | some w => if (w.sale - a ≤ 64 ∨ w.voucher - b ≤ 64) ∧ marksAhead a b ≠ w then some (marksAhead a b) else none
  | _, _, _ => none

/-- A write begins with these marks, and its tries put all ten bytes of the record on the bus (R124, R200). -/
def Store.beginWrite (st : Store) (m : Marks) : Store :=
  { st with op := .writing, writing := some m, tries := some 1, bus := some (.write 0 (storeRecordBytes m)) }

/-- The need test: a write begins when the controller is IDLE, and pending need is set while one runs (R124). -/
def Jnu.needTest (j : Jnu) : Jnu :=
  match j.need, j.store.op with
  | some m, .idle => { j with store := j.store.beginWrite m }
  | some _, .writing => { j with store := { j.store with pendingNeed := true } }
  | some _, .reading => j
  | some _, .retryWait => j
  | none, _ => j

/-- Whether the controller forbids a sale number (R126). -/
def Jnu.forbids (j : Jnu) (n : Nat) : Bool :=
  match j.store.mode with
  | .guarding =>
    match j.store.written with
    | some w => !(n < w.sale)
    | none => true
  | .seeding => false
  | .absent => false

/-- The part enters a state at the end of the counter load (R188). -/
def State.enterPart (s : State) (p : PartState) : State := s.setHlc { s.hlc with partState := p }

/-- The counter load ends with counters, when it is still going on (R123, R188). -/
def State.endLoad (s : State) : State := if s.hlc.partState = .starting then s.enterPart .ready else s

/-- The start-up read succeeded (R123). A read that leaves no write to make ends the load (notes/assumptions/20.md). -/
def State.storeRead (s : State) (m : Marks) : State :=
  let st := { s.jnu.store with op := .idle, tries := none, written := some m, voucherCounter := some m.voucher, bus := none }
  let j := Jnu.needTest { s.jnu with saleCounter := some m.sale, store := st }
  let t := (s.setJnu j).send [.voucherCounterStart m.voucher m.voucher]
  if j.store.op = .idle then t.endLoad else t

/-- The start-up read failed three times (R123). -/
def State.storeReadFailed (s : State) : State :=
  ((s.setJnu { s.jnu with
      store := { s.jnu.store with mode := .seeding, op := .idle, tries := none, written := none
                                  failure := some .readFailed, bus := none } }).raise .store).enterPart .needCounters

/-- A try failed with tries left: the same operation is tried again, with the same bytes on the bus (R123, R125, R200). -/
def State.storeAgain (s : State) : State :=
  s.setJnu { s.jnu with store := { s.jnu.store with tries := s.jnu.store.tries.map (· + 1) } }

/-- Whether the try under way is the last (R123, R125). -/
def Store.lastTry (st : Store) : Bool :=
  match st.tries with
  | some n => 3 ≤ n
  | none => true

/-- STORE_READ_TRY_END: the bytes the store gave, or nothing (R123). -/
def State.storeReadTryEnd (s : State) (answer : Option (List Byte)) : State :=
  if s.jnu.store.op = .reading then
    match answer.bind readMarks with
    | some m => s.storeRead m
    | none => if s.jnu.store.lastTry then s.storeReadFailed else s.storeAgain
  else s

def execStoreReadTryEnd (answer : Option (List Byte)) (s : State) : Result := (s.storeReadTryEnd answer).done

/-- A write was acknowledged whole (R125). -/
def State.storeWritten (s : State) (m : Marks) : State :=
  let st := { s.jnu.store with op := .idle, written := some m, writing := none, tries := none, pendingNeed := false
                               bus := none }
  let j := { s.jnu with store := st }
  ((s.setJnu (if s.jnu.store.pendingNeed then j.needTest else j)).send [.voucherMarkUpdate m.voucher]).endLoad

/-- A write failed three times (R125). -/
def State.storeWriteFailed (s : State) : State :=
  ((s.setJnu { s.jnu with
      store := { s.jnu.store with op := .retryWait, writing := none, tries := none, pendingNeed := false
                                  failure := some .writeFailed, bus := none } }).raise .store).endLoad

/-- STORE_WRITE_TRY_END: how many of the record's ten bytes the store acknowledged (R125, R200). -/
def State.storeWriteTryEnd (s : State) (acknowledged : Nat) : State :=
  match s.jnu.store.op, s.jnu.store.writing with
  | .writing, some m =>
    if 10 ≤ acknowledged then s.storeWritten m
    else if s.jnu.store.lastTry then s.storeWriteFailed
    else s.storeAgain
  | _, _ => s

def execStoreWriteTryEnd (acknowledged : Nat) (s : State) : Result := (s.storeWriteTryEnd acknowledged).done

/-- STORE_RETRY: at the next second in RETRY_WAIT (R125). -/
def Jnu.retry (j : Jnu) : Jnu :=
  if j.store.op = .retryWait then
    match j.need with
    | some m => { j with store := j.store.beginWrite m }
    | none => { j with store := { j.store with op := .idle } }
  else j

def execStoreRetry (s : State) : Result :=
  let t := s.accept .storeRetry
  .next (t.setJnu t.jnu.retry)

/-- VOUCHER_COUNTER_REPORT (R128). -/
def Jnu.report (j : Jnu) (counter : Nat) : Jnu :=
  Jnu.needTest { j with store := { j.store with voucherCounter := some counter } }

def execVoucherCounterReport (counter : Nat) (s : State) : Result :=
  let t := s.accept (.voucherCounterReport counter)
  .next (t.setJnu (t.jnu.report counter))

/-! ## Grants and returns (R114, R115) -/

/-- The records and reservations of the journal together (R114). -/
def Jnu.places (j : Jnu) : Nat := j.journal.length + j.reservations.length

/-- The JNU with a sale number granted (R114). -/
def Jnu.grant (j : Jnu) (n : Nat) : Jnu :=
  Jnu.needTest { j with reservations := j.reservations ++ [n], saleCounter := some (n + 1) }

/-- JOURNAL_GRANT_REQUEST (R114). One that finds no counter value is discarded (notes/assumptions/19.md). -/
def State.journalGrant (s : State) (d : Drop) (ref : Nat) : State :=
  if 64 ≤ s.jnu.places then s.send [.reservationRefusal d ref .journal .journalFull]
  else
    match s.jnu.saleCounter with
    | none => s
    | some n =>
      if 4294967296 ≤ n then s.send [.reservationRefusal d ref .journal .counterEnd]
      else if s.jnu.forbids n then s.send [.reservationRefusal d ref .journal .counterLimit]
      else (s.setJnu (s.jnu.grant n)).send [.reservationGrant d ref (.journal n)]

def execJournalGrantRequest (d : Drop) (ref : Nat) (s : State) : Result :=
  .next ((s.accept (.journalGrantRequest d ref)).journalGrant d ref)

/-- JOURNAL_RETURN: the reservation leaves the list; the number is a gap (R115). -/
def execJournalReturn (sale : Nat) (s : State) : Result :=
  let t := s.accept (.journalReturn sale)
  .next (t.setJnu { t.jnu with reservations := t.jnu.reservations.erase sale })

/-! ## Records (R116 to R118) -/

/-- Whether the journal holds a record of a sale number (R118). -/
def Jnu.holds (j : Jnu) (sale : Nat) : Bool := j.journal.any fun r => recordSale r == sale

/-- The JNU takes a record: discarded when its number is in the journal; else its reservation is consumed, or it is appended where
there is room; else discarded (R116 to R118). -/
def State.takeRecord (s : State) (r : JournalRecord) : State :=
  if s.jnu.holds (recordSale r) then s
  else if s.jnu.reservations.contains (recordSale r) ∨ s.jnu.places < 64 then
    (s.setJnu { s.jnu with journal := s.jnu.journal ++ [r]
                           reservations := s.jnu.reservations.erase (recordSale r) }).raise .journal
  else s

def execSaleRecord (r : SaleRecord) (s : State) : Result := ((s.accept (.saleRecord r)).takeRecord (.sale r)).done

def execTimeoutVoidOrder (v : TimeoutVoid) (s : State) : Result :=
  ((s.accept (.timeoutVoidOrder v)).takeRecord (.timeoutVoid v)).done

/-! ## The host's requests (R120, R129) -/

/-- JOURNAL_READ (R120). -/
def State.journalRead (h : HostTag) (_ : Unit) (s : State) : State :=
  match s.jnu.journal with
  | [] => s.replyHost h .empty .none
  | r :: _ => s.replyHost h .ok (.journal r s.jnu.journal.length s.jnu.reservations.length)

def execJournalRead (h : HostTag) (req : Body Unit) (s : State) : Result :=
  (s.accept (.journalRead h req)).serve h readyOnly req (State.journalRead h)

/-- JOURNAL is raised again while records remain (R120). -/
def State.raiseIfRecords (s : State) : State := if s.jnu.journal.isEmpty then s else s.raise .journal

/-- JOURNAL_TAKE (R120). -/
def State.journalTake (h : HostTag) (sale : Nat) (s : State) : State :=
  match s.jnu.journal with
  | [] => s.replyHost h .empty .none
  | r :: rest =>
    if recordSale r = sale then
      (s.setJnu { s.jnu with journal := rest }).raiseIfRecords.replyHost h .ok (.left rest.length)
    else s.replyHost h .notOldest (.oldest (recordSale r))

def execJournalTake (h : HostTag) (sale : Body Nat) (s : State) : Result :=
  (s.accept (.journalTake h sale)).serve h readyOnly sale (State.journalTake h)

/-- The JNU with the counters of COUNTER_BASE (R129). -/
def Jnu.base (j : Jnu) (r : CounterBaseReq) : Jnu :=
  Jnu.needTest { j with saleCounter := some r.sale, store := { j.store with voucherCounter := some r.voucher } }

/-- COUNTER_BASE: ranges first, then the part state (R129; notes/assumptions/21.md). -/
def State.counterBase (h : HostTag) (r : CounterBaseReq) (s : State) : State :=
  if 1 ≤ r.sale ∧ r.sale ≤ 4294967295 ∧ 1 ≤ r.voucher ∧ r.voucher ≤ 99999999 then
    if s.hlc.partState = .needCounters then
      ((((s.setJnu (s.jnu.base r)).send [.voucherBaseSet r.voucher]).enterPart .ready)).replyHost h .ok .none
    else s.replyHost h .wrongState .none
  else s.replyHost h .badValue .none

def execCounterBase (h : HostTag) (req : Body CounterBaseReq) (s : State) : Result :=
  (s.accept (.counterBase h req)).serve h readyOrNeed req (State.counterBase h)

end Sys2Proof.Machine
end

