-- ==== Sys2Proof/Machine/Vouchers.lean ====
section
/-! DEFINITION. The Voucher Unit: table, reservations, serial counter, redemption and sweep (07_snack_vouchers, R131 to R147). -/

namespace Sys2Proof.Machine

/-! ## Grants and returns (R133 to R135) -/

/-- The used and reserved entries together (R133). -/
def Vcu.places (v : Vcu) : Nat := v.used.length + v.reservedCount

/-- Whether the guard mark refuses a run's last serial (R134). -/
def Vcu.guarded (v : Vcu) (last : Nat) : Bool :=
  v.guardOn &&
    match v.guardMark with
    | some m => !(last < m)
    | none => true

/-- VOUCHER_GRANT_REQUEST (R134). One that finds no counter value is discarded (notes/assumptions/19.md). -/
def State.voucherGrant (s : State) (d : Drop) (ref count : Nat) : State :=
  if 1024 < s.vcu.places + count then s.send [.reservationRefusal d ref .voucher .vouchersFull]
  else
    match s.vcu.counter with
    | none => s
    | some n =>
      if 99999999 < n + count - 1 then s.send [.reservationRefusal d ref .voucher .counterEnd]
      else if s.vcu.guarded (n + count - 1) then s.send [.reservationRefusal d ref .voucher .counterLimit]
      else
        (s.setVcu { s.vcu with counter := some (n + count)
                               reservations := s.vcu.reservations ++ [{ drop := d, first := n, count := count }] }).send
          [.reservationGrant d ref (.voucher n count), .voucherCounterReport (n + count)]

def execVoucherGrantRequest (d : Drop) (ref count : Nat) (s : State) : Result :=
  .next ((s.accept (.voucherGrantRequest d ref count)).voucherGrant d ref count)

/-- The VCU without the reservation of a first serial (R135, R136). -/
def Vcu.unreserve (v : Vcu) (first : Nat) : Vcu := { v with reservations := v.reservations.eraseP fun r => r.first == first }

/-- VOUCHER_RETURN (R135). -/
def execVoucherReturn (first count : Nat) (s : State) : Result :=
  let t := s.accept (.voucherReturn first count)
  .next (t.setVcu (t.vcu.unreserve first))

/-! ## The controller's orders (R132) -/

def execVoucherCounterStart (counter mark : Nat) (s : State) : Result :=
  let t := s.accept (.voucherCounterStart counter mark)
  .next (t.setVcu { t.vcu with counter := some counter, guardMark := some mark, guardOn := true })

def execVoucherMarkUpdate (mark : Nat) (s : State) : Result :=
  let t := s.accept (.voucherMarkUpdate mark)
  .next (t.setVcu { t.vcu with guardMark := some mark })

def execVoucherBaseSet (base : Nat) (s : State) : Result :=
  let t := s.accept (.voucherBaseSet base)
  .next (t.setVcu { t.vcu with counter := some base, guardMark := none, guardOn := false })

/-! ## Issue (R136, R137) -/

/-- The entry that holds a serial (R131). -/
def Vcu.find (v : Vcu) (serial : Nat) : Option VoucherEntry := v.used.find? fun e => e.serial == serial

/-- The last site time there is. -/
def lastTime : SiteTime := { day := 65535, second := 86399 }

/-- The valid-until of a line of an issue order (R137). -/
def validUntil (o : IssueOrder) (minutes : Nat) : SiteTime :=
  let start := match o.screening with
    | some sc => siteSeconds (minuteStart sc.day sc.minute)
    | none => siteSeconds o.time
  if siteSeconds lastTime < start + minutes * 60 then lastTime else siteTimeOf (start + minutes * 60)

/-- The entry that a line of an issue order makes (R136). -/
def issuedEntry (o : IssueOrder) (l : IssueLine) : VoucherEntry :=
  { serial := l.serial, item := l.item, amount := l.amount, sale := o.sale
    screening := o.screening.map ScreeningStart.number
    validUntil := validUntil o l.minutes, state := .issued }

/-- One line of an issue order is issued, unless its serial is in use or no entry is free (R136, R137; notes/assumptions/25.md). -/
def Vcu.issueLine (o : IssueOrder) (v : Vcu) (l : IssueLine) : Vcu :=
  if (v.find l.serial).isSome ∨ 1024 ≤ v.places then v else { v with used := v.used ++ [issuedEntry o l] }

/-- The first serial of an issue order. -/
def firstSerial (o : IssueOrder) : Nat :=
  match o.lines with
  | l :: _ => l.serial
  | [] => 0

/-- ISSUE_ORDER (R136, R137). -/
def Vcu.issue (v : Vcu) (o : IssueOrder) : Vcu := o.lines.foldl (Vcu.issueLine o) (v.unreserve (firstSerial o))

def execIssueOrder (o : IssueOrder) (s : State) : Result :=
  let t := s.accept (.issueOrder o)
  .next (t.setVcu (t.vcu.issue o))

/-! ## Redemption (R138 to R142) -/

/-- Whether a character is a digit. -/
def isDigitChar (c : Nat) : Bool := 48 ≤ c && c ≤ 57

/-- The number that digit characters spell. -/
def digitsValue (t : Text) : Nat := t.foldl (fun acc c => acc * 10 + (c - 48)) 0

/-- Whether a presented code is well-formed (R138). -/
def wellFormedCode (t : Text) : Bool :=
  t.length == 10 && t.all isDigitChar && digitsValue (t.drop 8) == checkDigits (digitsValue (t.take 8))

/-- The judgement of a code: a failure with what its reply adds, or the servable entry (R140). -/
inductive Judgement where
  | failed (code : Code) (detail : VoucherDetail)
  | servable (e : VoucherEntry)
  deriving DecidableEq, Repr

/-- The judgement of a well-formed code's entry (R140 steps 3 to 5). -/
def judgeEntry (now : SiteTime) (e : VoucherEntry) : Judgement :=
  match e.state with
  | .voided => .failed .void (.entry e.item e.screening)
  | .redeemed time counter => .failed .already (.already e.item e.screening time counter)
  | .issued =>
    if siteSeconds e.validUntil < siteSeconds now then .failed .expired (.expired e.item e.screening e.validUntil)
    else .servable e

/-- The judgement of a presented code (R140). -/
def Vcu.judge (v : Vcu) (now : SiteTime) (t : Text) : Judgement :=
  if wellFormedCode t then
    match v.find (digitsValue (t.take 8)) with
    | none => .failed .unknown .none
    | some e => judgeEntry now e
  else .failed .badCode .none

/-- A voucher reply carries the code as presented (R140). -/
def State.voucherReply (s : State) (d : Drop) (c : Code) (t : Text) (detail : VoucherDetail) : State :=
  s.replyDrop d { code := c, serial := none, basket := none, detail := .voucher t detail }

/-- The taking of a REDEEM or CHECK (R139, R197). -/
def State.counterRequest (s : State) (d : Drop) (code : Body Text) (act : Text → State → State) : State :=
  match code with
  | none => s.replyDrop d (bareReply .badValue)
  | some t =>
    if (s.dropRec d).kind ≠ .counter then s.replyDrop d (bareReply .wrongDrop)
    else if s.hlc.partState ≠ .ready then s.replyDrop d (bareReply (partStateCode s.hlc.partState))
    else act t s

/-- The VCU with an entry's state changed (R141, R144). -/
def Vcu.setState (v : Vcu) (serial : Nat) (st : VoucherState) : Vcu :=
  { v with used := v.used.map fun e => if e.serial == serial then { e with state := st } else e }

/-- REDEEM past R139 (R141). -/
def State.redeem (d : Drop) (t : Text) (s : State) : State :=
  match s.vcu.judge s.hlc.clock t with
  | .failed c detail => s.voucherReply d c t detail
  | .servable e =>
    (s.setVcu (s.vcu.setState e.serial (.redeemed s.hlc.clock d))).voucherReply d .redeemed t
      (.served e.item e.screening e.serial e.sale)

def execRedeem (d : Drop) (code : Body Text) (s : State) : Result :=
  .next ((s.accept (.redeem d code)).counterRequest d code (State.redeem d))

/-- CHECK past R139 (R142). -/
def State.check (d : Drop) (t : Text) (s : State) : State :=
  match s.vcu.judge s.hlc.clock t with
  | .failed c detail => s.voucherReply d c t detail
  | .servable e => s.voucherReply d .valid t (.servable e.item e.screening e.serial e.sale e.validUntil)

def execCheck (d : Drop) (code : Body Text) (s : State) : Result :=
  .next ((s.accept (.check d code)).counterRequest d code (State.check d))

/-! ## The host's operations (R144, R145) and the sweep (R146) -/

/-- Whether a serial is in range (R144). -/
def serialOk (n : Nat) : Bool := 1 ≤ n && n ≤ 99999999

/-- VOUCHER_VOID (R144). -/
def State.voucherVoid (h : HostTag) (serial : Nat) (s : State) : State :=
  if serialOk serial then
    match s.vcu.find serial with
    | none => s.replyHost h .unknown .none
    | some e =>
      match e.state with
      | .issued =>
        (s.setVcu (s.vcu.setState serial .voided)).replyHost h .ok (.voucher { e with state := .voided })
      | .redeemed _ _ => s.replyHost h .notIssued (.voucher e)
      | .voided => s.replyHost h .notIssued (.voucher e)
  else s.replyHost h .badValue .none

def execVoucherVoid (h : HostTag) (serial : Body Nat) (s : State) : Result :=
  (s.accept (.voucherVoid h serial)).serve h readyOnly serial (State.voucherVoid h)

/-- The reservation whose run contains a serial (R145). -/
def Vcu.reservationOf (v : Vcu) (serial : Nat) : Option VoucherReservation :=
  v.reservations.find? fun r => r.first ≤ serial && serial < r.first + r.count

/-- VOUCHER_QUERY (R145). -/
def State.voucherQuery (h : HostTag) (serial : Nat) (s : State) : State :=
  if serialOk serial then
    match s.vcu.find serial, s.vcu.reservationOf serial with
    | some e, _ => s.replyHost h .ok (.voucher e)
    | none, some r => s.replyHost h .reserved (.reservation r)
    | none, none => s.replyHost h .unknown .none
  else s.replyHost h .badValue .none

def execVoucherQuery (h : HostTag) (serial : Body Nat) (s : State) : Result :=
  (s.accept (.voucherQuery h serial)).serve h readyOnly serial (State.voucherQuery h)

/-- Whether the sweep keeps an entry (R146). -/
def keptAtSweep (now : SiteTime) (retention : Nat) (e : VoucherEntry) : Bool :=
  siteSeconds now - siteSeconds e.validUntil ≤ retention * 60

/-- The sweep (R146). -/
def Vcu.sweep (v : Vcu) (now : SiteTime) : Vcu := { v with used := v.used.filter (keptAtSweep now v.retention) }

end Sys2Proof.Machine
end

