-- ==== Sys2Proof/Machine/Printing.lean ====
section
/-! DEFINITION. The Print Unit: queues, reservations, printers and the host's operations on queues (08_ticket_printing, R148 to
R164). -/

namespace Sys2Proof.Machine

/-! ## Grants and returns (R150, R151) -/

/-- The items and reserved slots of a drop's queue together (R149). -/
def State.queuePlaces (s : State) (d : Drop) : Nat := (s.queue d).length + s.pru.reservedFor d

/-- Whether a printer state refuses a grant when print-later is off (R150). -/
def PrinterState.refuses : PrinterState → Bool
  | .paused => true
  | .fault => true
  | .offline => true
  | .ready => false
  | .busy => false

/-- PRINT_GRANT_REQUEST (R150). -/
def State.printGrant (s : State) (d : Drop) (ref count : Nat) : State :=
  if s.pru.printLater = false ∧ (s.printer d).state.refuses = true then
    s.send [.reservationRefusal d ref .print .noPrinter]
  else if 16 < s.queuePlaces d + count then s.send [.reservationRefusal d ref .print .printFull]
  else
    (s.setPru { s.pru with
        reservations := s.pru.reservations ++ [{ drop := d, reference := ref, count := count }] }).send
      [.reservationGrant d ref (.print count)]

def execPrintGrantRequest (d : Drop) (ref count : Nat) (s : State) : Result :=
  .next ((s.accept (.printGrantRequest d ref count)).printGrant d ref count)

/-- PRINT_RETURN (R151). -/
def execPrintReturn (d : Drop) (ref : Nat) (s : State) : Result :=
  let t := s.accept (.printReturn d ref)
  .next (t.setPru { t.pru with reservations := t.pru.reservations.eraseP fun r => r.drop == d && r.reference == ref })

/-! ## Feeding and the backlog (R154, R162) -/

/-- The feeding test (R154). -/
def State.feed (s : State) (d : Drop) : State :=
  match (s.printer d).state, s.queue d with
  | .ready, i :: _ =>
    (s.setPrinter d { s.printer d with state := .busy, headSent := true }).place d .print (.print i)
  | _, _ => s

/-- The backlog test of a queue that held fewer items before (R162). -/
def State.backlogTest (s : State) (d : Drop) (before : Nat) : State :=
  if before < s.pru.backlog ∧ s.pru.backlog ≤ (s.queue d).length then s.raise .printer else s

/-- The list without its last member that passes a test. -/
def eraseLast {α : Type} (p : α → Bool) (l : List α) : List α := (l.reverse.eraseP p).reverse

/-- One item of a print order is appended while there is room (R152; notes/assumptions/25.md). -/
def State.appendItem (d : Drop) (s : State) (i : PrintItem) : State :=
  if s.queuePlaces d < 16 then s.setQueue d (s.queue d ++ [i]) else s

/-- The reservation granted last for a drop is consumed (R152). -/
def State.consumePrint (s : State) (d : Drop) : State :=
  s.setPru { s.pru with reservations := eraseLast (fun r => r.drop == d) s.pru.reservations }

/-- PRINT_ORDER (R152). -/
def State.printOrder (s : State) (d : Drop) (items : List PrintItem) : State :=
  ((items.foldl (State.appendItem d) (s.consumePrint d)).backlogTest d (s.queue d).length).feed d

def execPrintOrder (d : Drop) (items : List PrintItem) (s : State) : Result :=
  ((s.accept (.printOrder d items)).printOrder d items).done

/-! ## Printer reports (R155 to R158) -/

/-- A report from a drop not configured KIOSK, or of the wrong length, is discarded (R158, R197). -/
def State.printerReport {α : Type} (s : State) (d : Drop) (body : Body α) (act : α → State → State) : State :=
  match body with
  | some r => if s.isKiosk d then act r s else s
  | none => s

/-- Whether a tag is that of the head item. -/
def State.isHead (s : State) (d : Drop) (tag : PrintTag) : Bool :=
  match s.queue d with
  | i :: _ => itemTag i == tag
  | [] => false

/-- PRINTED past R158 (R155; notes/assumptions/38.md). -/
def State.printed (d : Drop) (tag : PrintTag) (s : State) : State :=
  if s.isHead d tag = true ∧ (s.printer d).headSent = true then
    let t := (s.setQueue d (s.queue d).tail).setPrinter d { s.printer d with headSent := false, retries := 0 }
    if (s.printer d).state = .busy then (t.setPrinter d { t.printer d with state := .ready }).feed d else t
  else s

def execPrinted (d : Drop) (tag : Body PrintTag) (s : State) : Result :=
  .next ((s.accept (.printed d tag)).printerReport d tag (State.printed d))

/-- FAILED past R158 (R156). A frame of the head item that still waits in PRINT at the third jam is left there (DESIGN CHOICE;
notes/assumptions/53.md). -/
def State.failed (d : Drop) (tag : PrintTag) (s : State) : State :=
  if s.isHead d tag = true ∧ (s.printer d).state = .busy then
    let p := s.printer d
    if p.retries + 1 < 3 then (s.setPrinter d { p with state := .ready, retries := p.retries + 1 }).feed d
    else (s.setPrinter d { p with state := .fault, retries := 3 }).raise .printer
  else s

def execFailed (d : Drop) (tag : Body PrintTag) (s : State) : Result :=
  ((s.accept (.failed d tag)).printerReport d tag (State.failed d)).done

/-- PAPER_LOW is recorded, and PRINTER raised when it becomes set (R157). -/
def State.recordPaper (s : State) (d : Drop) (low : Bool) : State :=
  let t := s.setPrinter d { s.printer d with paperLow := low }
  if low = true ∧ (s.printer d).paperLow = false then t.raise .printer else t

/-- A printer that reports ready from PAUSED or FAULT (R157). -/
def State.printerReady (s : State) (d : Drop) : State :=
  (s.setPrinter d { s.printer d with state := .ready, retries := 0 }).feed d

/-- The condition of a STATUS moves the printer (R157). -/
def State.movePrinter (s : State) (d : Drop) (c : PrinterCondition) : State :=
  match (s.printer d).state, c with
  | .paused, .ready => s.printerReady d
  | .fault, .ready => s.printerReady d
  | .ready, .ready => s
  | .busy, .ready => s
  | .offline, _ => s
  | .ready, _ => s.setPrinter d { s.printer d with state := .paused }
  | .busy, _ => (s.setPrinter d { s.printer d with state := .paused }).withdraw d .print
  | .paused, _ => s
  | .fault, _ => s

/-- STATUS past R158 (R157). -/
def State.printerStatus (d : Drop) (r : PrinterReport) (s : State) : State :=
  if (s.printer d).state = .offline then s else (s.recordPaper d r.paperLow).movePrinter d r.condition

def execPrinterStatus (d : Drop) (r : Body PrinterReport) (s : State) : Result :=
  ((s.accept (.printerStatus d r)).printerReport d r (State.printerStatus d)).done

/-! ## Drops lost, returned and reset (R159, R163) -/

/-- DROP_OFFLINE_PRU (R159). -/
def State.losePrinter (s : State) (d : Drop) : State :=
  let t := s.setPrinter d { s.printer d with state := .offline, paperLow := false }
  if (s.printer d).state = .busy then t.withdraw d .print else t

def execDropOfflinePru (d : Drop) (s : State) : Result :=
  let t := s.accept (.dropOfflinePru d)
  .next (if t.isKiosk d then t.losePrinter d else t)

/-- DROP_ONLINE_PRU (R159). -/
def execDropOnlinePru (d : Drop) (s : State) : Result :=
  let t := s.accept (.dropOnlinePru d)
  .next (if t.isKiosk d then t.printerReady d else t)

/-- DROP_RESET at the PRU (R163). -/
def State.resetPrinter (s : State) (d : Drop) : State :=
  (s.setPrinter d { s.printer d with state := .offline, paperLow := false, retries := 0 }).withdraw d .print

/-- DROP_KIND_CHANGE_PRU (R163; notes/assumptions/40.md). -/
def execDropKindChangePru (d : Drop) (kind : DropKind) (s : State) : Result :=
  .next ((s.accept (.dropKindChangePru d kind)).resetPrinter d)

/-! ## The host's operations (R160, R161) -/

/-- A queue loses all its items: head-sent and the retry count are cleared, and a BUSY printer becomes READY with its item
withdrawn (R160, R161). -/
def State.emptyQueue (s : State) (d : Drop) : State :=
  let p := s.printer d
  let t := s.setQueue d []
  match p.state with
  | .busy => (t.setPrinter d { p with state := .ready, headSent := false, retries := 0 }).withdraw d .print
  | .ready => t.setPrinter d { p with headSent := false, retries := 0 }
  | .paused => t.setPrinter d { p with headSent := false, retries := 0 }
  | .fault => t.setPrinter d { p with headSent := false, retries := 0 }
  | .offline => t.setPrinter d { p with headSent := false, retries := 0 }

/-- The items of one queue move to the tail of another (R160). -/
def State.moveQueue (s : State) (src dst : Drop) : State :=
  let t := s.emptyQueue src
  ((t.setQueue dst (s.queue dst ++ s.queue src)).backlogTest dst (s.queue dst).length).feed dst

/-- PRINT_REDIRECT (R160). -/
def State.printRedirect (h : HostTag) (r : PrintRedirectReq) (s : State) : State :=
  if hs : r.source < 16 then
    if ht : r.target < 16 then
      if r.source = r.target then s.replyHost h .badValue .none
      else if s.isKiosk ⟨r.source, hs⟩ = false ∨ s.isKiosk ⟨r.target, ht⟩ = false then s.replyHost h .wrongDrop .none
      else if 16 < s.queuePlaces ⟨r.target, ht⟩ + (s.queue ⟨r.source, hs⟩).length then s.replyHost h .noRoom .none
      else
        (s.moveQueue ⟨r.source, hs⟩ ⟨r.target, ht⟩).replyHost h .ok (.items (s.queue ⟨r.source, hs⟩).length)
    else s.replyHost h .badValue .none
  else s.replyHost h .badValue .none

def execPrintRedirect (h : HostTag) (req : Body PrintRedirectReq) (s : State) : Result :=
  (s.accept (.printRedirect h req)).serve h readyOnly req (State.printRedirect h)

/-- PRINT_FLUSH (R161). -/
def State.printFlush (h : HostTag) (drop : Nat) (s : State) : State :=
  if hd : drop < 16 then
    if s.isKiosk ⟨drop, hd⟩ then (s.emptyQueue ⟨drop, hd⟩).replyHost h .ok (.items (s.queue ⟨drop, hd⟩).length)
    else s.replyHost h .wrongDrop .none
  else s.replyHost h .badValue .none

def execPrintFlush (h : HostTag) (drop : Body Nat) (s : State) : Result :=
  (s.accept (.printFlush h drop)).serve h readyOnly drop (State.printFlush h)

end Sys2Proof.Machine
end

