-- ==== Sys2Proof/Machine/Operands.lean ====
section
/-! DEFINITION. How the frames that enter the part spell commands: host frames by kind and body (R180, R194, R195), drop messages
by message code and fields (R174, R197). -/

namespace Sys2Proof.Machine

/-! ## Host frames -/

/-- The body of a request that carries no field: good when empty (R195). -/
def noFields : List Byte → Body Unit
  | [] => some ()
  | _ :: _ => none

/-- The body of AUTH_RESULT: sale number in 4 bytes, outcome in 1, amount in 4, approval code in 6 (R195). -/
def authResultBody (bs : List Byte) : Body AuthResultReq :=
  if bs.length = 15 then
    some { sale := beValue (bs.take 4), outcome := beValue ((bs.drop 4).take 1), amount := beValue ((bs.drop 5).take 4)
           approval := (bs.drop 9).map (·.toNat) }
  else none

/-- The body of SET_CLOCK: a site time (R186, R192). -/
def setClockBody (bs : List Byte) : Body SiteTime := if bs.length = 5 then some (siteTimeAt bs) else none

/-! ### Bodies whose fields stand at open places (R192, R195; notes/assumptions/7.md, 8.md) -/

/-- A number of a body, high byte first (R192). -/
def numberAt (m : Config.Message) (bs : List Byte) (i : Nat) : Nat :=
  beValue ((bs.drop (Config.fieldAt m i)).take (Config.fieldWidth m i))

/-- A kind or concession of a body, in one byte (R192; notes/assumptions/50.md). -/
def codeAt (m : Config.Message) (bs : List Byte) (i : Nat) : Nat := beValue ((bs.drop (Config.fieldAt m i)).take 1)

/-- A body with no list: good when it has the length its message requires (R195, R197). -/
def fixedBody {α : Type} (m : Config.Message) (make : List Byte → α) (bs : List Byte) : Body α :=
  if bs.length = Config.fixedSize m then some (make bs) else none

/-- A body of one number. -/
def numberBody (m : Config.Message) : List Byte → Body Nat := fixedBody m fun bs => numberAt m bs 0

/-- A field that is absent where its bytes say so: EMPTY or ANY. -/
def orAbsent {α : Type} (m : Config.Message) (bs : List Byte) (i : Nat) (x : α) : Option α :=
  if Config.openField m i bs = true then some x else none

/-- LAYOUT_BEGIN (R3). -/
def layoutBeginBody : List Byte → Body LayoutBeginReq :=
  let m := Config.Message.host .layoutBegin
  fixedBody m fun bs =>
    { index := numberAt m bs 0, rowCount := numberAt m bs 1, ideal := numberAt m bs 2, centre := numberAt m bs 3 }

/-- LAYOUT_ROW: its label in two bytes, and a list of kinds of one byte each (R4, R192). -/
def layoutRowBody : List Byte → Body LayoutRowReq :=
  let m := Config.Message.host .layoutRow
  listBody (Config.fixedSize m) 1 beValue (fun bs => numberAt m bs 3) fun bs kinds =>
    { index := numberAt m bs 0, row := numberAt m bs 1, label := labelAt (bs.drop (Config.fieldAt m 2)), kinds := kinds }

/-- SCREENING_LOAD (R7). -/
def screeningLoadBody : List Byte → Body ScreeningLoadReq :=
  let m := Config.Message.host .screeningLoad
  fixedBody m fun bs =>
    { number := numberAt m bs 0, layout := numberAt m bs 1, startDay := numberAt m bs 2, startMinute := numberAt m bs 3
      lateSale := numberAt m bs 4, band := numberAt m bs 5, surcharge := numberAt m bs 6
      gapGuard := Config.openField m 7 bs }

/-- SEAT_BLOCK, SEAT_UNBLOCK or SEAT_REFUND: the screening and the listed count, then the seat addresses (R17, R192). -/
def seatListBody (r : HostRequest) : List Byte → Body SeatListReq :=
  let m := Config.Message.host r
  listBody (Config.fixedSize m) 2 seatAddrAt (fun bs => numberAt m bs 1) fun bs seats =>
    { screening := numberAt m bs 0, seats := seats }

/-- SEAT_SELL: screening, sale number and listed count, then the seat addresses (R19, R192). -/
def seatSellBody : List Byte → Body SeatSellReq :=
  let m := Config.Message.host .seatSell
  listBody (Config.fixedSize m) 2 seatAddrAt (fun bs => numberAt m bs 2) fun bs seats =>
    { screening := numberAt m bs 0, sale := numberAt m bs 1, seats := seats }

/-- SEAT_QUERY (R21). -/
def seatQueryBody : List Byte → Body SeatQueryReq :=
  let m := Config.Message.host .seatQuery
  fixedBody m fun bs => { screening := numberAt m bs 0, row := numberAt m bs 1 }

/-- TARIFF_LOAD: the band, then the 24 entries in order, EMPTY or a fare (R64). -/
def tariffLoadBody : List Byte → Body TariffReq :=
  let m := Config.Message.host .tariffLoad
  fixedBody m fun bs =>
    { band := numberAt m bs 0
      entries := Vector.ofFn fun i => orAbsent m bs (i.val + 1) (numberAt m bs (i.val + 1)) }

/-- DAYPART_LOAD: the four slots in order, EMPTY or a start minute and a factor (R65). -/
def daypartLoadBody : List Byte → Body DaypartReq :=
  let m := Config.Message.host .daypartLoad
  fixedBody m fun bs =>
    { slots := Vector.ofFn fun i =>
        orAbsent m bs (2 * i.val) { start := numberAt m bs (2 * i.val), factor := numberAt m bs (2 * i.val + 1) } }

/-- OVERLAY_SET: the slot, then EMPTY or the four match fields and the action (R66, R192). -/
def overlaySetBody : List Byte → Body OverlayReq :=
  let m := Config.Message.host .overlaySet
  fixedBody m fun bs =>
    { slot := numberAt m bs 0
      contents := orAbsent m bs 0
        { band := orAbsent m bs 1 (numberAt m bs 1), kind := orAbsent m bs 2 (codeAt m bs 2)
          concession := orAbsent m bs 3 (codeAt m bs 3), screening := orAbsent m bs 4 (numberAt m bs 4)
          action := if Config.openField m 5 bs = true then .replace (numberAt m bs 5) else .scale (numberAt m bs 5) } }

/-- One item setting of CATALOGUE_LOAD: the item code, then EMPTY or price, combo flag and validity minutes (R67). -/
def itemSettingAt (bs : List Byte) : ItemSetting :=
  let m := Config.Message.hostEntry .catalogueLoad
  { item := numberAt m bs 0
    contents := orAbsent m bs 0
      { price := numberAt m bs 1, combo := Config.openField m 2 bs, minutes := numberAt m bs 3 } }

/-- CATALOGUE_LOAD: the listed count, then the settings (R67). -/
def catalogueLoadBody : List Byte → Body (List ItemSetting) :=
  let m := Config.Message.host .catalogueLoad
  listBody (Config.fixedSize m) (Config.fixedSize (.hostEntry .catalogueLoad)) itemSettingAt (fun bs => numberAt m bs 0)
    fun _ items => items

/-- FARE_QUOTE (R80, R192). -/
def fareQuoteBody : List Byte → Body FareQuoteReq :=
  let m := Config.Message.host .fareQuote
  fixedBody m fun bs =>
    { band := numberAt m bs 0, kind := codeAt m bs 1, concession := codeAt m bs 2, minute := numberAt m bs 3
      surcharge := numberAt m bs 4, screening := numberAt m bs 5 }

/-- COUNTER_BASE (R129). -/
def counterBaseBody : List Byte → Body CounterBaseReq :=
  let m := Config.Message.host .counterBase
  fixedBody m fun bs => { sale := numberAt m bs 0, voucher := numberAt m bs 1 }

/-- PRINT_REDIRECT (R160). -/
def printRedirectBody : List Byte → Body PrintRedirectReq :=
  let m := Config.Message.host .printRedirect
  fixedBody m fun bs => { source := numberAt m bs 0, target := numberAt m bs 1 }

/-- DROP_CONFIG (R166). -/
def dropConfigBody : List Byte → Body DropConfigReq :=
  let m := Config.Message.host .dropConfig
  fixedBody m fun bs =>
    { drop := numberAt m bs 0, kind := Config.openField m 1 bs, supply := Config.openField m 2 bs }

/-- SET_SITE: the settings in the order of R68, R162, R146 and R187 (R187). -/
def setSiteBody : List Byte → Body SiteReq :=
  let m := Config.Message.host .setSite
  fixedBody m fun bs =>
    { rounding := Config.openField m 0 bs, noFareMasked := Config.openField m 1 bs, ceilingMasked := Config.openField m 2 bs
      lineCeiling := numberAt m bs 3, houseFare := numberAt m bs 4, rebate := numberAt m bs 5, seatTax := numberAt m bs 6
      snackTax := numberAt m bs 7, printLater := Config.openField m 8 bs, backlog := numberAt m bs 9
      retention := numberAt m bs 10, hold := numberAt m bs 11, cardWait := numberAt m bs 12, authTimeout := numberAt m bs 13 }

/-- The level of one kind of notice: a number, or OFF (R183). -/
def levelAt (bs : List Byte) (i : Nat) : Level :=
  if Config.openField (.host .noticeLevels) i bs = true then .off else .value (numberAt (.host .noticeLevels) bs i)

/-- NOTICE_LEVELS (R183). -/
def noticeLevelsBody : List Byte → Body Levels :=
  fixedBody (.host .noticeLevels) fun bs =>
    { authRequest := levelAt bs 0, journal := levelAt bs 1, dropState := levelAt bs 2, printer := levelAt bs 3
      screening := levelAt bs 4, store := levelAt bs 5, linkError := levelAt bs 6 }

/-- The command that a request's name and body spell (R180, R195). -/
def requestCommand (h : HostTag) (bs : List Byte) : HostRequest → Instr
  | .layoutBegin => .layoutBegin h (layoutBeginBody bs)
  | .layoutRow => .layoutRow h (layoutRowBody bs)
  | .screeningLoad => .screeningLoad h (screeningLoadBody bs)
  | .screeningOpen => .screeningOpen h (numberBody (.host .screeningOpen) bs)
  | .screeningClose => .screeningClose h (numberBody (.host .screeningClose) bs)
  | .screeningWithdraw => .screeningWithdraw h (numberBody (.host .screeningWithdraw) bs)
  | .screeningUnload => .screeningUnload h (numberBody (.host .screeningUnload) bs)
  | .seatBlock => .seatBlock h (seatListBody .seatBlock bs)
  | .seatUnblock => .seatUnblock h (seatListBody .seatUnblock bs)
  | .seatSell => .seatSell h (seatSellBody bs)
  | .seatRefund => .seatRefund h (seatListBody .seatRefund bs)
  | .seatQuery => .seatQuery h (seatQueryBody bs)
  | .tariffLoad => .tariffLoad h (tariffLoadBody bs)
  | .daypartLoad => .daypartLoad h (daypartLoadBody bs)
  | .overlaySet => .overlaySet h (overlaySetBody bs)
  | .catalogueLoad => .catalogueLoad h (catalogueLoadBody bs)
  | .fareQuote => .fareQuote h (fareQuoteBody bs)
  | .authResult => .authResult h (authResultBody bs)
  | .journalRead => .journalRead h (noFields bs)
  | .journalTake => .journalTake h (numberBody (.host .journalTake) bs)
  | .counterBase => .counterBase h (counterBaseBody bs)
  | .voucherVoid => .voucherVoid h (numberBody (.host .voucherVoid) bs)
  | .voucherQuery => .voucherQuery h (numberBody (.host .voucherQuery) bs)
  | .printRedirect => .printRedirect h (printRedirectBody bs)
  | .printFlush => .printFlush h (numberBody (.host .printFlush) bs)
  | .dropConfig => .dropConfig h (dropConfigBody bs)
  | .dropReset => .dropReset h (numberBody (.host .dropReset) bs)
  | .status => .status h (noFields bs)
  | .setClock => .setClock h (setClockBody bs)
  | .setSite => .setSite h (setSiteBody bs)
  | .noticeLevels => .noticeLevels h (noticeLevelsBody bs)

/-- The part states a request is taken in (R188). -/
def allowedIn : HostRequest → PartState → Bool
  | .status => fun _ => true
  | .setClock => readyOrNeed
  | .setSite => readyOrNeed
  | .dropConfig => readyOrNeed
  | .counterBase => readyOrNeed
  | _ => readyOnly

/-- The request a kind names: kinds 1 to 63 only (R194). -/
def requestOf (kind : Byte) : Option HostRequest :=
  if 1 ≤ kind.toNat ∧ kind.toNat ≤ 63 then Config.requestOfKind kind.toNat else none

/-- The kind of the RESTART frame (R194). -/
def restartKind : Byte := 127#8

/-! ## Drop messages -/

/-- The code of a REDEEM or CHECK: ten character bytes (R197). -/
def codeFields (bs : List Byte) : Body Text := if bs.length = 10 then some (bs.map (·.toNat)) else none

/-- One seat of a SELECT: its address and its concession (R29, R192). -/
def seatChoiceAt (bs : List Byte) : SeatChoice :=
  { addr := seatAddrAt (bs.drop (Config.fieldAt (.dropEntry 1) 0)), concession := codeAt (.dropEntry 1) bs 1 }

/-- SELECT: serial, screening and listed count, then the seats (R29). -/
def selectFields : List Byte → Body SelectReq :=
  let m := Config.Message.drop 1
  listBody (Config.fixedSize m) (Config.fixedSize (.dropEntry 1)) seatChoiceAt (fun bs => numberAt m bs 2) fun bs seats =>
    { serial := numberAt m bs 0, screening := numberAt m bs 1, seats := seats }

/-- BEST: serial, screening, count, kind, row range, split flag and listed count, then the concessions (R52, R192). -/
def bestFields : List Byte → Body BestReq :=
  let m := Config.Message.drop 2
  listBody (Config.fixedSize m) 1 beValue (fun bs => numberAt m bs 7) fun bs concessions =>
    { serial := numberAt m bs 0, screening := numberAt m bs 1, count := numberAt m bs 2, kind := codeAt m bs 3
      concessions := concessions, range := orAbsent m bs 4 (numberAt m bs 4, numberAt m bs 5)
      split := Config.openField m 6 bs }

/-- SNACK_ADD (R30). -/
def snackAddFields : List Byte → Body SnackReq :=
  fixedBody (.drop 3) fun bs => { serial := numberAt (.drop 3) bs 0, item := numberAt (.drop 3) bs 1 }

/-- VOID_LINE (R32). -/
def voidLineFields : List Byte → Body VoidLineReq :=
  fixedBody (.drop 5) fun bs => { serial := numberAt (.drop 5) bs 0, slot := numberAt (.drop 5) bs 1 }

/-- The tag that PRINTED or FAILED carries: sale number and item index (R148). The reason JAM of a FAILED (R156) is not read: every body
of the right length is a jam (DESIGN CHOICE; notes/assumptions/52.md). -/
def tagFields (code : Nat) : List Byte → Body PrintTag :=
  fixedBody (.drop code) fun bs => { sale := numberAt (.drop code) bs 0, index := numberAt (.drop code) bs 1 }

/-- Whether a message code is that of a request, which occupies the drop's request outstanding flag (R169). -/
def isRequestCode (c : Nat) : Bool := (1 ≤ c && c ≤ 10) || c == 18 || c == 19

/-- The command that a drop's message spells (R174, R197). -/
def dropCommand (d : Drop) (code : Nat) (bs : List Byte) : Option Instr :=
  match code with
  | 1 => some (.select d (selectFields bs))
  | 2 => some (.best d (bestFields bs))
  | 3 => some (.snackAdd d (snackAddFields bs))
  | 4 => some (.undo d (numberBody (.drop 4) bs))
  | 5 => some (.voidLine d (voidLineFields bs))
  | 6 => some (.extend d (numberBody (.drop 6) bs))
  | 7 => some (.view d (numberBody (.drop 7) bs))
  | 8 => some (.clear d (numberBody (.drop 8) bs))
  | 9 => some (.tender d (numberBody (.drop 9) bs))
  | 10 => some (.cancel d (numberBody (.drop 10) bs))
  | 11 => some (.contacts d (Config.contactsFields bs))
  | 12 => some (.powerDone d (Config.powerDoneFields bs))
  | 13 => some (.token d (Config.tokenFields bs))
  | 14 => some (.readFailed d (noFields bs))
  | 15 => some (.printerStatus d (Config.printerStatusFields bs))
  | 16 => some (.printed d (tagFields 16 bs))
  | 17 => some (.failed d (tagFields 17 bs))
  | 18 => some (.redeem d (codeFields bs))
  | 19 => some (.check d (codeFields bs))
  | _ => none

end Sys2Proof.Machine
end

