-- ==== Sys2Proof/Machine/KioskLine.lean ====
section
/-! DEFINITION. The Kiosk Line Controller: drop configuration, visits, answers and misses (09_kiosk_lines, R165 to R178). -/

namespace Sys2Proof.Machine

/-! ## Configuration and reset of a drop (R165, R166, R177) -/

/-- The visit under way to a drop has its answer discarded (R177). -/
def KioskLine.discardVisit (k : KioskLine) (d : Drop) : KioskLine :=
  { k with visit := k.visit.map fun v => if v.drop = d then { v with discard := true } else v }

def State.discardVisit (s : State) (d : Drop) : State :=
  s.setLine (dropLine d) ((s.line (dropLine d)).discardVisit d)

/-- A drop record with the fields that a change of kind, DROP_RESET and RESTART set again, but for kind, supply, state and slots
(R165, R166, R177). -/
def DropRecord.fresh (r : DropRecord) : DropRecord :=
  { r with misses := 0, outToggle := false, inToggle := none, inDoubt := none, requestOutstanding := false, busyDue := none
           holdOff := false }

/-- The drop record after a change of kind (R166). -/
def DropRecord.rekind (r : DropRecord) (kind : DropKind) (supply : ReaderSupply) : DropRecord :=
  { r.fresh with
    kind := kind, supply := supply, slots := Vector.replicate 6 none
    state := match kind with
      | .none => .unused
      | .kiosk => .probing
      | .counter => .probing }

/-- Whether a drop is in use, so that its kind may not change (R166). -/
def State.dropInUse (s : State) (d : Drop) : Bool :=
  (s.basket d).state != .idle || (s.session d).state != .idle || (s.reader d).state.powered || !(s.queue d).isEmpty
    || s.pru.reservations.any fun r => r.drop == d

/-- The KLC raises DROP_STATE when a drop's state has changed (R167; notes/assumptions/32.md). -/
def State.raiseIfMoved (s : State) (d : Drop) (before : DropState) : State :=
  if (s.dropRec d).state = before then s else s.raise .dropState

/-- A DROP_CONFIG that passes its checks (R166). -/
def State.configure (s : State) (d : Drop) (kind : DropKind) (supply : ReaderSupply) : State :=
  if kind = (s.dropRec d).kind then s.setDropRec d { s.dropRec d with supply := supply }
  else
    (((s.setDropRec d ((s.dropRec d).rekind kind supply)).discardVisit d).send
      [.dropKindChangeTdu d kind, .dropKindChangePru d kind]).raiseIfMoved d (s.dropRec d).state

/-- Whether a drop index names a drop of a line that is enabled (R166, R191). -/
def State.dropEnabled (s : State) (n : Nat) : Bool := n < 8 || (n < 16 && s.hlc.straps.bothLines)

/-- DROP_CONFIG (R166). -/
def State.dropConfig (h : HostTag) (r : DropConfigReq) (s : State) : State :=
  if hd : r.drop < 16 then
    match r.kind, r.supply, s.dropEnabled r.drop with
    | some kind, some supply, true =>
      if kind ≠ (s.dropRec ⟨r.drop, hd⟩).kind ∧ s.dropInUse ⟨r.drop, hd⟩ = true then s.replyHost h .inUse .none
      else (s.configure ⟨r.drop, hd⟩ kind supply).replyHost h .ok .none
    | _, _, _ => s.replyHost h .badValue .none
  else s.replyHost h .badValue .none

def execDropConfig (h : HostTag) (req : Body DropConfigReq) (s : State) : Result :=
  (s.accept (.dropConfig h req)).serve h readyOrNeed req (State.dropConfig h)

/-- The state that DROP_RESET and RESTART put a drop in (R165, R177). -/
def DropState.probed : DropState → DropState
  | .unused => .unused
  | .probing => .probing
  | .online => .probing
  | .offline => .probing

/-- DROP_RESET at the KLC (R177). -/
def State.resetDrop (s : State) (d : Drop) : State :=
  ((s.setDropRec d { (s.dropRec d).fresh with state := (s.dropRec d).state.probed }).discardVisit d).raiseIfMoved d
    (s.dropRec d).state

/-! ## The choice of the drop to visit (R170) -/

/-- Whether a drop is due in a round (R170). -/
def DropRecord.due (r : DropRecord) (round : Nat) : Bool :=
  match r.state with
  | .unused => false
  | .probing => true
  | .online => true
  | .offline => round == 0

/-- The first due drop of a line at or after a place. -/
def State.dueFrom (s : State) (l : LineId) (round place : Nat) : Option (Fin 8) :=
  (List.finRange 8).find? fun i => place ≤ i.val && (s.dropRec (dropAt l i)).due round

/-- Whether a line makes no visit, its drops being all UNUSED (R170). -/
def State.lineUnused (s : State) (l : LineId) : Bool :=
  (List.finRange 8).all fun i => (s.dropRec (dropAt l i)).state == .unused

/-- The next round (R170). -/
def nextRound (n : Nat) : Nat := (n + 1) % 8

/-! ## The frame of a visit (R171) -/

/-- The slots in rank order (R168). -/
def slotOrder : List SlotId := [.reply, .reader, .pushBasket, .pushTender, .pushSlot, .print]

/-- The frame of a slot that may go, PRINT being passed over under hold-off (R171 step 4). -/
def DropRecord.eligible (r : DropRecord) (i : SlotId) : Option (SlotId × OutFrame) :=
  if i = .print ∧ r.holdOff = true then none else (vget r.slots (slotIndex i)).map fun e => (i, e.frame)

/-- What a visit sends (R171). -/
def DropRecord.toSend (r : DropRecord) : SentFrame :=
  match r.state, r.inDoubt with
  | .probing, _ => .sync
  | .offline, _ => .sync
  | _, some q =>
    match vget r.slots (slotIndex q.slot) with
    | some e => if e.sent then .body q.slot q.toggle e.frame else .pollInDoubt
    | none => .pollInDoubt
  | _, none =>
    match slotOrder.findSome? r.eligible with
    | some (i, f) => .body i r.outToggle f
    | none => .poll

/-- The drop record with the slot of the frame sent marked as sent (notes/assumptions/15.md). -/
def DropRecord.markSent (r : DropRecord) : SentFrame → DropRecord
  | .body i _ f => r.setSlot i (some { frame := f, sent := true })
  | .sync => r
  | .pollInDoubt => r
  | .poll => r

/-- The visit of a drop, with the characters that go on the line (R170, R171, R196, R197). -/
def visitOf (d : Drop) (r : DropRecord) : Visit :=
  { drop := d, sent := r.toSend, busyMark := r.busyDue, discard := false, addr := dropAddress d
    bytes := outFrameBytes d r.toSend r.inToggle r.busyDue }

/-- A visit begins (R170, R171). -/
def State.beginVisit (s : State) (l : LineId) (round : Nat) (i : Fin 8) : State :=
  let r := s.dropRec (dropAt l i)
  (s.setDropRec (dropAt l i) (r.markSent r.toSend)).setLine l
    { round := round, next := i.val + 1, idle := false, visit := some (visitOf (dropAt l i) r) }

/-- VISIT_START: the next due drop of the round is visited; past the last one the round ends and the next begins; a round in which
no drop is due idles the line (R170; notes/assumptions/26.md). A line whose drops are all UNUSED makes no visit, and its round and
place stand still until a drop is configured (DESIGN CHOICE; notes/assumptions/46.md). -/
def State.visitStart (s : State) (l : LineId) : State :=
  let k := s.line l
  if k.visit.isSome = true ∨ k.idle = true ∨ s.lineUnused l = true then s
  else
    match s.dueFrom l k.round k.next with
    | some i => s.beginVisit l k.round i
    | none =>
      if k.next = 0 then s.setLine l { k with idle := true }
      else
        match s.dueFrom l (nextRound k.round) 0 with
        | some i => s.beginVisit l (nextRound k.round) i
        | none => s.setLine l { k with round := nextRound k.round, next := 0, idle := true }

def execVisitStart (l : LineId) (s : State) : Result := .next (s.visitStart l)

/-- ROUND_IDLE_END (R170). -/
def State.roundIdleEnd (s : State) (l : LineId) : State :=
  if (s.line l).idle then s.setLine l { s.line l with round := nextRound (s.line l).round, next := 0, idle := false }
  else s

def execRoundIdleEnd (l : LineId) (s : State) : Result := .next (s.roundIdleEnd l)

/-! ## Answers (R172 to R174, R176) -/

/-- The visit of a line has ended. -/
def State.endVisit (s : State) (l : LineId) : State := s.setLine l { s.line l with visit := none }

/-- A slot is emptied when it still holds the frame that was sent (R173). -/
def DropRecord.deliverSlot (r : DropRecord) (i : SlotId) : DropRecord :=
  match vget r.slots (slotIndex i) with
  | some e => if e.sent then r.setSlot i none else r
  | none => r

/-- What the record takes from any good answer: miss count, hold-off, and busy-due when its mark went out (R173). -/
def DropRecord.answered (r : DropRecord) (v : Visit) (a : Answer) : DropRecord :=
  { r with misses := 0, holdOff := answerHoldOff a, busyDue := if v.busyMark.isSome then none else r.busyDue }

/-- The frame that a good answer shows delivered: the frame sent, or the frame in doubt (R173). -/
def deliveredFrame (r : DropRecord) (v : Visit) (a : Answer) : Option OutFrame :=
  match v.sent with
  | .sync => none
  | .poll => none
  | .body _ t f => if answerTaken a = t then some f else none
  | .pollInDoubt =>
    match r.inDoubt with
    | some q => if answerTaken a = q.toggle then some q.frame else none
    | none => none

/-- The settlement of the frame sent and of the doubt (R173). -/
def DropRecord.settle (r : DropRecord) (v : Visit) (a : Answer) : DropRecord :=
  match v.sent with
  | .sync => r
  | .poll => r
  | .body i t _ =>
    if answerTaken a = t then { r.deliverSlot i with outToggle := !t, inDoubt := none } else { r with inDoubt := none }
  | .pollInDoubt =>
    match r.inDoubt with
    | some q => if answerTaken a = q.toggle then { r with outToggle := !q.toggle, inDoubt := none } else { r with inDoubt := none }
    | none => r

/-- A delivery is reported where its owner depends on it: a REPLY clears request outstanding, and READER_POWER off is reported to
the TDU (R101, R173). -/
def State.reportDelivery (s : State) (d : Drop) : Option OutFrame → State
  | some (.reply _) => s.setDropRec d { s.dropRec d with requestOutstanding := false }
  | some (.reader .off) => s.send [.readerOffDelivered d]
  | some (.reader (.on _)) => s
  | some (.basketPush _) => s
  | some (.tenderPush _) => s
  | some (.slotPush _) => s
  | some (.print _) => s
  | none => s

/-- A good answer settles the frame sent (R173). -/
def State.settleAnswer (s : State) (v : Visit) (a : Answer) : State :=
  let r := s.dropRec v.drop
  (s.setDropRec v.drop ((r.answered v a).settle v a)).reportDelivery v.drop (deliveredFrame r v a)

/-- A frame taken is handed on; a request while another is outstanding is refused BUSY (R169, R174). -/
def State.handOn (s : State) (d : Drop) (toggle : Bool) (body : List Byte) : State :=
  match body with
  | [] => s
  | c :: fields =>
    if isRequestCode c.toNat then
      if (s.dropRec d).requestOutstanding then s.setDropRec d { s.dropRec d with busyDue := some toggle }
      else
        (s.setDropRec d { s.dropRec d with requestOutstanding := true }).send (dropCommand d c.toNat fields).toList
    else s.send (dropCommand d c.toNat fields).toList

/-- The inbound frame of a good answer is taken by its toggle, and a repeat is discarded (R174). -/
def State.takeInbound (s : State) (d : Drop) (a : Answer) : State :=
  if answerPresent a = true ∧ (s.dropRec d).inToggle ≠ some (answerToggle a) then
    (s.setDropRec d { s.dropRec d with inToggle := some (answerToggle a) }).handOn d (answerToggle a) a.body
  else s

/-- A drop in PROBING or OFFLINE comes back (R176). -/
def State.dropReturn (s : State) (d : Drop) : State :=
  ((s.setDropRec d { s.dropRec d with state := .online, outToggle := false, inToggle := none, inDoubt := none }).raise
      .dropState).send [.dropOnlineSbu d, .dropOnlineTdu d, .dropOnlinePru d] |>.pushTender d

/-- The return of a drop, when its state asks for it (R172, R176). -/
def State.returnIfAway (s : State) (d : Drop) : State :=
  match (s.dropRec d).state with
  | .probing => s.dropReturn d
  | .offline => s.dropReturn d
  | .online => s
  | .unused => s

/-- A good answer, when it is not discarded (R172). -/
def State.takeAnswer (s : State) (v : Visit) (a : Answer) : State :=
  ((s.returnIfAway v.drop).settleAnswer v a).takeInbound v.drop a

/-! ## Misses (R175) -/

/-- The in-doubt record after a miss (R175). -/
def missDoubt (r : DropRecord) : SentFrame → Option InDoubt
  | .body i t f => some { slot := i, toggle := t, frame := f }
  | .sync => r.inDoubt
  | .pollInDoubt => r.inDoubt
  | .poll => r.inDoubt

/-- The record after a miss (R175). -/
def DropRecord.missed (r : DropRecord) (sent : SentFrame) : DropRecord :=
  { r with misses := min 3 (r.misses + 1), inDoubt := missDoubt r sent }

/-- A drop enters OFFLINE (R175). -/
def State.loseDrop (s : State) (d : Drop) : State :=
  ((s.setDropRec d { s.dropRec d with state := .offline }).send [.dropOfflineTdu d, .dropOfflinePru d]).raise .dropState

/-- Whether a drop is lost at its third miss (R175). -/
def DropRecord.lost (r : DropRecord) : Bool := r.misses == 3 && (r.state == .probing || r.state == .online)

/-- A missed visit, when its answer is not to be discarded (R175). -/
def State.miss (s : State) (v : Visit) : State :=
  let t := s.setDropRec v.drop ((s.dropRec v.drop).missed v.sent)
  if (t.dropRec v.drop).lost then t.loseDrop v.drop else t

/-- VISIT_MISS (R172, R175, R177). -/
def State.visitMiss (s : State) (l : LineId) : State :=
  match (s.line l).visit with
  | some v => if v.discard then s.endVisit l else (s.endVisit l).miss v
  | none => s

def execVisitMiss (l : LineId) (s : State) : Result := (s.visitMiss l).done

/-- GOOD_ANSWER: an answer that fails a test of R172 is a miss (notes/assumptions/33.md). -/
def State.goodAnswer (s : State) (l : LineId) (a : Answer) : State :=
  match (s.line l).visit with
  | some v =>
    if v.discard then s.endVisit l
    else if answerGood v.drop a then (s.endVisit l).takeAnswer v a
    else (s.endVisit l).miss v
  | none => s

def execGoodAnswer (l : LineId) (a : Answer) (s : State) : Result := (s.goodAnswer l a).done

end Sys2Proof.Machine
end

