-- ==== Sys2Proof/Machine/Restart.lean ====
section
/-! DEFINITION. What a RESTART leaves of each block and of the part (R190 and the reset rules of each chapter). The Host Link Controller
acts on it in the step that takes its frame. -/

namespace Sys2Proof.Machine

/-- Whether an order on its way outlasts a RESTART (R190). A STORE_RETRY that is due is dropped with the others, and RETRY_WAIT, which R130
keeps, has the next second make it due again (DESIGN CHOICE; notes/assumptions/30.md). -/
def outlastsRestart : Instr → Bool
  | .saleRecord _ => true
  | .timeoutVoidOrder _ => true
  | .issueOrder _ => true
  | .printOrder _ _ => true
  | _ => false

/-- The JNU after RESTART (R113, R114, R130). -/
def Jnu.restart (j : Jnu) : Jnu := { j with journal := [], reservations := [] }

/-- The VCU after RESTART (R132, R147). -/
def Vcu.restart (v : Vcu) : Vcu := { v with used := [], reservations := [], retention := 120 }

/-- A drop record after RESTART (R165). -/
def DropRecord.restart (r : DropRecord) : DropRecord :=
  { DropRecord.reset with kind := r.kind, supply := r.supply, state := r.state.probed }

/-- A line after RESTART: the answer of a visit under way is to be discarded (R170, R190). -/
def KioskLine.restart (k : KioskLine) : KioskLine :=
  { KioskLine.reset with visit := k.visit.map fun v => { v with discard := true } }

/-- The KLC after RESTART (R165, R170). -/
def Klc.restart (k : Klc) : Klc :=
  { drops := k.drops.map DropRecord.restart, lineA := k.lineA.restart, lineB := k.lineB.restart }

/-- The part state that RESTART leaves: STARTING while a start-up operation still runs (R130, R190). -/
def State.restartState (s : State) : PartState :=
  match s.hlc.partState, s.jnu.saleCounter with
  | .starting, _ => .starting
  | _, some _ => .ready
  | _, none => .needCounters

/-- The HLC after RESTART, its reply first in the emptied queue (R190). -/
def Hlc.restart (x : Hlc) (h : HostTag) (p : PartState) : Hlc :=
  { Hlc.reset x.straps with
    partState := p, tx := x.tx, replies := [{ request := h, code := .ok, data := .partState p }] }

/-- The mark that the controller sends the VCU again at RESTART (R130). -/
def Jnu.markAgain (j : Jnu) : List Instr :=
  match j.store.written with
  | some w => [.voucherMarkUpdate w.voucher]
  | none => []

/-- RESTART (R190; notes/assumptions/30.md). -/
def State.restart (s : State) (h : HostTag) : State :=
  { sbu := .reset, fau := .reset, tdu := .reset, jnu := s.jnu.restart, vcu := s.vcu.restart, pru := .reset
    klc := s.klc.restart, hlc := s.hlc.restart h s.restartState
    orders := s.orders.filter outlastsRestart ++ s.jnu.markAgain, priceAnswer := none, pending := s.pending }

end Sys2Proof.Machine
end

