-- ==== Sys2Proof/Machine/HostLink.lean ====
section
/-! DEFINITION. The Host Link Controller: receiving and taking frames, STATUS, the site clock and seconds, site settings and notice
levels (10_host_link_notices_and_site_settings, R179 to R189). -/

namespace Sys2Proof.Machine

/-! ## Receiving (R179) -/

/-- The bytes the receive buffer holds. -/
def Hlc.occupancy (h : Hlc) : Nat := (h.frames.map hostFrameSize).sum + h.bytes.length

/-- The HLC with the buffer read as a stream of frames (R179). -/
def Hlc.scan (h : Hlc) (bs : List Byte) : Hlc :=
  let r := scanHost (bs.length + 1) bs
  { h with
    frames := h.frames ++ r.1, bytes := r.2.1, discards := min 65535 (h.discards + r.2.2)
    conditions := if r.2.2 = 0 then h.conditions else h.conditions.put .linkError true }

/-- HOST_BYTE_RECEIVED: a byte enters the buffer, or is lost when 2,048 bytes are there (R179). -/
def State.receive (s : State) (b : Byte) : State :=
  if 2048 ≤ s.hlc.occupancy then s else s.setHlc (s.hlc.scan (s.hlc.bytes ++ [b]))

def execHostByteReceived (b : Byte) (s : State) : Result := (s.receive b).done

/-! ## STATUS (R189) -/

/-- The site settings as their owners hold them (R187). -/
def State.siteSettings (s : State) : SiteSettings :=
  { pricing := s.fau.settings, printLater := s.pru.printLater, backlog := s.pru.backlog, retention := s.vcu.retention
    hold := s.hlc.hold, cardWait := s.hlc.cardWait, authTimeout := s.hlc.authTimeout }

/-- A drop as STATUS shows it. -/
def dropShown (r : DropRecord) : DropShown := { kind := r.kind, supply := r.supply, state := r.state }

/-- The reply of STATUS (R189). Its drops and queues stand by drop (DESIGN CHOICE; notes/assumptions/55.md). -/
def State.statusReport (s : State) : StatusReport :=
  { partState := s.hlc.partState, straps := s.hlc.straps, clock := s.hlc.clock, settings := s.siteSettings
    generation := s.fau.generation, conditions := s.hlc.conditions, levels := s.hlc.levels, discards := s.hlc.discards
    drops := s.klc.drops.toList.map dropShown, saleCounter := s.jnu.saleCounter, voucherCounter := s.vcu.counter
    storeMode := s.jnu.store.mode, written := s.jnu.store.written, journalRecords := s.jnu.journal.length
    journalReservations := s.jnu.reservations.length, usedVouchers := s.vcu.used.length
    reservedVouchers := s.vcu.reservedCount
    queues := (List.finRange 16).map fun d => ((s.queue d).length, s.pru.reservedFor d) }

/-- STATUS (R189). -/
def State.status (h : HostTag) (_ : Unit) (s : State) : State := s.replyHost h .ok (.status s.statusReport)

def execStatus (h : HostTag) (req : Body Unit) (s : State) : Result :=
  (s.accept (.status h req)).serve h (fun _ => true) req (State.status h)

/-! ## Taking requests (R180, R181) -/

/-- What a frame echoes in its reply. -/
def HostFrame.echo (f : HostFrame) : HostTag := { tag := f.tag, kind := f.kind }

/-- The oldest good frame leaves the buffer and its request is being handled. -/
def State.takeFrame (s : State) (f : HostFrame) (rest : List HostFrame) : State :=
  s.setHlc { s.hlc with frames := rest, handling := some f.echo }

/-- STATUS is the HLC's own and shows every value as it stands at the taking, so it is answered there; a body that is not empty is
BAD_VALUE (R189, R195). -/
def State.takeStatus (s : State) (f : HostFrame) : State :=
  match noFields f.body with
  | some r => s.status f.echo r
  | none => s.replyHost f.echo .badValue .none

/-- What every reply to a request carries: the generation, where the request is the FAU's (R69; notes/assumptions/45.md). -/
def State.everyReply (s : State) : HostRequest → HostData
  | .tariffLoad => .generation s.fau.generation
  | .daypartLoad => .generation s.fau.generation
  | .overlaySet => .generation s.fau.generation
  | .catalogueLoad => .generation s.fau.generation
  | .fareQuote => .generation s.fau.generation
  | _ => .none

/-- A frame is taken: RESTART, which resets the part there and then, an unknown kind, a part-state refusal, STATUS, or a request that goes
to its owner (R180, R189, R190, R195; notes/assumptions/29.md). -/
def State.routeFrame (s : State) (f : HostFrame) : State :=
  if f.kind = restartKind ∧ f.body.isEmpty = true then s.restart f.echo
  else
    match requestOf f.kind with
    | none => s.send [.unknownRequestKind f.echo]
    | some q =>
      if allowedIn q s.hlc.partState then
        if q = .status then s.takeStatus f else s.send [requestCommand f.echo f.body q]
      else s.replyHost f.echo (partStateCode s.hlc.partState) (s.everyReply q)

/-- HOST_REQUEST_TAKE (R180, R181). -/
def State.takeRequest (s : State) : State :=
  match s.hlc.frames with
  | [] => s
  | f :: rest =>
    if s.hlc.handling = none ∧ s.hlc.replies.length < 4 then (s.takeFrame f rest).routeFrame f else s

def execHostRequestTake (s : State) : Result := s.takeRequest.done

/-- UNKNOWN_REQUEST_KIND (R180 step 1, R195). -/
def execUnknownRequestKind (h : HostTag) (s : State) : Result :=
  ((s.accept (.unknownRequestKind h)).replyHost h .badRequest .none).done

/-- HOST_FRAME_END: the transmitter is free for the next frame (R184). -/
def execHostFrameEnd (s : State) : Result := (s.setHlc { s.hlc with tx := none }).done

/-! ## Notice levels (R183) -/

/-- Whether a level is 0 to 3 or OFF. -/
def levelOk : Level → Bool
  | .off => true
  | .value n => n ≤ 3

/-- Whether every level is in range. -/
def levelsOk (l : Levels) : Bool :=
  levelOk l.authRequest && levelOk l.journal && levelOk l.dropState && levelOk l.printer && levelOk l.screening
    && levelOk l.store && levelOk l.linkError

/-- NOTICE_LEVELS (R183). -/
def State.noticeLevels (h : HostTag) (l : Levels) (s : State) : State :=
  if levelsOk l then (s.setHlc { s.hlc with levels := l }).replyHost h .ok .none else s.replyHost h .badValue .none

def execNoticeLevels (h : HostTag) (req : Body Levels) (s : State) : Result :=
  (s.accept (.noticeLevels h req)).serve h readyOnly req (State.noticeLevels h)

/-! ## The site clock (R185, R186) -/

/-- The VCU sweeps at a site time (R146). -/
def State.sweep (s : State) (now : SiteTime) : State := s.setVcu (s.vcu.sweep now)

/-- A SET_CLOCK accepted: the SBU and the VCU are told the new time (R186). -/
def State.stepClock (s : State) (t : SiteTime) : State :=
  ((s.setHlc { s.hlc with clock := t }).closeDue t).sweep t

/-- SET_CLOCK (R186). -/
def State.setClock (h : HostTag) (t : SiteTime) (s : State) : State :=
  if t.day ≤ 65535 ∧ t.second ≤ 86399 then
    if siteSeconds t + 300 < siteSeconds s.hlc.clock then s.replyHost h .clockStep .none
    else (s.stepClock t).replyHost h .ok (.time s.hlc.clock)
  else s.replyHost h .badValue .none

def execSetClock (h : HostTag) (time : Body SiteTime) (s : State) : Result :=
  (s.accept (.setClock h time)).serve h readyOrNeed time (State.setClock h)

/-- The next second of the site clock; it stays at the last one (R185). -/
def nextTime (t : SiteTime) : SiteTime :=
  if siteSeconds lastTime ≤ siteSeconds t then t else siteTimeOf (siteSeconds t + 1)

/-- The clock advances, and the SBU and, at a whole minute, the VCU are told (R146, R185). -/
def State.advanceClock (s : State) : State :=
  let now := nextTime s.hlc.clock
  if now = s.hlc.clock then s
  else
    let t := (s.setHlc { s.hlc with clock := now }).closeDue now
    if now.second % 60 = 0 then t.sweep now else t

/-- A basket with its countdown down by 1. -/
def Basket.counted (b : Basket) : Basket := { b with countdown := b.countdown - 1 }

/-- The hold countdown of a drop: an OPEN basket counts, warns at 30 and has its expiry ordered at 0 (R38, R39). -/
def State.countHold (s : State) (d : Drop) : State :=
  let b := s.basket d
  if b.state = .opened ∧ 0 < b.countdown then
    if b.countdown = 31 ∧ b.warned = false then (s.setBasket d { b.counted with warned := true }).pushBasket d .holdWarning
    else if b.countdown = 1 then (s.setBasket d b.counted).send [.holdExpiry d]
    else s.setBasket d b.counted
  else s

/-- The card-wait countdown of a session (R93, R102). -/
def State.countCardWait (s : State) (d : Drop) : State :=
  match (s.session d).state, (s.session d).cardWait with
  | .cardWait, some (n + 1) =>
    let t := s.setSession d { s.session d with cardWait := some n }
    if n = 0 then t.send [.cardWaitTimeout d] else t
  | _, _ => s

/-- The authorisation countdown of a session (R93, R108). -/
def State.countAuth (s : State) (d : Drop) : State :=
  match (s.session d).state, (s.session d).authWait with
  | .authPending, some (n + 1) =>
    let t := s.setSession d { s.session d with authWait := some n }
    if n = 0 then t.send [.authTimeout d] else t
  | _, _ => s

/-- In RETRY_WAIT the next second starts the retry (R125). -/
def State.countStore (s : State) : State := if s.jnu.store.op = .retryWait then s.send [.storeRetry] else s

/-- CLOCK_SECOND: clock, hold countdowns, session countdowns, store (R185; notes/assumptions/6.md). -/
def State.second (s : State) : State :=
  let t := (List.finRange 16).foldl State.countHold s.advanceClock
  ((List.finRange 16).foldl (fun u d => (u.countCardWait d).countAuth d) t).countStore

def execClockSecond (s : State) : Result := s.second.done

/-! ## Site settings (R187) -/

/-- The numeric settings of a SET_SITE with their ranges (R68, R146, R162, R187). -/
def siteFields (r : SiteReq) : List (SiteField × Nat × Nat × Nat) :=
  [(.lineCeiling, 1, 99999, r.lineCeiling), (.houseFare, 0, 50000, r.houseFare), (.rebate, 0, 5000, r.rebate),
   (.seatTax, 0, 3000, r.seatTax), (.snackTax, 0, 3000, r.snackTax), (.backlog, 2, 16, r.backlog),
   (.retention, 10, 1440, r.retention), (.hold, 60, 600, r.hold), (.cardWait, 20, 180, r.cardWait),
   (.authTimeout, 15, 120, r.authTimeout)]

/-- The settings that were clamped (R187). -/
def clampedFields (r : SiteReq) : List SiteField :=
  (siteFields r).filterMap fun f => if clamp f.2.1 f.2.2.1 f.2.2.2 = f.2.2.2 then none else some f.1

/-- The pricing settings of a SET_SITE, clamped (R68). -/
def pricingOf (r : SiteReq) (mode : Rounding) (noFareMasked ceilingMasked : Bool) : PricingSettings :=
  { rounding := mode, noFareMasked := noFareMasked, ceilingMasked := ceilingMasked
    lineCeiling := clamp 1 99999 r.lineCeiling, houseFare := clamp 0 50000 r.houseFare, rebate := clamp 0 5000 r.rebate
    seatTax := clamp 0 3000 r.seatTax, snackTax := clamp 0 3000 r.snackTax }

/-- The FAU stores pricing settings; a change moves the generation (R68, R69). -/
def Fau.store (f : Fau) (p : PricingSettings) : Fau :=
  if p = f.settings then f else { f with settings := p, generation := nextGeneration f.generation }

/-- Every owner stores its settings (R187). -/
def State.storeSettings (s : State) (r : SiteReq) (p : PricingSettings) (printLater : Bool) : State :=
  (((s.setFau (s.fau.store p)).setPru { s.pru with printLater := printLater, backlog := clamp 2 16 r.backlog }).setVcu
    { s.vcu with retention := clamp 10 1440 r.retention }).setHlc
    { s.hlc with hold := clamp 60 600 r.hold, cardWait := clamp 20 180 r.cardWait
                 authTimeout := clamp 15 120 r.authTimeout }

/-- SET_SITE (R187). -/
def State.setSite (h : HostTag) (r : SiteReq) (s : State) : State :=
  match r.rounding, r.noFareMasked, r.ceilingMasked, r.printLater with
  | some mode, some nf, some ce, some pl =>
    let t := s.storeSettings r (pricingOf r mode nf ce) pl
    t.replyHost h (if (clampedFields r).isEmpty then .ok else .clamped) (.site (clampedFields r) t.fau.generation)
  | _, _, _, _ => s.replyHost h .badValue .none

def execSetSite (h : HostTag) (req : Body SiteReq) (s : State) : Result :=
  (s.accept (.setSite h req)).serve h readyOrNeed req (State.setSite h)

end Sys2Proof.Machine
end

