-- ==== Sys2Proof/Machine/Resets.lean ====
section
/-! DEFINITION. The resets of the part: power-on, pin reset, RESTART and DROP_RESET (R188, R190, R191 and the reset rules of each
chapter). -/

namespace Sys2Proof.Machine

/-- The part after power-on or pin reset with these straps; orders on their way are gone, and the queue of commands, which stands
outside the part, is kept (R188; notes/assumptions/11.md). -/
def State.powerOn (s : State) (straps : Straps) : State :=
  { sbu := .reset, fau := .reset, tdu := .reset, jnu := .reset straps.store, vcu := .reset, pru := .reset, klc := .reset
    hlc := .reset straps, orders := [], priceAnswer := none, pending := s.pending }

/-- POWER_ON_RESET (R188). -/
def execPowerOnReset (straps : Straps) (s : State) : Result := .next (s.powerOn straps)

/-- PIN_RESET (R188). -/
def execPinReset (straps : Straps) (s : State) : Result := .next (s.powerOn straps)

/-! ## RESTART (R190) -/

/-- RESTART put to the part as a command; the taking of its frame does the same (R190). -/
def execRestart (h : HostTag) (s : State) : Result := (s.restart h).done

/-! ## DROP_RESET (R191) -/

/-- The four blocks act on the reset of a drop in turn, and the HLC raises DROP_STATE (R110, R51, R163, R177, R191). -/
def State.resetAll (s : State) (d : Drop) : State :=
  ((((s.resetTender d).resetBasket d).resetPrinter d).resetDrop d).raise .dropState

/-- DROP_RESET (R191). -/
def State.dropReset (h : HostTag) (drop : Nat) (s : State) : State :=
  if hd : drop < 16 then
    if s.dropEnabled drop then
      if s.resetRefused ⟨drop, hd⟩ then s.replyHost h .inTender .none
      else (s.resetAll ⟨drop, hd⟩).replyHost h .ok .none
    else s.replyHost h .badValue .none
  else s.replyHost h .badValue .none

def execDropReset (h : HostTag) (drop : Body Nat) (s : State) : Result :=
  (s.accept (.dropReset h drop)).serve h readyOnly drop (State.dropReset h)

end Sys2Proof.Machine
end

