-- ==== Sys2Proof/Machine/Dispatch.lean ====
section
/-! DEFINITION. One arm per command: the meaning of each, by name. -/

namespace Sys2Proof.Machine

def exec (i : Instr) (s : State) : Host.Outcome State Fault Refusal :=
  match i with
  | .powerOnReset straps => Sys2Proof.Machine.execPowerOnReset straps s
  | .pinReset straps => Sys2Proof.Machine.execPinReset straps s
  | .hostByteReceived b => Sys2Proof.Machine.execHostByteReceived b s
  | .hostRequestTake => Sys2Proof.Machine.execHostRequestTake s
  | .unknownRequestKind h => Sys2Proof.Machine.execUnknownRequestKind h s
  | .hostFrameEnd => Sys2Proof.Machine.execHostFrameEnd s
  | .layoutBegin h req => Sys2Proof.Machine.execLayoutBegin h req s
  | .layoutRow h req => Sys2Proof.Machine.execLayoutRow h req s
  | .screeningLoad h req => Sys2Proof.Machine.execScreeningLoad h req s
  | .screeningOpen h number => Sys2Proof.Machine.execScreeningOpen h number s
  | .screeningClose h number => Sys2Proof.Machine.execScreeningClose h number s
  | .screeningWithdraw h number => Sys2Proof.Machine.execScreeningWithdraw h number s
  | .screeningUnload h number => Sys2Proof.Machine.execScreeningUnload h number s
  | .seatBlock h req => Sys2Proof.Machine.execSeatBlock h req s
  | .seatUnblock h req => Sys2Proof.Machine.execSeatUnblock h req s
  | .seatSell h req => Sys2Proof.Machine.execSeatSell h req s
  | .seatRefund h req => Sys2Proof.Machine.execSeatRefund h req s
  | .seatQuery h req => Sys2Proof.Machine.execSeatQuery h req s
  | .tariffLoad h req => Sys2Proof.Machine.execTariffLoad h req s
  | .daypartLoad h req => Sys2Proof.Machine.execDaypartLoad h req s
  | .overlaySet h req => Sys2Proof.Machine.execOverlaySet h req s
  | .catalogueLoad h req => Sys2Proof.Machine.execCatalogueLoad h req s
  | .fareQuote h req => Sys2Proof.Machine.execFareQuote h req s
  | .authResult h req => Sys2Proof.Machine.execAuthResult h req s
  | .journalRead h req => Sys2Proof.Machine.execJournalRead h req s
  | .journalTake h sale => Sys2Proof.Machine.execJournalTake h sale s
  | .counterBase h req => Sys2Proof.Machine.execCounterBase h req s
  | .voucherVoid h serial => Sys2Proof.Machine.execVoucherVoid h serial s
  | .voucherQuery h serial => Sys2Proof.Machine.execVoucherQuery h serial s
  | .printRedirect h req => Sys2Proof.Machine.execPrintRedirect h req s
  | .printFlush h drop => Sys2Proof.Machine.execPrintFlush h drop s
  | .dropConfig h req => Sys2Proof.Machine.execDropConfig h req s
  | .dropKindChangeTdu d kind => Sys2Proof.Machine.execDropKindChangeTdu d kind s
  | .dropKindChangePru d kind => Sys2Proof.Machine.execDropKindChangePru d kind s
  | .dropReset h drop => Sys2Proof.Machine.execDropReset h drop s
  | .status h req => Sys2Proof.Machine.execStatus h req s
  | .setClock h time => Sys2Proof.Machine.execSetClock h time s
  | .setSite h req => Sys2Proof.Machine.execSetSite h req s
  | .noticeLevels h req => Sys2Proof.Machine.execNoticeLevels h req s
  | .restart h => Sys2Proof.Machine.execRestart h s
  | .clockSecond => Sys2Proof.Machine.execClockSecond s
  | .holdExpiry d => Sys2Proof.Machine.execHoldExpiry d s
  | .cardWaitTimeout d => Sys2Proof.Machine.execCardWaitTimeout d s
  | .authTimeout d => Sys2Proof.Machine.execAuthTimeout d s
  | .select d req => Sys2Proof.Machine.execSelect d req s
  | .best d req => Sys2Proof.Machine.execBest d req s
  | .snackAdd d req => Sys2Proof.Machine.execSnackAdd d req s
  | .undo d serial => Sys2Proof.Machine.execUndo d serial s
  | .voidLine d req => Sys2Proof.Machine.execVoidLine d req s
  | .extend d serial => Sys2Proof.Machine.execExtend d serial s
  | .view d serial => Sys2Proof.Machine.execView d serial s
  | .clear d serial => Sys2Proof.Machine.execClear d serial s
  | .tender d serial => Sys2Proof.Machine.execTender d serial s
  | .priceOrder o => Sys2Proof.Machine.execPriceOrder o s
  | .tenderStart d t => Sys2Proof.Machine.execTenderStart d t s
  | .reservationGrant d ref g => Sys2Proof.Machine.execReservationGrant d ref g s
  | .reservationRefusal d ref phase code => Sys2Proof.Machine.execReservationRefusal d ref phase code s
  | .journalGrantRequest d ref => Sys2Proof.Machine.execJournalGrantRequest d ref s
  | .voucherGrantRequest d ref count => Sys2Proof.Machine.execVoucherGrantRequest d ref count s
  | .printGrantRequest d ref count => Sys2Proof.Machine.execPrintGrantRequest d ref count s
  | .journalReturn sale => Sys2Proof.Machine.execJournalReturn sale s
  | .voucherReturn first count => Sys2Proof.Machine.execVoucherReturn first count s
  | .printReturn d ref => Sys2Proof.Machine.execPrintReturn d ref s
  | .attempt d serial => Sys2Proof.Machine.execAttempt d serial s
  | .unfreeze d serial cause => Sys2Proof.Machine.execUnfreeze d serial cause s
  | .expire d serial => Sys2Proof.Machine.execExpire d serial s
  | .commit d c => Sys2Proof.Machine.execCommit d c s
  | .commitConfirmation d serial => Sys2Proof.Machine.execCommitConfirmation d serial s
  | .release d serial => Sys2Proof.Machine.execRelease d serial s
  | .cancel d serial => Sys2Proof.Machine.execCancel d serial s
  | .readerOffDelivered d => Sys2Proof.Machine.execReaderOffDelivered d s
  | .contacts d c => Sys2Proof.Machine.execContacts d c s
  | .powerDone d on => Sys2Proof.Machine.execPowerDone d on s
  | .token d t => Sys2Proof.Machine.execToken d t s
  | .readFailed d req => Sys2Proof.Machine.execReadFailed d req s
  | .readerPartialTimeout d => Sys2Proof.Machine.execReaderPartialTimeout d s
  | .readerSettleEnd d => Sys2Proof.Machine.execReaderSettleEnd d s
  | .readerPowerUpAckTimeout d => Sys2Proof.Machine.execReaderPowerUpAckTimeout d s
  | .readerPowerUpDelayEnd d => Sys2Proof.Machine.execReaderPowerUpDelayEnd d s
  | .readerPowerDownAckTimeout d => Sys2Proof.Machine.execReaderPowerDownAckTimeout d s
  | .readerPowerDownDelayEnd d => Sys2Proof.Machine.execReaderPowerDownDelayEnd d s
  | .saleRecord r => Sys2Proof.Machine.execSaleRecord r s
  | .timeoutVoidOrder v => Sys2Proof.Machine.execTimeoutVoidOrder v s
  | .storeReadTryEnd answer => Sys2Proof.Machine.execStoreReadTryEnd answer s
  | .storeWriteTryEnd acknowledged => Sys2Proof.Machine.execStoreWriteTryEnd acknowledged s
  | .storeRetry => Sys2Proof.Machine.execStoreRetry s
  | .voucherCounterReport counter => Sys2Proof.Machine.execVoucherCounterReport counter s
  | .voucherCounterStart counter mark => Sys2Proof.Machine.execVoucherCounterStart counter mark s
  | .voucherMarkUpdate mark => Sys2Proof.Machine.execVoucherMarkUpdate mark s
  | .voucherBaseSet base => Sys2Proof.Machine.execVoucherBaseSet base s
  | .issueOrder o => Sys2Proof.Machine.execIssueOrder o s
  | .redeem d code => Sys2Proof.Machine.execRedeem d code s
  | .check d code => Sys2Proof.Machine.execCheck d code s
  | .printOrder d items => Sys2Proof.Machine.execPrintOrder d items s
  | .printed d tag => Sys2Proof.Machine.execPrinted d tag s
  | .failed d tag => Sys2Proof.Machine.execFailed d tag s
  | .printerStatus d r => Sys2Proof.Machine.execPrinterStatus d r s
  | .visitStart line => Sys2Proof.Machine.execVisitStart line s
  | .roundIdleEnd line => Sys2Proof.Machine.execRoundIdleEnd line s
  | .goodAnswer line answer => Sys2Proof.Machine.execGoodAnswer line answer s
  | .visitMiss line => Sys2Proof.Machine.execVisitMiss line s
  | .dropOnlineSbu d => Sys2Proof.Machine.execDropOnlineSbu d s
  | .dropOnlineTdu d => Sys2Proof.Machine.execDropOnlineTdu d s
  | .dropOnlinePru d => Sys2Proof.Machine.execDropOnlinePru d s
  | .dropOfflineTdu d => Sys2Proof.Machine.execDropOfflineTdu d s
  | .dropOfflinePru d => Sys2Proof.Machine.execDropOfflinePru d s

end Sys2Proof.Machine
end

