-- ==== Sys2Proof/Machine/Step.lean ====
section
/-! DEFINITION. One step of the part: the command at the front of the queue, or on an empty queue the oldest order between blocks
that is on its way, or nothing (notes/assumptions/1.md). -/

namespace Sys2Proof.Machine

/-- The step. An order delivered by an empty queue stays listed until its meaning takes it off. -/
def step (s : State) : Host.Outcome State Fault Refusal :=
  match s.pending, s.orders with
  | c :: rest, _ => exec c { s with pending := rest }
  | [], c :: _ => exec c s
  | [], [] => .next s

/-- The state with the command that a word spells at the front of its queue; unchanged where it spells none. -/
def State.withFetchWord (s : State) (nbits w : Nat) : State :=
  match decodeTableWord nbits w with
  | some c => { s with pending := c :: s.pending }
  | none => s

end Sys2Proof.Machine
end

