-- ==== Sys2Proof/WellFormed.lean ====
section
/-! DEFINITION. Which commands the spec allows to arise. The fields of a request or report from outside are raw, and its owner's
rule checks them, so any of those is well-formed; an order between blocks, and the answer of the counter store, has the ranges
that the rules give it. -/

namespace Sys2Proof

open Sys2Proof.Machine

/-- A sale number (R121). -/
def saleOk (n : Nat) : Bool := 1 ≤ n && n ≤ 4294967295

/-- A basket serial of an opening (R23, R24). -/
def basketSerialOk (n : Nat) : Bool := 1 ≤ n && n ≤ 65535

/-- A tender reference (R93). -/
def referenceOk (n : Nat) : Bool := n ≤ 255

/-- A run of voucher serials (R133). -/
def runOk (first count : Nat) : Bool := 1 ≤ first && 1 ≤ count && count ≤ 8 && first + count ≤ 100000000

/-- A mark or value of the voucher counter (R122, R132). -/
def voucherMarkOk (n : Nat) : Bool := 1 ≤ n && n ≤ 100000000

/-- A site time (00_scope "Site time"). -/
def timeOk (t : SiteTime) : Bool := t.day ≤ 65535 && t.second ≤ 86399

/-- The line counts of a basket that may be tendered (R25, R27). -/
def lineCountsOk (seats snacks : Nat) : Bool := seats ≤ 8 && snacks ≤ 8 && 1 ≤ seats + snacks && seats + snacks ≤ 10

/-- A tender start (R45, R93). -/
def tenderStartOk (t : TenderStart) : Bool :=
  basketSerialOk t.serial && lineCountsOk t.seats t.snacks && t.attempts ≤ 2

/-- A grant (R95, R114, R134, R150). -/
def grantOk : Grant → Bool
  | .journal sale => saleOk sale
  | .voucher first count => runOk first count
  | .print count => 1 ≤ count && count ≤ 9

/-- The codes an owner may refuse with (R96). -/
def refusalOk : Phase → Code → Bool
  | .journal, c => c == .journalFull || c == .counterLimit || c == .counterEnd
  | .voucher, c => c == .vouchersFull || c == .counterLimit || c == .counterEnd
  | .print, c => c == .printFull || c == .noPrinter

/-- A payment: an approval code is six permitted characters (R105). -/
def paymentOk : Payment → Bool
  | .card approval _ => approval.length == 6 && approval.all isTextChar
  | .none => true

/-- A COMMIT (R47). -/
def commitOk (c : CommitOrder) : Bool :=
  basketSerialOk c.serial && saleOk c.sale && paymentOk c.payment
    && match c.firstVoucher with
      | some n => 1 ≤ n && n ≤ 99999999
      | none => true

/-- A price order (R70, R25). -/
def priceOrderOk (o : PriceOrder) : Bool := o.kept.length + o.lines.length ≤ 10

/-- A sale record (R112). -/
def saleRecordOk (r : SaleRecord) : Bool :=
  saleOk r.sale && basketSerialOk r.serial && timeOk r.time && lineCountsOk r.seats.length r.snacks.length
    && (r.screening.isSome == !r.seats.isEmpty) && paymentOk r.payment

/-- A timeout void order (R108). -/
def timeoutVoidOk (v : TimeoutVoid) : Bool := saleOk v.sale && basketSerialOk v.serial && timeOk v.time

/-- Whether voucher serials run on from a first one (R136). -/
def consecutive : Nat → List IssueLine → Bool
  | _, [] => true
  | n, l :: rest => l.serial == n && consecutive (n + 1) rest

/-- A line of an issue order (R136). -/
def issueLineOk (l : IssueLine) : Bool := l.item ≤ 31 && 30 ≤ l.minutes && l.minutes ≤ 720

/-- An issue order (R136). -/
def issueOrderOk (o : IssueOrder) : Bool :=
  saleOk o.sale && timeOk o.time && o.lines.all issueLineOk
    && match o.lines with
      | l :: rest => runOk l.serial (rest.length + 1) && consecutive l.serial o.lines
      | [] => false

/-- The sale and item index of a print item. -/
def printTag : PrintItem → PrintTag
  | .ticket t => { sale := t.sale, index := t.index }
  | .receipt r => { sale := r.sale, index := r.index }

/-- The items of one sale: indexes from 1 up, one to nine of them (R148). -/
def printItemsOk (items : List PrintItem) : Bool :=
  1 ≤ items.length && items.length ≤ 9 && (items.map fun i => (printTag i).index) == List.range' 1 items.length

/-- A presented code fills ten characters (R197). -/
def codeOk : Body Text → Bool
  | some t => t.length == 10
  | none => true

/-- The bytes of a store answer: at most the ten of its record (R200). -/
def storeAnswerOk : Option (List Byte) → Bool
  | some bs => bs.length ≤ 10
  | none => true

/-- The commands the spec allows to arise. -/
def wellFormed : Instr → Bool
  | .powerOnReset _ => true
  | .pinReset _ => true
  | .hostByteReceived _ => true
  | .hostRequestTake => true
  | .unknownRequestKind _ => true
  | .hostFrameEnd => true
  | .layoutBegin _ _ => true
  | .layoutRow _ _ => true
  | .screeningLoad _ _ => true
  | .screeningOpen _ _ => true
  | .screeningClose _ _ => true
  | .screeningWithdraw _ _ => true
  | .screeningUnload _ _ => true
  | .seatBlock _ _ => true
  | .seatUnblock _ _ => true
  | .seatSell _ _ => true
  | .seatRefund _ _ => true
  | .seatQuery _ _ => true
  | .tariffLoad _ _ => true
  | .daypartLoad _ _ => true
  | .overlaySet _ _ => true
  | .catalogueLoad _ _ => true
  | .fareQuote _ _ => true
  | .authResult _ _ => true
  | .journalRead _ _ => true
  | .journalTake _ _ => true
  | .counterBase _ _ => true
  | .voucherVoid _ _ => true
  | .voucherQuery _ _ => true
  | .printRedirect _ _ => true
  | .printFlush _ _ => true
  | .dropConfig _ _ => true
  | .dropKindChangeTdu _ _ => true
  | .dropKindChangePru _ _ => true
  | .dropReset _ _ => true
  | .status _ _ => true
  | .setClock _ _ => true
  | .setSite _ _ => true
  | .noticeLevels _ _ => true
  | .restart _ => true
  | .clockSecond => true
  | .holdExpiry _ => true
  | .cardWaitTimeout _ => true
  | .authTimeout _ => true
  | .select _ _ => true
  | .best _ _ => true
  | .snackAdd _ _ => true
  | .undo _ _ => true
  | .voidLine _ _ => true
  | .extend _ _ => true
  | .view _ _ => true
  | .clear _ _ => true
  | .tender _ _ => true
  | .priceOrder o => priceOrderOk o
  | .tenderStart _ t => tenderStartOk t
  | .reservationGrant _ ref g => referenceOk ref && grantOk g
  | .reservationRefusal _ ref p c => referenceOk ref && refusalOk p c
  | .journalGrantRequest _ ref => referenceOk ref
  | .voucherGrantRequest _ ref count => referenceOk ref && 1 ≤ count && count ≤ 8
  | .printGrantRequest _ ref count => referenceOk ref && 1 ≤ count && count ≤ 9
  | .journalReturn sale => saleOk sale
  | .voucherReturn first count => runOk first count
  | .printReturn _ ref => referenceOk ref
  | .attempt _ serial => basketSerialOk serial
  | .unfreeze _ serial _ => basketSerialOk serial
  | .expire _ serial => basketSerialOk serial
  | .commit _ c => commitOk c
  | .commitConfirmation _ serial => basketSerialOk serial
  | .release _ serial => basketSerialOk serial
  | .cancel _ _ => true
  | .readerOffDelivered _ => true
  | .contacts _ _ => true
  | .powerDone _ _ => true
  | .token _ _ => true
  | .readFailed _ _ => true
  | .readerPartialTimeout _ => true
  | .readerSettleEnd _ => true
  | .readerPowerUpAckTimeout _ => true
  | .readerPowerUpDelayEnd _ => true
  | .readerPowerDownAckTimeout _ => true
  | .readerPowerDownDelayEnd _ => true
  | .saleRecord r => saleRecordOk r
  | .timeoutVoidOrder v => timeoutVoidOk v
  | .storeReadTryEnd answer => storeAnswerOk answer
  | .storeWriteTryEnd acknowledged => acknowledged ≤ 10
  | .storeRetry => true
  | .voucherCounterReport counter => voucherMarkOk counter
  | .voucherCounterStart counter mark => voucherMarkOk counter && voucherMarkOk mark
  | .voucherMarkUpdate mark => voucherMarkOk mark
  | .voucherBaseSet base => 1 ≤ base && base ≤ 99999999
  | .issueOrder o => issueOrderOk o
  | .redeem _ code => codeOk code
  | .check _ code => codeOk code
  | .printOrder _ items => printItemsOk items
  | .printed _ _ => true
  | .failed _ _ => true
  | .printerStatus _ _ => true
  | .visitStart _ => true
  | .roundIdleEnd _ => true
  | .goodAnswer _ _ => true
  | .visitMiss _ => true
  | .dropOnlineSbu _ => true
  | .dropOnlineTdu _ => true
  | .dropOnlinePru _ => true
  | .dropOfflineTdu _ => true
  | .dropOfflinePru _ => true

end Sys2Proof
end

