-- ==== Sys2Proof/Safety.lean ====
section
/-! DEFINITION. The laws the spec says the blocks hold, as predicates on states. -/

namespace Sys2Proof.Machine

/-! ## What a command leaves unchanged -/

/-- The parts of State. -/
inductive Block where
  | sbu | fau | tdu | jnu | vcu | pru | klc | hlc | orders | priceAnswer | pending
  deriving DecidableEq, Repr

/-- Two states agree on one part. -/
def Block.same (s t : State) : Block → Prop
  | .sbu => t.sbu = s.sbu
  | .fau => t.fau = s.fau
  | .tdu => t.tdu = s.tdu
  | .jnu => t.jnu = s.jnu
  | .vcu => t.vcu = s.vcu
  | .pru => t.pru = s.pru
  | .klc => t.klc = s.klc
  | .hlc => t.hlc = s.hlc
  | .orders => t.orders = s.orders
  | .priceAnswer => t.priceAnswer = s.priceAnswer
  | .pending => t.pending = s.pending

/-- Every part but the listed ones is unchanged. -/
def keptBut (changed : List Block) (s t : State) : Prop := ∀ b, b ∉ changed → b.same s t

/-- Every basket but one drop's is unchanged. -/
def basketsKeptBut (d : Drop) (s t : State) : Prop := ∀ e, e ≠ d → t.basket e = s.basket e

/-- Every reader slot but one drop's is unchanged. -/
def readersKeptBut (d : Drop) (s t : State) : Prop := ∀ e, e ≠ d → t.reader e = s.reader e

/-- Every tender session but one drop's is unchanged. -/
def sessionsKeptBut (d : Drop) (s t : State) : Prop := ∀ e, e ≠ d → t.session e = s.session e

/-- Every printer record and queue but one drop's is unchanged. -/
def printersKeptBut (d : Drop) (s t : State) : Prop :=
  ∀ e, e ≠ d → t.printer e = s.printer e ∧ t.queue e = s.queue e

/-- Every drop record but one drop's is unchanged, and of that one only outbound slots may change. -/
def slotsKeptBut (d : Drop) (s t : State) : Prop :=
  (∀ e, e ≠ d → t.dropRec e = s.dropRec e)
    ∧ t.dropRec d = { s.dropRec d with slots := (t.dropRec d).slots }
    ∧ t.klc.lineA = s.klc.lineA ∧ t.klc.lineB = s.klc.lineB

/-- The rounds, visits and idle waits of the two kiosk lines are unchanged (R170). -/
def linesKept (s t : State) : Prop := t.klc.lineA = s.klc.lineA ∧ t.klc.lineB = s.klc.lineB

/-- What a drop's slot holds is a frame newly placed. -/
def State.waits (s : State) (d : Drop) (i : SlotId) (f : OutFrame) : Prop :=
  s.slot d i = some { frame := f, sent := false }

/-- Every screening but the one in a slot is unchanged. -/
def screeningsKeptBut (i : Fin 16) (s t : State) : Prop := ∀ j, j ≠ i → t.screening j = s.screening j

/-- The seats of a screening but those of a list are unchanged. -/
def seatsKeptBut (seats : List SeatAddr) (x y : Screening) : Prop := ∀ a, a ∉ seats → y.stateAt a = x.stateAt a

/-- A kiosk drop of a part that is READY. -/
def State.kioskReady (s : State) (d : Drop) : Prop := (s.dropRec d).kind = .kiosk ∧ s.hlc.partState = .ready

/-- A basket that takes a request of any serial, being IDLE, or of this one, being OPEN (R28). -/
def Basket.accepts (b : Basket) (serial : Nat) : Prop := b.state = .idle ∨ (b.state = .opened ∧ b.serial = serial)

/-! ## What requests and orders do, in words several statements share -/

/-- Of the HLC only pending conditions may change. -/
def hlcKept (s t : State) : Prop := t.hlc = { s.hlc with conditions := t.hlc.conditions }

/-- The drop, the serial, and whether it opens a basket or views one in TENDER, of a basket request (R28). -/
def basketGate : Instr → Option (Drop × Nat × Bool × Bool)
  | .select d (some r) => some (d, r.serial, true, false)
  | .best d (some r) => some (d, r.serial, true, false)
  | .snackAdd d (some r) => some (d, r.serial, true, false)
  | .undo d (some n) => some (d, n, false, false)
  | .voidLine d (some r) => some (d, r.serial, false, false)
  | .extend d (some n) => some (d, n, false, false)
  | .view d (some n) => some (d, n, false, true)
  | .clear d (some n) => some (d, n, false, false)
  | .tender d (some n) => some (d, n, false, false)
  | _ => none

/-- A READY part, a kiosk drop, and an OPEN basket of this serial (R28). -/
def State.openFor (s : State) (d : Drop) (serial : Nat) : Prop :=
  s.kioskReady d ∧ (s.basket d).state = .opened ∧ (s.basket d).serial = serial

/-- The reply that waits for a drop carries a code, the serial and the basket as they now stand, and a detail (R28). -/
def replied (d : Drop) (c : Code) (detail : ReplyDetail) (u : State) : Prop :=
  u.waits d .reply
    (.reply { code := c, serial := some (u.basket d).serial, basket := some (basketRecord (u.basket d) u.fau.generation)
              detail := detail })

/-- The basket push that waits for a drop carries a reason and the basket as it now stands (R36). -/
def pushed (d : Drop) (reason : PushReason) (u : State) : Prop :=
  u.waits d .pushBasket (.basketPush { reason := reason, basket := basketRecord (u.basket d) u.fau.generation })

/-- The frame of a command on one drop's basket: no other basket, no layout, no other drop's slots (R28). -/
def basketFrame (d : Drop) (s u : State) : Prop :=
  basketsKeptBut d s u ∧ slotsKeptBut d s u ∧ (∀ j, u.layout j = s.layout j) ∧ hlcKept s u
    ∧ keptBut [.sbu, .klc, .hlc, .orders] s u

/-- The frame of a command on one drop's session and reader slot. -/
def sessionFrame (d : Drop) (s u : State) : Prop :=
  sessionsKeptBut d s u ∧ readersKeptBut d s u ∧ slotsKeptBut d s u ∧ keptBut [.tdu, .klc, .hlc, .orders] s u

/-- The frame of a command on one drop's queue and printer. -/
def printerFrame (d : Drop) (s u : State) : Prop :=
  printersKeptBut d s u ∧ slotsKeptBut d s u ∧ hlcKept s u ∧ keptBut [.pru, .klc, .hlc, .orders] s u
    ∧ u.pru.printLater = s.pru.printLater ∧ u.pru.backlog = s.pru.backlog

/-- No number is in two screening slots (R7). -/
def State.numbersDistinct (s : State) : Prop :=
  ∀ (i j : Fin 16) (x y : Screening), s.screening i = some x → s.screening j = some y → x.number = y.number → i = j

/-- Whether a basket line is a SEAT line naming a seat of a screening. -/
def BasketLine.names (number : Nat) (a : SeatAddr) : BasketLine → Bool
  | .seat n b _ _ _ _ => n == number && b == a
  | _ => false

/-- The seats that lines name have a state, and every other seat of every screening is as it was. A CLOSING screening that a line
names a seat of is CLOSED when no seat of it is held, and CLOSING otherwise; no other screening's state changes (R13, R26, R47). -/
def seatsPut (lines : List BasketLine) (new : SeatState) (s u : State) : Prop :=
  ∀ (i : Fin 16),
    (s.screening i = none → u.screening i = none) ∧
    ∀ sc, s.screening i = some sc → ∃ y, u.screening i = some y ∧ y.number = sc.number ∧ y.layout = sc.layout ∧
      y.withdrawn = sc.withdrawn ∧
      (sc.state = .closing → lines.any (BasketLine.inScreening sc.number) = true →
        y.state = if y.counts.held = 0 then .closed else .closing) ∧
      (sc.state ≠ .closing ∨ lines.any (BasketLine.inScreening sc.number) = false → y.state = sc.state) ∧
      ∀ a, y.stateAt a =
        if lines.any (BasketLine.names sc.number a) then (sc.stateAt a).map (fun _ => new) else sc.stateAt a

/-- A basket has new lines: the totals are those of its lines, FLOOR is set when they met it and stays set, the bound screening goes with
the last SEAT line, and nothing else of it changes; a basket left with no line is cleared (R26, R27, R78). -/
def linesNow (kept : List BasketLine) (f : Fau) (b c : Basket) : Prop :=
  let totals := f.totals (kept.filterMap BasketLine.kept)
  ((∀ x ∈ kept, x = .void) → c = b.cleared) ∧
  ((∃ x ∈ kept, x ≠ .void) →
    c = { b with lines := kept, bound := if kept.any BasketLine.isSeat then b.bound else none, totals := totals.1
                 flags := { b.flags with floor := b.flags.floor || totals.2 } })

/-- What the FAU says of a line at the current prices: a SEAT line is priced by its screening's band, surcharge and start minute and
its own kind and concession, a SNACK line by the catalogue; a VOID line is not priced (R37). -/
def State.linePrice (s : State) (o : LineOutcome) : BasketLine → Prop
  | .seat n _ k c _ _ => ∃ i sc, s.findScreening n = some (i, sc) ∧ s.fau.priceSeat (seatQueryOf sc k c) = o
  | .snack item _ _ => s.fau.priceSnack item = o
  | .void => False

/-- A line with another amount and generation. -/
def BasketLine.priced (amount generation : Nat) : BasketLine → BasketLine
  | .seat n a k c _ _ => .seat n a k c amount generation
  | .snack item _ _ => .snack item amount generation
  | .void => .void

/-- A basket priced whole, line by line: a line keeps its slot with its current price and the current generation, or is VOID when it is
refused; the flags that were set stay set, and those of the masked conditions met are set beside them; the totals are those of the
lines. A basket left with no line is cleared (R26, R27, R37, R76, R78). -/
def pricedWhole (b : Basket) (s : State) (c : Basket) : Prop :=
  ∃ ls : List BasketLine, ls.length = b.lines.length ∧
    (∀ (k : Nat) (l : BasketLine), b.lines[k]? = some l →
      (l = .void → ls[k]? = some .void) ∧
      (∀ m e n x, s.linePrice (.priced m e n x) l → ls[k]? = some (l.priced m s.fau.generation)) ∧
      (∀ code, s.linePrice (.refused code) l → ls[k]? = some .void)) ∧
    ((∀ l ∈ ls, l = .void) → c = { b.cleared with generation := s.fau.generation }) ∧
    ((∃ l ∈ ls, l ≠ .void) →
      c = { b with lines := ls, generation := s.fau.generation
                   bound := if ls.any BasketLine.isSeat then b.bound else none
                   totals := (s.fau.totals (ls.filterMap BasketLine.kept)).1, flags := c.flags } ∧
      (c.flags.inexact = true ↔ b.flags.inexact = true ∨ ∃ l ∈ b.lines, ∃ m n x, s.linePrice (.priced m true n x) l) ∧
      (c.flags.noFare = true ↔ b.flags.noFare = true ∨ ∃ l ∈ b.lines, ∃ m e x, s.linePrice (.priced m e true x) l) ∧
      (c.flags.ceiling = true ↔ b.flags.ceiling = true ∨ ∃ l ∈ b.lines, ∃ m e n, s.linePrice (.priced m e n true) l) ∧
      (c.flags.floor = true ↔ b.flags.floor = true ∨ (s.fau.totals (ls.filterMap BasketLine.kept)).2 = true))

/-- The seats of the lines that whole pricing refuses are FREE, and every other seat is as it was (R26, R37). -/
def refusedFreed (b : Basket) (s u : State) : Prop :=
  ∃ gone : List BasketLine, (∀ l, l ∈ gone ↔ l ∈ b.lines ∧ ∃ code, s.linePrice (.refused code) l) ∧ seatsPut gone .free s u

/-- What checks 3 to 10 of SELECT ask of seats with their concessions: an ON_SALE screening, the bound one or none, room in the
basket, FREE seats, the two seat rules, and a price for each (R29, R53, R61). -/
def State.holdable (s : State) (d : Drop) (sc : Screening) (l : List (SeatAddr × Concession)) : Prop :=
  sc.state = .onSale ∧ ((s.basket d).bound = none ∨ (s.basket d).bound = some sc.number) ∧
  (s.basket d).lines.length + l.length ≤ 10 ∧ (s.basket d).seatCount + l.length ≤ 8 ∧
  (∀ x ∈ l, (s.layout sc.layout).seatExists x.1 = true ∧ sc.stateAt x.1 = some .free) ∧
  companionDenial (s.layout sc.layout) ((s.basket d).seatAddrs ++ l.map (·.1)) (l.map (·.1)) = none ∧
  loneSeatDenial (s.layout sc.layout) sc (l.map (·.1)) = none ∧
  ∀ x ∈ l, ∀ k, (s.layout sc.layout).seatKind x.1 = some k →
    ∀ c, s.fau.priceSeat (seatQueryOf sc k x.2) ≠ .refused c

/-- What the FAU says of a seat of a screening with its concession (R29, R61). -/
def State.seatPrice (s : State) (sc : Screening) (x : SeatAddr × Concession) (o : LineOutcome) : Prop :=
  ∃ k, (s.layout sc.layout).seatKind x.1 = some k ∧ s.fau.priceSeat (seatQueryOf sc k x.2) = o

/-- Seats with their concessions are HELD for a drop from the top of its stack on: each seat line carries its price, the basket is
OPEN with a full countdown, at the current generation when it was IDLE and with its own when it was OPEN, the masked conditions met are
added to its flags, and every other seat is as it was (R24, R27, R29, R76). -/
def heldNow (d : Drop) (i : Fin 16) (sc : Screening) (l : List (SeatAddr × Concession)) (s u : State) : Prop :=
  (u.basket d).state = .opened ∧
  (u.basket d).serial = (if (s.basket d).state = .idle then nextSerial (s.basket d).serial else (s.basket d).serial) ∧
  (u.basket d).bound = some sc.number ∧ (u.basket d).countdown = s.hlc.hold ∧ (u.basket d).warned = false ∧
  (u.basket d).extensions = (s.basket d).extensions ∧ (u.basket d).attempts = (s.basket d).attempts ∧
  (u.basket d).generation = (if (s.basket d).state = .idle then s.fau.generation else (s.basket d).generation) ∧
  (u.basket d).frozen = none ∧ (u.basket d).saved = none ∧
  ((u.basket d).flags.inexact = true ↔ (s.basket d).flags.inexact = true ∨ ∃ x ∈ l, ∃ m n c, s.seatPrice sc x (.priced m true n c)) ∧
  ((u.basket d).flags.noFare = true ↔ (s.basket d).flags.noFare = true ∨ ∃ x ∈ l, ∃ m e c, s.seatPrice sc x (.priced m e true c)) ∧
  ((u.basket d).flags.ceiling = true ↔ (s.basket d).flags.ceiling = true ∨ ∃ x ∈ l, ∃ m e n, s.seatPrice sc x (.priced m e n true)) ∧
  ((u.basket d).flags.floor = true ↔
    (s.basket d).flags.floor = true ∨ (s.fau.totals ((u.basket d).lines.filterMap BasketLine.kept)).2 = true) ∧
  (u.basket d).lines.length = (s.basket d).lines.length + l.length ∧
  (∀ k, k < (s.basket d).lines.length → (u.basket d).lines[k]? = (s.basket d).lines[k]?) ∧
  (∀ k x, l[k]? = some x → ∃ kind amount e n c, (s.layout sc.layout).seatKind x.1 = some kind ∧
    s.fau.priceSeat (seatQueryOf sc kind x.2) = .priced amount e n c ∧
    (u.basket d).lines[(s.basket d).lines.length + k]? = some (.seat sc.number x.1 kind x.2 amount s.fau.generation)) ∧
  (u.basket d).totals = (s.fau.totals ((u.basket d).lines.filterMap BasketLine.kept)).1 ∧
  screeningsKeptBut i s u ∧
  ∃ y, u.screening i = some y ∧ y = { sc with counts := y.counts, seats := y.seats } ∧
    (∀ k x, l[k]? = some x → y.stateAt x.1 = some (.held d ((s.basket d).lines.length + k))) ∧
    seatsKeptBut (l.map (·.1)) sc y

/-- The screenings of some slots have entered CLOSING, and each is CLOSED when no seat of it is held any more. Every OPEN basket with SEAT
lines of one of them has its SEAT lines VOID and their seats FREE, and nothing else of it is changed by that; it is pushed
SCREENING_CLOSED, being priced whole before the push when it is still OPEN with an old generation. No other seat, screening or basket
changes (R12, R13, R37). -/
def screeningsClosed (due : Fin 16 → Prop) (s u : State) : Prop :=
  (∀ i, s.screening i = none → u.screening i = none) ∧
  (∀ i sc, s.screening i = some sc → ¬ due i → u.screening i = some sc) ∧
  (∀ i sc, s.screening i = some sc → due i → ∃ y, u.screening i = some y ∧
    y = { sc with state := if y.counts.held = 0 then .closed else .closing, counts := y.counts, seats := y.seats } ∧
    ∀ a,
      ((∃ d, (s.basket d).state = .opened ∧ (s.basket d).lines.any (BasketLine.names sc.number a) = true) →
        y.stateAt a = (sc.stateAt a).map fun _ => .free) ∧
      ((∀ d, (s.basket d).state = .opened → (s.basket d).lines.any (BasketLine.names sc.number a) = false) →
        y.stateAt a = sc.stateAt a)) ∧
  (∀ j, u.layout j = s.layout j) ∧
  ∀ d,
    let hit := (s.basket d).state = .opened ∧
      ∃ i sc, due i ∧ s.screening i = some sc ∧ (s.basket d).lines.any (BasketLine.inScreening sc.number) = true
    (¬ hit → u.basket d = s.basket d ∧ u.dropRec d = s.dropRec d) ∧
    (hit → pushed d .screeningClosed u ∧
      u.dropRec d = { s.dropRec d with slots := (u.dropRec d).slots } ∧ (∀ j, j ≠ .pushBasket → u.slot d j = s.slot d j) ∧
      ∃ c : Basket, linesNow ((s.basket d).lines.map fun l => if l.isSeat then .void else l) s.fau (s.basket d) c ∧
        (c.state = .opened → c.generation ≠ s.fau.generation → pricedWhole c s (u.basket d)) ∧
        (c.state ≠ .opened ∨ c.generation = s.fau.generation → u.basket d = c))

/-- A session has ended: it is this one, orders were sent, the outcome is pushed, the authorisation notice is withdrawn, and a READY
reader slot gets the off command (R89, R98, R99). -/
def sessionOver (d : Drop) (c : Instr) (x : Session) (o : TenderOutcome) (sent : List Instr) (s u : State) : Prop :=
  u.session d = x ∧ u.orders = s.orders.erase c ++ sent ∧
  u.waits d .pushTender (.tenderPush (endedPush (s.session d) o)) ∧
  ((s.reader d).state = .ready → u.reader d = (s.reader d).toPowerDown ∧ u.waits d .reader (.reader .off)) ∧
  ((s.reader d).state ≠ .ready → u.reader d = s.reader d ∧ u.slot d .reader = s.slot d .reader ∧
    u.slot d .pushSlot = s.slot d .pushSlot) ∧
  u.hlc = { s.hlc with conditions := s.hlc.conditions.put (.auth d) false } ∧ sessionFrame d s u

/-! ## Journal, vouchers, queues and link (R113, R114, R131, R133, R149, R179, R181, R183) -/

/-- The law of the journal: records and reservations are at most 64, and no sale number is in two records (R113, R114). -/
def State.journalLaw (s : State) : Prop := s.jnu.places ≤ 64 ∧ (s.jnu.journal.map recordSale).Nodup

/-- The law of the voucher table: used and reserved entries are at most 1,024, and no serial is in two entries (R131, R133). -/
def State.voucherLaw (s : State) : Prop := s.vcu.places ≤ 1024 ∧ (s.vcu.used.map (·.serial)).Nodup

/-- The law of the queues: items and reserved slots of a drop are at most 16 (R149). -/
def State.queueLaw (s : State) : Prop := ∀ d : Drop, s.queuePlaces d ≤ 16

/-- The bounds of the host link: at most 4 replies wait, the receive buffer holds at most 2,048 bytes, the discard count is at
most 65,535 and every level is 0 to 3 or OFF (R179, R181, R183). -/
def State.linkLaw (s : State) : Prop :=
  s.hlc.replies.length ≤ 4 ∧ s.hlc.occupancy ≤ 2048 ∧ s.hlc.discards ≤ 65535 ∧ levelsOk s.hlc.levels = true

/-! ## Baskets (R23, R25, R27) -/

/-- The screening that a SEAT line names. -/
def BasketLine.screening : BasketLine → Option Nat
  | .seat n _ _ _ _ _ => some n
  | _ => none

/-- The law of one basket: an IDLE basket is cleared; any other holds a non-void line, at most ten lines, at most eight SEAT
lines and at most eight SNACK lines; every SEAT line names the bound screening, and with no SEAT line there is none; the frozen amount
and the saved countdown are present in TENDER alone (R23, R25 to R27). -/
def Basket.lawful (b : Basket) : Prop :=
  (b.state = .idle → b = b.cleared) ∧ (b.state ≠ .idle → b.hasLine = true)
    ∧ b.lines.length ≤ 10 ∧ b.seatCount ≤ 8 ∧ b.snackCount ≤ 8
    ∧ (∀ l ∈ b.lines, l.isSeat = true → l.screening = b.bound)
    ∧ (b.lines.any BasketLine.isSeat = false → b.bound = none)
    ∧ (b.frozen.isSome = true ↔ b.state = .tender) ∧ (b.saved.isSome = true ↔ b.state = .tender)

/-- Every basket is lawful. -/
def State.basketLaw (s : State) : Prop := ∀ d : Drop, (s.basket d).lawful

/-! ## Seats (R1, R2, R16, R26) -/

/-- How many records of a screening pass a test. -/
def Screening.countOf (sc : Screening) (p : SeatState → Bool) : Nat := (sc.seats.filter fun r => p r.state).length

/-- Whether a seat is HELD. -/
def SeatState.isHeld : SeatState → Bool
  | .held _ _ => true
  | _ => false

/-- The counts of a screening are those of its records, one record a seat (R15, R16). -/
def Screening.counted (sc : Screening) : Prop :=
  (sc.seats.map (·.addr)).Nodup ∧ sc.counts.free = sc.countOf (· == .free)
    ∧ sc.counts.held = sc.countOf SeatState.isHeld ∧ sc.counts.sold = sc.countOf SeatState.isSold
    ∧ sc.counts.blocked = sc.countOf (· == .blocked)

/-- The law of the counts: a READY layout's sellable count is that of its positions, a screening's records are the seats of its
READY layout, and its counts are those of its records (R2, R5, R15, R16). -/
def State.seatLaw (s : State) : Prop :=
  (∀ i : Fin 8, (s.layout i).state = .ready → (s.layout i).sellable = some (s.layout i).countSeats) ∧
  ∀ (i : Fin 16) (sc : Screening), s.screening i = some sc →
    sc.counted ∧ (s.layout sc.layout).state = .ready ∧ sc.seats.map (·.addr) = (s.layout sc.layout).seatAddrs

/-- The law of holds: a seat of a screening is HELD by a drop with a line slot exactly when the basket of that drop is OPEN or in
TENDER and that slot of its stack is a SEAT line naming the seat (R15, R26). Beside it stand what keeps it: no number is in two
slots, and a screening that is LOADED or CLOSED has no HELD seat. -/
def State.holdLaw (s : State) : Prop :=
  s.numbersDistinct ∧
  (∀ (i : Fin 16) (sc : Screening), s.screening i = some sc → sc.state = .loaded ∨ sc.state = .closed →
    ∀ r ∈ sc.seats, r.state.isHeld = false) ∧
  (∀ (i : Fin 16) (sc : Screening) (a : SeatAddr) (d : Drop) (k : Nat), s.screening i = some sc →
    sc.stateAt a = some (.held d k) → ∃ l, (s.basket d).lines[k]? = some l ∧ l.names sc.number a = true) ∧
  (∀ (d : Drop) (k number : Nat) (a : SeatAddr) (l : BasketLine), (s.basket d).lines[k]? = some l →
    l.names number a = true → ∃ i sc, s.screening i = some sc ∧ sc.number = number ∧ sc.stateAt a = some (.held d k))

/-! ## Reader slots and drops (R83, R165, R170) -/

/-- The law of one reader slot, state by state: the command outstanding, the timer, and what an EMPTY slot holds (R83 to R90). -/
def ReaderSlot.lawful (r : ReaderSlot) : Prop :=
  match r.state with
  | .empty =>
    r.outstanding = .none ∧ r.timer = none ∧ r.cardClass = none ∧ r.supply = none ∧ r.spent = false
      ∧ r.removalPending = false ∧ r.badSupply = false
  | .partialIn => r.outstanding = .none ∧ (r.timer = none ∨ r.timer = some { purpose := .partialIn, ms := 2000 })
  | .settling => r.outstanding = .none ∧ r.timer = some { purpose := .settle, ms := 100 }
  | .poweringUp =>
    (r.outstanding = .on ∧ r.timer = some { purpose := .acknowledge, ms := 500 })
      ∨ (r.outstanding = .none ∧ r.timer = some { purpose := .delay, ms := 40 })
  | .poweringDown =>
    (r.outstanding = .off ∧ r.timer = some { purpose := .acknowledge, ms := 500 })
      ∨ (r.outstanding = .none ∧ r.timer = some { purpose := .delay, ms := 40 })
  | .classified => r.outstanding = .none ∧ r.timer = none
  | .ready => r.outstanding = .none ∧ r.timer = none
  | .unsupported => r.outstanding = .none ∧ r.timer = none
  | .fault => r.outstanding = .none ∧ r.timer = none

/-- Every reader slot is lawful. -/
def State.readerLaw (s : State) : Prop := ∀ d : Drop, (s.reader d).lawful

/-- The law of the drops: at most three misses, and three only in OFFLINE; a visit whose answer counts is to a drop of its own line
that is not UNUSED (R165, R170, R175, R177). -/
def State.dropLaw (s : State) : Prop :=
  (∀ d : Drop, (s.dropRec d).misses ≤ 3 ∧ ((s.dropRec d).misses = 3 → (s.dropRec d).state = .offline)) ∧
  ∀ (l : LineId) (v : Visit), (s.line l).visit = some v →
    dropLine v.drop = l ∧ (v.discard = false → (s.dropRec v.drop).state ≠ .unused)

/-- The rounds of a line are 0 to 7, and of a round at most eight addresses are taken (R170). -/
def KioskLine.lawful (k : KioskLine) : Prop := k.round ≤ 7 ∧ k.next ≤ 8

def State.lineLaw (s : State) : Prop := s.klc.lineA.lawful ∧ s.klc.lineB.lawful

/-! ## RESTART (R190) -/

/-- Whether a command resets the whole part as a RESTART does: RESTART itself, or the taking of its frame (R190). -/
def State.restartsBy (s : State) (i : Instr) : Prop :=
  (∃ h, i = .restart h) ∨
  i = .hostRequestTake ∧ s.hlc.handling = none ∧ s.hlc.replies.length < 4 ∧
    ∃ f rest, s.hlc.frames = f :: rest ∧ f.kind = restartKind ∧ f.body = []

/-! ## The transmitter (R184) -/

/-- The place of a condition among those of equal level: AUTH_REQUEST by drop, then the kinds in the order R184 gives them. -/
def Condition.rank : Condition → Nat
  | .auth d => d.val
  | .journal => 16
  | .dropState => 17
  | .printer => 18
  | .screening => 19
  | .store => 20
  | .linkError => 21

/-- The link is idle only when nothing is due: no reply waits and no raised condition has a level (R184). -/
def State.transmitLaw (s : State) : Prop := s.hlc.tx = none → s.hlc.replies = [] ∧ highest s.hlc.due = none

end Sys2Proof.Machine
end

