-- ==== Sys2Proof/Certificates/Slice0/Obligations.lean ====
section
/-! DEFINITION. The statements for the provers. A command whose end may hand the idle link its next frame answers a state under
`State.transmit`; what that does is `Obligations.TransmitterChoosesNextFrame`. -/

open Sys2Proof Sys2Proof.Machine

/-! ## The step and the laws of the blocks -/

/-- The step runs the command at the front of the queue on the queue's rest; on an empty queue it delivers the oldest order on
its way, or idles (the model's choice, notes/assumptions/1.md). -/
def Obligations.StepRunsTheFrontCommand : Prop :=
  (∀ (c : Instr) (rest : List Instr) (s : State), s.pending = c :: rest → step s = exec c { s with pending := rest }) ∧
  (∀ (c : Instr) (rest : List Instr) (s : State), s.pending = [] → s.orders = c :: rest → step s = exec c s) ∧
  (∀ s : State, s.pending = [] → s.orders = [] → step s = .next s)

/-- Every command, with any operands, in any state, answers a next state and leaves the queue alone. -/
def Obligations.EveryCommandAnswersNextAndKeepsTheQueue : Prop :=
  ∀ (i : Instr) (s : State), ∃ t : State, exec i s = .next t ∧ t.pending = s.pending

/-- Every law holds of the part right after power-on. The straps of State.reset are the model's choice
(notes/assumptions/10.md). -/
def Obligations.LawsHoldAtReset : Prop :=
  State.reset.journalLaw ∧ State.reset.voucherLaw ∧ State.reset.queueLaw ∧ State.reset.linkLaw ∧ State.reset.basketLaw
    ∧ State.reset.seatLaw ∧ State.reset.holdLaw ∧ State.reset.readerLaw ∧ State.reset.dropLaw ∧ State.reset.lineLaw
    ∧ State.reset.transmitLaw

/-- The laws of the journal, of the voucher table and of the print queues are kept by every step (R113, R114, R131, R133,
R149). -/
def Obligations.StepKeepsTableLaws : Prop :=
  (∀ s t : State, s.journalLaw → step s = .next t → t.journalLaw) ∧
  (∀ s t : State, s.voucherLaw → step s = .next t → t.voucherLaw) ∧
  (∀ s t : State, s.queueLaw → step s = .next t → t.queueLaw)

/-- The bounds of the host link are kept by every step, and the link is never idle while a frame is due (R179, R181, R183,
R184). -/
def Obligations.StepKeepsLinkLaws : Prop :=
  (∀ s t : State, s.linkLaw → step s = .next t → t.linkLaw) ∧
  (∀ s t : State, s.transmitLaw → step s = .next t → t.transmitLaw)

/-- The law of the line stack, that of the bound screening among it, and those of IDLE and TENDER baskets are kept by every step (R23,
R25 to R27). -/
def Obligations.StepKeepsBasketLaw : Prop := ∀ s t : State, s.basketLaw → step s = .next t → t.basketLaw

/-- The law of the counts is kept by every step, and with it and the law of baskets the law of holds: no seat is held for a
basket without its line, and no line is without its seat (R16, R26). -/
def Obligations.StepKeepsSeatAndHoldLaws : Prop :=
  (∀ s t : State, s.seatLaw → step s = .next t → t.seatLaw) ∧
  (∀ s t : State, s.basketLaw → s.seatLaw → s.holdLaw → step s = .next t → t.holdLaw)

/-- The law of the reader slots, and the laws of drop records, visits and rounds, are kept by every step (R83 to R90, R165,
R170, R175, R177). -/
def Obligations.StepKeepsReaderAndDropLaws : Prop :=
  (∀ s t : State, s.readerLaw → step s = .next t → t.readerLaw) ∧
  (∀ s t : State, s.dropLaw → s.lineLaw → step s = .next t → t.dropLaw ∧ t.lineLaw)

/-- A reader slot in POWERING_UP or READY is left powering up, READY or POWERING_DOWN by every command but the loss of its drop, a
reset or a change of kind, so it reaches EMPTY only through POWERING_DOWN (R90). -/
def Obligations.ReaderEmptiesOnlyThroughPowerDown : Prop :=
  ∀ (i : Instr) (s t : State) (d : Drop), exec i s = .next t →
    (s.reader d).state = .poweringUp ∨ (s.reader d).state = .ready → i ≠ .dropOfflineTdu d →
    (∀ k, i ≠ .dropKindChangeTdu d k) → (∀ h, i ≠ .dropReset h (some d.val)) → ¬ s.restartsBy i →
    (∀ x, i ≠ .powerOnReset x) → (∀ x, i ≠ .pinReset x) →
    (t.reader d).state = .poweringUp ∨ (t.reader d).state = .ready ∨ (t.reader d).state = .poweringDown

/-- A REDEEMED or VOID voucher stays as it is under every command that leaves its entry there (R141), and no command takes an entry away
but the resets and the sweep: at a second that begins a minute and at a SET_CLOCK, of an entry past its retention (R132, R146, R147). -/
def Obligations.ServedOrVoidVoucherStaysAsItIs : Prop :=
  (∀ (i : Instr) (s t : State) (e : VoucherEntry), s.voucherLaw → exec i s = .next t → e ∈ s.vcu.used →
    e.state ≠ .issued → ∀ f ∈ t.vcu.used, f.serial = e.serial → f = e) ∧
  (∀ (i : Instr) (s t : State) (e : VoucherEntry), exec i s = .next t → e ∈ s.vcu.used →
    (∀ f ∈ t.vcu.used, f.serial ≠ e.serial) →
    (∃ x, i = .powerOnReset x) ∨ (∃ x, i = .pinReset x) ∨ s.restartsBy i ∨
      (i = .clockSecond ∧ siteSeconds t.hlc.clock = siteSeconds s.hlc.clock + 1 ∧ t.hlc.clock.second % 60 = 0 ∨
        ∃ h, i = .setClock h (some t.hlc.clock)) ∧
      s.vcu.retention * 60 < siteSeconds t.hlc.clock - siteSeconds e.validUntil)

/-! ## Encodings -/

/-- A host frame written in the layout of R194 and read from the receive buffer is the frame it was made from; marks in range
written as a counter store record are read back (R122, R123, R194, R200). -/
def Obligations.FrameAndRecordRoundTrips : Prop :=
  (∀ (tag : BitVec 16) (kind : Byte) (body : List Byte) (fuel : Nat), body.length ≤ 1024 →
     scanHost (fuel + 1) (hostFrameBytes tag kind.toNat body) = ([{ tag := tag, kind := kind, body := body }], [], 0)) ∧
  (∀ m : Marks, marksInRange m = true → readMarks (storeRecordBytes m) = some m)

/-- The printed code of every serial is well-formed, spells the serial, leaves the remainder 1 when divided by 97, and has
check digits between 02 and 98 (R138). -/
def Obligations.VoucherCodeOfSerial : Prop :=
  ∀ n : Nat, n ≤ 99999999 →
    wellFormedCode ((voucherCode n).map (· + 48)) = true ∧
    digitsValue (((voucherCode n).map (· + 48)).take 8) = n ∧
    digitsValue ((voucherCode n).map (· + 48)) % 97 = 1 ∧ 2 ≤ checkDigits n ∧ checkDigits n ≤ 98

/-! ## Resets -/

/-- What power-on and pin reset leave in each block, with these straps (R22, R23, R51, R68, R81, R83, R93, R113, R114, R121, R122,
R132, R147, R149, R153, R162, R165, R170, R181 to R183, R185, R187, R188, R200). That orders on their way are lost is the model's choice
(notes/assumptions/11.md). -/
def Obligations.PowerOnAndPinReset : Prop :=
  ∀ (st : Straps) (s : State), ∃ t : State, exec (.powerOnReset st) s = .next t ∧ exec (.pinReset st) s = .next t ∧
    (∀ i, (t.layout i).state = .empty ∧ (t.layout i).rows = []) ∧ (∀ i, t.screening i = none) ∧
    (∀ d, t.basket d = { serial := 0, state := .idle, bound := none, lines := [], countdown := 0, warned := false, extensions := 0
                         attempts := 0, flags := noFlags, generation := 0, totals := noTotals, frozen := none, saved := none }) ∧
    (∀ b n, vget (vget t.fau.tariff b) n = none) ∧ (∀ k, vget t.fau.dayparts k = none) ∧ (∀ k, vget t.fau.overlays k = none) ∧
    (∀ k, vget t.fau.catalogue k = { valid := none, minutes := 30 }) ∧ t.fau.generation = 0 ∧
    t.fau.settings = { rounding := .nearestEven, noFareMasked := true, ceilingMasked := true, lineCeiling := 50000
                       houseFare := 1000, rebate := 0, seatTax := 0, snackTax := 0 } ∧
    (∀ d, t.reader d = { state := .empty, contacts := allOpen, cardClass := none, supply := none, outstanding := .none
                         spent := false, removalPending := false, dataLost := false, badSupply := false, timer := none }) ∧
    (∀ d, t.session d = { state := .idle, reference := 0, start := none, attempt := none, phase := none, journalGrant := none
                          voucherGrant := none, printGrant := none, token := none, cardWait := none, authWait := none
                          lastTimedOut := 0 }) ∧
    t.jnu = { journal := [], reservations := [], saleCounter := none
              store := { mode := if st.store then .guarding else .absent, op := if st.store then .reading else .idle
                         written := none, writing := none, tries := if st.store then some 1 else none, pendingNeed := false
                         voucherCounter := none, failure := none, bus := if st.store then some (.read 0 10) else none } } ∧
    t.vcu = { used := [], reservations := [], counter := none, guardMark := none, guardOn := false, retention := 120 } ∧
    (∀ d, t.queue d = [] ∧ t.printer d = { state := .offline, paperLow := false, retries := 0, headSent := false }) ∧
    t.pru.reservations = [] ∧ t.pru.printLater = false ∧ t.pru.backlog = 8 ∧
    (∀ d, t.dropRec d = { kind := .none, supply := .only3V, state := .unused, misses := 0, outToggle := false, inToggle := none
                          inDoubt := none, requestOutstanding := false, busyDue := none, holdOff := false
                          slots := Vector.replicate 6 none }) ∧
    (∀ l, t.line l = { round := 0, next := 0, idle := false, visit := none }) ∧
    t.hlc.frames = [] ∧ t.hlc.bytes = [] ∧ t.hlc.handling = none ∧ t.hlc.replies = [] ∧ t.hlc.tx = none ∧
    (∀ c, t.hlc.conditions.raised c = false) ∧
    t.hlc.levels = { authRequest := .value 3, journal := .value 2, dropState := .value 1, printer := .value 1
                     screening := .value 1, store := .value 1, linkError := .value 1 } ∧
    t.hlc.discards = 0 ∧ t.hlc.clock = { day := 0, second := 0 } ∧ t.hlc.hold = 240 ∧ t.hlc.cardWait = 60 ∧
    t.hlc.authTimeout = 45 ∧ t.hlc.straps = st ∧ t.hlc.partState = (if st.store then .starting else .needCounters) ∧
    t.orders = [] ∧ t.priceAnswer = none ∧ t.pending = s.pending

/-- RESTART always answers a next state. It resets every block as power-on does, but does not latch the straps and keeps the counters, the store controller, the guard
mark and flag, and every drop's kind and supply; of the orders on their way only the four named kinds stay, and its reply is first (R22,
R51, R81, R83, R93, R113, R114, R130, R132, R147, R149, R153, R162, R165, R170, R181 to R183, R187, R190). That every other order is
lost, that the orders kept are delivered later, and that the round begins anew at its first address are the model's choices
(notes/assumptions/11.md, 30.md). -/
def Obligations.RestartKeepsCountersAndKinds : Prop :=
  ∀ (h : HostTag) (st : Straps) (s : State), ∃ z t : State,
    exec (.restart h) s = .next t.transmit ∧ exec (.powerOnReset st) s = .next z ∧
    t.sbu = z.sbu ∧ t.fau = z.fau ∧ t.tdu = z.tdu ∧ t.pru = z.pru ∧ t.priceAnswer = none ∧
    t.jnu = { s.jnu with journal := [], reservations := [] } ∧
    t.vcu = { s.vcu with used := [], reservations := [], retention := 120 } ∧
    (∀ d, t.dropRec d = { z.dropRec d with kind := (s.dropRec d).kind, supply := (s.dropRec d).supply
                                           state := (t.dropRec d).state } ∧
      ((s.dropRec d).state ≠ .unused → (t.dropRec d).state = .probing) ∧
      ((s.dropRec d).state = .unused → (t.dropRec d).state = .unused)) ∧
    (∀ l, t.line l = { round := 0, next := 0, idle := false
                       visit := (s.line l).visit.map fun v => { v with discard := true } }) ∧
    t.hlc = { z.hlc with replies := [{ request := h, code := .ok, data := .partState t.hlc.partState }], tx := s.hlc.tx
                         straps := s.hlc.straps, partState := t.hlc.partState } ∧
    (s.hlc.partState = .starting → t.hlc.partState = .starting) ∧
    (s.hlc.partState ≠ .starting → t.hlc.partState = if s.jnu.saleCounter.isSome then .ready else .needCounters) ∧
    (∀ c ∈ t.orders, (c ∈ s.orders ∧ outlastsRestart c = true) ∨
      ∃ w, s.jnu.store.written = some w ∧ c = .voucherMarkUpdate w.voucher) ∧
    (∀ c ∈ s.orders, outlastsRestart c = true → c ∈ t.orders) ∧
    (∀ w, s.jnu.store.written = some w → .voucherMarkUpdate w.voucher ∈ t.orders) ∧
    (∀ c, outlastsRestart c = true ↔ (∃ r, c = .saleRecord r) ∨ (∃ v, c = .timeoutVoidOrder v) ∨ (∃ o, c = .issueOrder o) ∨
      ∃ d items, c = .printOrder d items) ∧
    t.pending = s.pending

/-- DROP_RESET of an enabled drop: refused IN_TENDER with no block acting while its session is AUTH_PENDING or COMMITTING. Otherwise
the session is IDLE, its grants returned and its end pushed; the slot is EMPTY, a card under power being sent the off command and a
changed state pushed; the seats of the basket's lines are FREE, a CLOSING screening is tested, the basket is IDLE with its serial and
pushed RESET, and one in TENDER sends the release; the printer is OFFLINE with its queue; the drop is PROBING with its toggles reset and
its kind, supply and other slots as they were; DROP_STATE is raised, and every other drop is untouched. An index above 15 and a drop of a
line that is not enabled are BAD_VALUE (R13, R26, R51, R92, R110, R163, R177, R191). The outcome CANCELLED of the ended session and
what the push at IDLE carries are the model's choices (notes/assumptions/17.md, 18.md). -/
def Obligations.DropResetActsOnOneDropOrRefuses : Prop :=
  (∀ (h : HostTag) (d : Drop) (s : State), s.hlc.partState = .ready → s.dropEnabled d.val = true →
    let c := Instr.dropReset h (some d.val)
    ((s.session d).state = .authPending ∨ (s.session d).state = .committing →
      exec c s = .next (((s.accept c).replyHost h .inTender .none).transmit)) ∧
    ((s.session d).state ≠ .authPending → (s.session d).state ≠ .committing →
      ∃ u : State, exec c s = .next ((u.replyHost h .ok .none).transmit) ∧
        (let released := if (s.basket d).state = .tender then [Instr.release d (s.basket d).serial] else []
         ((s.session d).state = .idle → u.session d = s.session d ∧ u.orders = s.orders.erase c ++ released ∧
           u.slot d .pushTender = s.slot d .pushTender) ∧
         ((s.session d).state ≠ .idle → u.session d = (s.session d).ended ∧
           u.orders = s.orders.erase c ++ s.allReturns d ++ released ∧
           u.waits d .pushTender (.tenderPush (endedPush (s.session d) .cancelled)))) ∧
        (u.session d).state = .idle ∧ (u.session d).reference = (s.session d).reference ∧
        (u.session d).lastTimedOut = (s.session d).lastTimedOut ∧
        u.reader d = ReaderSlot.reset ∧
        ((s.reader d).state.powered = true → u.waits d .reader (.reader .off)) ∧
        ((s.reader d).state.powered = false → u.slot d .reader = s.slot d .reader) ∧
        ((s.reader d).state ≠ .empty → u.waits d .pushSlot (.slotPush (slotPushOf (u.reader d) .change))) ∧
        ((s.reader d).state = .empty → u.slot d .pushSlot = s.slot d .pushSlot) ∧
        ((s.basket d).state ≠ .idle → u.basket d = (s.basket d).cleared ∧ pushed d .reset u ∧
          (s.numbersDistinct → seatsPut (s.basket d).lines .free s u)) ∧
        ((s.basket d).state = .idle → u.basket d = s.basket d ∧ u.slot d .pushBasket = s.slot d .pushBasket ∧
          ∀ j, u.screening j = s.screening j) ∧
        (∀ j, u.layout j = s.layout j) ∧
        u.printer d = { s.printer d with state := .offline, paperLow := false, retries := 0 } ∧
        u.pru = { s.pru with printers := u.pru.printers } ∧ u.slot d .print = none ∧ u.slot d .reply = s.slot d .reply ∧
        u.dropRec d = { s.dropRec d with state := (s.dropRec d).state.probed, misses := 0, outToggle := false, inToggle := none
                                         inDoubt := none, requestOutstanding := false, busyDue := none, holdOff := false
                                         slots := (u.dropRec d).slots } ∧
        (∀ e, e ≠ d → u.dropRec e = s.dropRec e) ∧
        u.line (dropLine d) = { s.line (dropLine d) with
          visit := (s.line (dropLine d)).visit.map fun v => if v.drop = d then { v with discard := true } else v } ∧
        (∀ l, l ≠ dropLine d → u.line l = s.line l) ∧
        u.hlc.conditions.raised .dropState = true ∧ hlcKept s u ∧ basketsKeptBut d s u ∧ sessionsKeptBut d s u ∧
        readersKeptBut d s u ∧ printersKeptBut d s u ∧ keptBut [.sbu, .tdu, .pru, .klc, .hlc, .orders] s u)) ∧
  (∀ (h : HostTag) (n : Nat) (s : State), s.hlc.partState = .ready → s.dropEnabled n = false →
    exec (.dropReset h (some n)) s = .next (((s.accept (.dropReset h (some n))).replyHost h .badValue .none).transmit))

/-! ## The host link -/

/-- A byte from the host: lost when the buffer holds 2,048 bytes; otherwise the buffer is read as a stream of frames, and each
discard counts and raises LINK_ERROR (R179). -/
def Obligations.HostByteEntersTheBuffer : Prop :=
  ∀ (b : Byte) (s : State),
    (2048 ≤ s.hlc.occupancy → exec (.hostByteReceived b) s = .next s.transmit) ∧
    (s.hlc.occupancy < 2048 → ∃ t : State, exec (.hostByteReceived b) s = .next t.transmit ∧ keptBut [.hlc] s t ∧
      t.hlc.frames = s.hlc.frames ++ (scanHost (s.hlc.bytes.length + 2) (s.hlc.bytes ++ [b])).1 ∧
      t.hlc.bytes = (scanHost (s.hlc.bytes.length + 2) (s.hlc.bytes ++ [b])).2.1 ∧
      t.hlc.discards = min 65535 (s.hlc.discards + (scanHost (s.hlc.bytes.length + 2) (s.hlc.bytes ++ [b])).2.2) ∧
      (0 < (scanHost (s.hlc.bytes.length + 2) (s.hlc.bytes ++ [b])).2.2 → t.hlc.conditions.raised .linkError = true) ∧
      t.hlc.replies = s.hlc.replies ∧ t.hlc.handling = s.hlc.handling ∧ t.hlc.clock = s.hlc.clock)

/-- A request is taken, oldest first, when the last one is answered and the reply queue has room: the frame of a
RESTART resets the part in that step, as RESTART does, an unknown kind is answered BAD_REQUEST, a kind the part state does not allow is answered with that state,
STATUS is answered there and then with every value as it stands, any other goes to its owner (R180, R181, R188 to R190, R195). That
an unknown kind and a request, the HLC's own too, stand behind the older orders until they are answered, is the model's choice
(notes/assumptions/29.md), and that the refusal of a request of the FAU carries the generation is its reading
(notes/assumptions/45.md). -/
def Obligations.RequestsAreTakenAndRouted : Prop :=
  (∀ (f : HostFrame) (rest : List HostFrame) (s : State), s.hlc.frames = f :: rest → s.hlc.handling = none →
    s.hlc.replies.length < 4 →
    (f.kind = restartKind → f.body = [] →
      ∃ t : State, exec .hostRequestTake s = .next t ∧ exec (.restart f.echo) s = .next t ∧ t.hlc.frames = []) ∧
    (f.kind ≠ restartKind ∨ f.body ≠ [] → ∃ t : State, exec .hostRequestTake s = .next t.transmit ∧ keptBut [.hlc, .orders] s t ∧
      t.hlc.frames = rest ∧
      (f.kind = restartKind → f.body ≠ [] → t.orders = s.orders ++ [.unknownRequestKind f.echo]) ∧
      (f.kind ≠ restartKind → requestOf f.kind = none → t.orders = s.orders ++ [.unknownRequestKind f.echo]) ∧
      (f.kind ≠ restartKind → requestOf f.kind = some .status →
        t.orders = s.orders ∧ t.hlc.handling = none ∧
        (f.body = [] →
          t.hlc.replies = s.hlc.replies ++ [{ request := f.echo, code := .ok, data := .status s.statusReport }]) ∧
        (f.body ≠ [] → t.hlc.replies = s.hlc.replies ++ [{ request := f.echo, code := .badValue, data := .none }])) ∧
      (∀ q, f.kind ≠ restartKind → requestOf f.kind = some q → q ≠ .status → allowedIn q s.hlc.partState = true →
        t.orders = s.orders ++ [requestCommand f.echo f.body q] ∧ t.hlc.handling = some f.echo) ∧
      (∀ q, f.kind ≠ restartKind → requestOf f.kind = some q → allowedIn q s.hlc.partState = false →
        t.orders = s.orders ∧ t.hlc.handling = none ∧
        t.hlc.replies = s.hlc.replies ++ [{ request := f.echo, code := partStateCode s.hlc.partState, data := s.everyReply q }]))) ∧
  (∀ s : State, s.hlc.frames = [] ∨ s.hlc.handling ≠ none ∨ 4 ≤ s.hlc.replies.length →
    exec .hostRequestTake s = .next s.transmit) ∧
  (∀ (h : HostTag) (s : State), s.hlc.replies.length < 4 → ∃ t,
    exec (.unknownRequestKind h) s = .next t.transmit ∧ keptBut [.hlc, .orders] s t ∧
    t.hlc.replies = s.hlc.replies ++ [{ request := h, code := .badRequest, data := .none }])

/-- At the end of a frame the transmitter sends the reply at the head of the queue; with no reply, a raised condition whose
kind is not OFF and whose level no other such condition exceeds, the first such one in the order of R184 where levels are equal,
clearing it; else nothing (R182, R184). That an idle link chooses at the end of the command that makes a frame due, and the order in which
a notice lists screenings and drops, are the model's choices (notes/assumptions/28.md, 55.md). -/
def Obligations.TransmitterChoosesNextFrame : Prop :=
  ∀ s : State, ∃ t : State, exec .hostFrameEnd s = .next t ∧ keptBut [.hlc] s t ∧
    (∀ r rest, s.hlc.replies = r :: rest →
      t.hlc = { s.hlc with tx := some { frame := .reply r, bytes := hostReplyBytes r }, replies := rest }) ∧
    (s.hlc.replies = [] →
      (∃ c n, s.hlc.conditions.raised c = true ∧ levelOf s.hlc.levels c = .value n ∧
        (∀ c' n', s.hlc.conditions.raised c' = true → levelOf s.hlc.levels c' = .value n' →
          n' < n ∨ n' = n ∧ c.rank ≤ c'.rank) ∧
        t.hlc.tx.map (·.frame) = some (.notice (s.notice c)) ∧
        t.hlc = { s.hlc with tx := t.hlc.tx, conditions := s.hlc.conditions.put c false
                             discards := if c = .linkError then 0 else s.hlc.discards }) ∨
      ((∀ c n, s.hlc.conditions.raised c = true → levelOf s.hlc.levels c ≠ .value n) ∧
        t.hlc = { s.hlc with tx := none }))

/-- STATUS is answered in every part state with the values the owners hold and changes nothing else; NOTICE_LEVELS in range
stores all seven levels, and out of range stores none (R183, R189). -/
def Obligations.StatusAndNoticeLevels : Prop :=
  (∀ (h : HostTag) (s : State), exec (.status h (some ())) s =
    .next (((s.accept (.status h (some ()))).replyHost h .ok (.status s.statusReport)).transmit)) ∧
  (∀ (h : HostTag) (l : Levels) (s : State), s.hlc.partState = .ready → levelsOk l = true →
    exec (.noticeLevels h (some l)) s =
      .next ((((s.accept (.noticeLevels h (some l))).setHlc { s.hlc with levels := l }).replyHost h .ok .none).transmit)) ∧
  (∀ (h : HostTag) (l : Levels) (s : State), s.hlc.partState = .ready → levelsOk l = false →
    exec (.noticeLevels h (some l)) s =
      .next (((s.accept (.noticeLevels h (some l))).replyHost h .badValue .none).transmit))

/-- SET_SITE outside STARTING stores every setting, each number held to its range; the pricing generation moves by 1 exactly
when a stored pricing setting differs; the reply is CLAMPED, naming them, exactly when a number was outside its range (R68,
R69, R187). -/
def Obligations.SetSiteStoresAndClamps : Prop :=
  ∀ (h : HostTag) (r : SiteReq) (m : Rounding) (nf ce pl : Bool) (s : State), s.hlc.partState ≠ .starting →
    r.rounding = some m → r.noFareMasked = some nf → r.ceilingMasked = some ce → r.printLater = some pl →
    ∃ u : State, exec (.setSite h (some r)) s =
        .next ((u.replyHost h (if clampedFields r = [] then .ok else .clamped)
          (.site (clampedFields r) u.fau.generation)).transmit) ∧
      u.fau.settings = pricingOf r m nf ce ∧
      u.fau.generation = (if pricingOf r m nf ce = s.fau.settings then s.fau.generation
        else (s.fau.generation + 1) % 65536) ∧
      u.pru.printLater = pl ∧ u.pru.backlog = min 16 (max 2 r.backlog) ∧
      u.vcu.retention = min 1440 (max 10 r.retention) ∧ u.hlc.hold = min 600 (max 60 r.hold) ∧
      u.hlc.cardWait = min 180 (max 20 r.cardWait) ∧ u.hlc.authTimeout = min 120 (max 15 r.authTimeout) ∧
      u.fau.tariff = s.fau.tariff ∧ u.vcu.used = s.vcu.used ∧ u.pru.queues = s.pru.queues ∧
      keptBut [.fau, .pru, .vcu, .hlc, .orders] s u ∧
      (clampedFields r = [] ↔ 1 ≤ r.lineCeiling ∧ r.lineCeiling ≤ 99999 ∧ r.houseFare ≤ 50000 ∧ r.rebate ≤ 5000 ∧
        r.seatTax ≤ 3000 ∧ r.snackTax ≤ 3000 ∧ 2 ≤ r.backlog ∧ r.backlog ≤ 16 ∧ 10 ≤ r.retention ∧ r.retention ≤ 1440 ∧
        60 ≤ r.hold ∧ r.hold ≤ 600 ∧ 20 ≤ r.cardWait ∧ r.cardWait ≤ 180 ∧ 15 ≤ r.authTimeout ∧ r.authTimeout ≤ 120)

/-- SET_CLOCK outside STARTING: more than 300 seconds back it is refused CLOCK_STEP; otherwise the clock takes the time,
every ON_SALE screening whose close time has come is closed with the lines of OPEN baskets, none is left, the voucher table keeps exactly the entries within the retention setting,
and no countdown of a basket in TENDER, of a session or of a slot moves (R9, R12, R146, R186). -/
def Obligations.SetClockStepsTheSite : Prop :=
  ∀ (h : HostTag) (now : SiteTime) (s : State), s.hlc.partState ≠ .starting → now.day ≤ 65535 → now.second ≤ 86399 →
    (siteSeconds now + 300 < siteSeconds s.hlc.clock →
      exec (.setClock h (some now)) s = .next (((s.accept (.setClock h (some now))).replyHost h .clockStep .none).transmit)) ∧
    (siteSeconds s.hlc.clock ≤ siteSeconds now + 300 →
      ∃ u : State, exec (.setClock h (some now)) s = .next ((u.replyHost h .ok (.time s.hlc.clock)).transmit) ∧
        u.hlc.clock = now ∧
        (∀ i sc, u.screening i = some sc → sc.state = .onSale → siteSeconds now < siteSeconds sc.closeTime) ∧
        (let due := fun i => ∃ sc, s.screening i = some sc ∧ sc.state = .onSale ∧ siteSeconds sc.closeTime ≤ siteSeconds now
         (s.numbersDistinct → s.basketLaw → screeningsClosed due s u) ∧
         ((∃ i, due i) → u.hlc.conditions.raised .screening = true)) ∧
        u.vcu.used = s.vcu.used.filter (fun e => siteSeconds now - siteSeconds e.validUntil ≤ s.vcu.retention * 60) ∧
        (∀ d, (s.basket d).state ≠ .opened → u.basket d = s.basket d) ∧ linesKept s u ∧
        keptBut [.sbu, .vcu, .klc, .hlc, .orders] s u)

/-- CLOCK_SECOND advances the site clock by one second, which stays at the last one. At the advance every ON_SALE screening whose close
time has come is closed, the lines of OPEN baskets with it, and at a whole minute the voucher table is swept. Then every card-wait and
authorisation countdown above 0 goes down by 1; baskets in IDLE and TENDER do not count; an OPEN basket goes down by 1, is warned and
pushed HOLD_WARNING as it reaches 30 for the first time, being priced whole before that push when its generation is old, with the seats
of refused lines FREE, and has its expiry ordered when it reaches 0, where it stays (R9, R12, R37 to R39, R93, R146, R185). That the
clock, the holds, the sessions and the store act in this order, and that an expiry is an order of its own, are the model's choices
(notes/assumptions/5.md, 6.md). -/
def Obligations.ClockSecondCounts : Prop :=
  ∀ s : State, ∃ m u : State, exec .clockSecond s = .next u.transmit ∧
    (siteSeconds lastTime ≤ siteSeconds s.hlc.clock → m = s) ∧
    (siteSeconds s.hlc.clock < siteSeconds lastTime →
      siteSeconds m.hlc.clock = siteSeconds s.hlc.clock + 1 ∧ m.hlc.clock.second < 86400 ∧
      (let due := fun i => ∃ sc, s.screening i = some sc ∧ sc.state = .onSale ∧
         siteSeconds sc.closeTime ≤ siteSeconds m.hlc.clock
       (∀ i sc, m.screening i = some sc → sc.state = .onSale → siteSeconds m.hlc.clock < siteSeconds sc.closeTime) ∧
       (s.numbersDistinct → s.basketLaw → screeningsClosed due s m) ∧
       ((∃ i, due i) → m.hlc.conditions.raised .screening = true) ∧
       (∀ d, (s.basket d).state ≠ .opened ∨ (∀ i sc, due i → s.screening i = some sc →
           (s.basket d).lines.any (BasketLine.inScreening sc.number) = false) →
         m.basket d = s.basket d ∧ m.dropRec d = s.dropRec d) ∧
       ∀ i sc, s.screening i = some sc → ∃ y, m.screening i = some y ∧
         y = { sc with state := y.state, counts := y.counts, seats := y.seats }) ∧
      m.vcu = { s.vcu with used := if m.hlc.clock.second % 60 = 0
        then s.vcu.used.filter fun e => siteSeconds m.hlc.clock - siteSeconds e.validUntil ≤ s.vcu.retention * 60
        else s.vcu.used } ∧
      m.hlc = { s.hlc with clock := m.hlc.clock, conditions := m.hlc.conditions } ∧ linesKept s m ∧
      keptBut [.sbu, .vcu, .klc, .hlc] s m) ∧
    (∀ d, (s.session d).state = .cardWait →
      u.session d = { s.session d with cardWait := (s.session d).cardWait.map (· - 1) }) ∧
    (∀ d, (s.session d).state = .authPending →
      u.session d = { s.session d with authWait := (s.session d).authWait.map (· - 1) }) ∧
    (∀ d, (s.session d).state ≠ .cardWait → (s.session d).state ≠ .authPending → u.session d = s.session d) ∧
    (∀ d, (s.session d).state = .cardWait → (s.session d).cardWait = some 1 → .cardWaitTimeout d ∈ u.orders) ∧
    (∀ d, (s.session d).state = .authPending → (s.session d).authWait = some 1 → .authTimeout d ∈ u.orders) ∧
    (let warned := fun d => (m.basket d).state = .opened ∧ (m.basket d).countdown = 31 ∧ (m.basket d).warned = false
     (∀ d, (m.basket d).state ≠ .opened → u.basket d = m.basket d) ∧
     (∀ d, ¬ warned d → u.dropRec d = m.dropRec d) ∧
     (∀ d, (m.basket d).state = .opened →
       let b := { m.basket d with countdown := (m.basket d).countdown - 1
                                  warned := (m.basket d).warned || (m.basket d).countdown == 31 }
       ((m.basket d).countdown = 0 → u.basket d = m.basket d) ∧
       (0 < (m.basket d).countdown → (m.basket d).generation = s.fau.generation ∨ (m.basket d).countdown ≠ 31 ∨
         (m.basket d).warned = true → u.basket d = b) ∧
       ((m.basket d).countdown = 31 → (m.basket d).warned = false →
         ((m.basket d).generation ≠ s.fau.generation → pricedWhole b m (u.basket d) ∧
           ∀ n a k c x g code i sc, .seat n a k c x g ∈ b.lines → m.linePrice (.refused code) (.seat n a k c x g) →
             m.findScreening n = some (i, sc) → ∃ y, u.screening i = some y ∧
               y.stateAt a = (sc.stateAt a).map fun _ => .free) ∧
         pushed d .holdWarning u) ∧
       ((m.basket d).countdown = 1 → .holdExpiry d ∈ u.orders)) ∧
     (∀ i, m.screening i = none → u.screening i = none) ∧
     ∀ i x, m.screening i = some x → ∃ y, u.screening i = some y ∧
       y = { x with state := y.state, counts := y.counts, seats := y.seats } ∧
       (y.state = x.state ∨ x.state = .closing ∧ y.state = .closed) ∧
       ∀ a, (∀ d, warned d → (m.basket d).generation ≠ s.fau.generation → ∀ l ∈ (m.basket d).lines,
         l.names x.number a = true → ∀ code, ¬ m.linePrice (.refused code) l) → y.stateAt a = x.stateAt a) ∧
    (s.jnu.store.op = .retryWait → .storeRetry ∈ u.orders) ∧
    u.vcu = m.vcu ∧ u.hlc = { m.hlc with conditions := u.hlc.conditions } ∧
    (∀ d, (u.reader d) = s.reader d) ∧ linesKept s u ∧ keptBut [.sbu, .tdu, .vcu, .klc, .hlc, .orders] s u

/-! ## Layouts, screenings and seats -/

/-- LAYOUT_BEGIN in range starts a load unless a screening uses the layout; LAYOUT_ROW out of order makes it INVALID; the next
row in order is taken, and the last one makes it READY with its count of seats when that is at most 480, and INVALID above it (R3
to R5). -/
def Obligations.LayoutsLoadRowByRow : Prop :=
  (∀ (h : HostTag) (r : LayoutBeginReq) (i : Fin 8) (s : State), s.hlc.partState = .ready → r.index = i.val →
    1 ≤ r.rowCount → r.rowCount ≤ 24 → r.ideal < r.rowCount → r.centre ≤ 78 →
    ((∃ j sc, s.screening j = some sc ∧ sc.layout = i) → exec (.layoutBegin h (some r)) s =
      .next (((s.accept (.layoutBegin h (some r))).replyHost h .inUse .none).transmit)) ∧
    ((∀ j sc, s.screening j = some sc → sc.layout ≠ i) → exec (.layoutBegin h (some r)) s =
      .next ((((s.accept (.layoutBegin h (some r))).setLayout i
        { state := .loading, rowCount := r.rowCount, ideal := r.ideal, centre := r.centre, rows := []
          sellable := none }).replyHost h .ok .none).transmit))) ∧
  (∀ (h : HostTag) (r : LayoutRowReq) (i : Fin 8) (s : State), s.hlc.partState = .ready → r.index = i.val →
    (s.layout i).state = .loading → r.row ≠ (s.layout i).rows.length →
    ∃ u : State, exec (.layoutRow h (some r)) s = .next ((u.replyHost h .rowOrder .none).transmit) ∧
      (u.layout i).state = .invalid ∧ (u.layout i).rows = [] ∧ (∀ j, j ≠ i → u.layout j = s.layout j) ∧
      (∀ j, u.screening j = s.screening j) ∧ keptBut [.sbu, .orders] s u) ∧
  (∀ (h : HostTag) (r : LayoutRowReq) (ks : List PosKind) (i : Fin 8) (s : State), s.hlc.partState = .ready →
    r.index = i.val → (s.layout i).state = .loading → r.row = (s.layout i).rows.length → kindsOfCodes r.kinds = some ks →
    1 ≤ ks.length → ks.length ≤ 40 → labelOk r.label = true → (∀ x ∈ (s.layout i).rows, x.label ≠ r.label) →
    let l := { s.layout i with rows := (s.layout i).rows ++ [{ label := r.label, kinds := ks }] }
    ∃ (u : State) (code : Code) (data : HostData),
      exec (.layoutRow h (some r)) s = .next ((u.replyHost h code data).transmit) ∧
      (l.rows.length < l.rowCount → u.layout i = l ∧ code = .ok ∧ data = .none) ∧
      (l.rows.length = l.rowCount → (l.rows.map rowSeatCount).sum ≤ 480 →
        u.layout i = { l with state := .ready, sellable := some (l.rows.map rowSeatCount).sum } ∧ code = .ok ∧
          data = .sellable (l.rows.map rowSeatCount).sum) ∧
      (l.rows.length = l.rowCount → 480 < (l.rows.map rowSeatCount).sum →
        (u.layout i).state = .invalid ∧ (u.layout i).rows = [] ∧ code = .tooManySeats ∧ data = .none) ∧
      (∀ j, j ≠ i → u.layout j = s.layout j) ∧ (∀ j, u.screening j = s.screening j) ∧ keptBut [.sbu, .orders] s u)

/-- SCREENING_LOAD with fields in range, a READY layout and a number no slot holds fills the lowest EMPTY slot: LOADED, not
WITHDRAWN, every seat of the layout FREE. The moves of a screening on the host's requests: a LOADED one before its close time
opens; an ON_SALE one closed or withdrawn ends in CLOSED when no seat of it is held any more and in CLOSING otherwise, its lines in
OPEN baskets being VOID and their seats FREE, each such basket being settled and pushed SCREENING_CLOSED, and no other seat or basket
changing; a LOADED one withdrawn enters CLOSED; a CLOSED one is unloaded, and any other is refused IN_USE (R6, R7, R8, R10 to R14,
R37). -/
def Obligations.ScreeningsLoadAndMove : Prop :=
  (∀ (h : HostTag) (r : ScreeningLoadReq) (l : Fin 8) (gap : Bool) (i : Fin 16) (s : State), s.hlc.partState = .ready →
     r.layout = l.val → screeningFieldsOk r = true → r.gapGuard = some gap → (s.layout l).state = .ready →
     (∀ j sc, s.screening j = some sc → sc.number ≠ r.number) → s.screening i = none →
     (∀ j, j < i → s.screening j ≠ none) →
     ∃ (u : State) (sc : Screening), exec (.screeningLoad h (some r)) s = .next ((u.replyHost h .ok .none).transmit) ∧ u.screening i = some sc ∧
       sc.number = r.number ∧ sc.layout = l ∧ sc.state = .loaded ∧ sc.withdrawn = false ∧ sc.gapGuard = gap ∧
       sc.startDay = r.startDay ∧ sc.startMinute = r.startMinute ∧ sc.lateSale = r.lateSale ∧ sc.band = r.band ∧
       sc.surcharge = r.surcharge ∧ (∀ a ∈ (s.layout l).seatAddrs, sc.stateAt a = some .free) ∧
       (∀ a, a ∉ (s.layout l).seatAddrs → sc.stateAt a = none) ∧ screeningsKeptBut i s u ∧
       (∀ j, u.layout j = s.layout j) ∧ (∀ d, u.basket d = s.basket d) ∧ keptBut [.sbu, .orders] s u) ∧
  ((∀ (h : HostTag) (i : Fin 16) (sc : Screening) (s : State), s.hlc.partState = .ready →
     s.findScreening sc.number = some (i, sc) →
     (sc.state = .loaded → siteSeconds s.hlc.clock < siteSeconds sc.closeTime →
       exec (.screeningOpen h (some sc.number)) s =
         .next ((((s.accept (.screeningOpen h (some sc.number))).setScreening i (some { sc with state := .onSale })).replyHost h
           .ok .none).transmit)) ∧
     (sc.state = .loaded →
       exec (.screeningWithdraw h (some sc.number)) s =
         .next (((((s.accept (.screeningWithdraw h (some sc.number))).setScreening i
           (some { sc with withdrawn := true, state := .closed })).raise .screening).replyHost h .ok .none).transmit)) ∧
     (sc.state = .closed →
       exec (.screeningUnload h (some sc.number)) s =
         .next ((((s.accept (.screeningUnload h (some sc.number))).setScreening i none).replyHost h .ok .none).transmit)) ∧
     (sc.state ≠ .closed →
       exec (.screeningUnload h (some sc.number)) s =
         .next (((s.accept (.screeningUnload h (some sc.number))).replyHost h .inUse .none).transmit))) ∧
   (∀ (h : HostTag) (i : Fin 16) (sc : Screening) (s : State), s.hlc.partState = .ready →
     s.findScreening sc.number = some (i, sc) → sc.state = .onSale →
     (∃ (u : State) (y : Screening), exec (.screeningClose h (some sc.number)) s = .next ((u.replyHost h .ok .none).transmit) ∧
       u.screening i = some y ∧ y.state = (if y.counts.held = 0 then .closed else .closing) ∧
       (∀ a, y.stateAt a = sc.stateAt a ∨ y.stateAt a = some .free) ∧ y.number = sc.number ∧ y.layout = sc.layout ∧
       y.withdrawn = sc.withdrawn ∧ (s.numbersDistinct → s.basketLaw → screeningsClosed (· = i) s u) ∧
       u.hlc.conditions.raised .screening = true ∧ hlcKept s u ∧
       u.orders = s.orders.erase (.screeningClose h (some sc.number)) ∧
       (∀ d, (s.basket d).state ≠ .opened → u.basket d = s.basket d) ∧
       (∀ d, ∀ x ∈ (u.basket d).lines, (s.basket d).state = .opened → x.inScreening sc.number = false) ∧
       linesKept s u ∧ keptBut [.sbu, .klc, .hlc, .orders] s u) ∧
     (∃ (u : State) (y : Screening), exec (.screeningWithdraw h (some sc.number)) s = .next ((u.replyHost h .ok .none).transmit) ∧
       u.screening i = some y ∧ y.state = (if y.counts.held = 0 then .closed else .closing) ∧
       (∀ a, y.stateAt a = sc.stateAt a ∨ y.stateAt a = some .free) ∧ y.number = sc.number ∧ y.layout = sc.layout ∧
       y.withdrawn = true ∧
       (s.numbersDistinct → s.basketLaw →
         screeningsClosed (· = i) (s.setScreening i (some { sc with withdrawn := true })) u) ∧
       u.hlc.conditions.raised .screening = true ∧ hlcKept s u ∧
       u.orders = s.orders.erase (.screeningWithdraw h (some sc.number)) ∧ (∀ d, (s.basket d).state ≠ .opened → u.basket d = s.basket d) ∧
       (∀ d, ∀ x ∈ (u.basket d).lines, (s.basket d).state = .opened → x.inScreening sc.number = false) ∧
       linesKept s u ∧ keptBut [.sbu, .klc, .hlc, .orders] s u)))

/-- SEAT_BLOCK makes every listed FREE seat BLOCKED and SEAT_UNBLOCK every listed BLOCKED seat FREE; every other seat keeps
its state; the reply is OK or PARTIAL (R18). -/
def Obligations.SeatBlockAndUnblock : Prop :=
  ∀ (h : HostTag) (r : SeatListReq) (i : Fin 16) (sc : Screening) (s : State), s.hlc.partState = .ready →
    seatListOk r.seats = true → s.findScreening r.screening = some (i, sc) →
    (∃ (u : State) (y : Screening) (code : Code) (data : HostData),
      exec (.seatBlock h (some r)) s = .next ((u.replyHost h code data).transmit) ∧ u.screening i = some y ∧
      (noRepeats r.seats = true →
        (∀ a ∈ r.seats, (s.layout sc.layout).seatExists a = true ∧ sc.stateAt a = some .free) → code = .ok) ∧
      (∀ a ∈ r.seats, (s.layout sc.layout).seatExists a = false ∨ sc.stateAt a ≠ some .free → code = .partialDone) ∧
      (∀ a, y.stateAt a = if a ∈ r.seats ∧ (s.layout sc.layout).seatExists a = true ∧ sc.stateAt a = some .free then some .blocked
        else sc.stateAt a) ∧
      y.state = sc.state ∧ screeningsKeptBut i s u ∧ (∀ d, u.basket d = s.basket d) ∧ keptBut [.sbu, .orders] s u) ∧
    (∃ (u : State) (y : Screening) (code : Code) (data : HostData),
      exec (.seatUnblock h (some r)) s = .next ((u.replyHost h code data).transmit) ∧ u.screening i = some y ∧
      (noRepeats r.seats = true →
        (∀ a ∈ r.seats, (s.layout sc.layout).seatExists a = true ∧ sc.stateAt a = some .blocked) → code = .ok) ∧
      (∀ a ∈ r.seats, (s.layout sc.layout).seatExists a = false ∨ sc.stateAt a ≠ some .blocked → code = .partialDone) ∧
      (∀ a, y.stateAt a = if a ∈ r.seats ∧ (s.layout sc.layout).seatExists a = true ∧ sc.stateAt a = some .blocked then some .free
        else sc.stateAt a) ∧
      y.state = sc.state ∧ screeningsKeptBut i s u ∧ (∀ d, u.basket d = s.basket d) ∧ keptBut [.sbu, .orders] s u)

/-- SEAT_SELL makes every listed seat SOLD to the house and SEAT_REFUND every listed SOLD seat FREE; no other seat changes;
one seat that is HELD or SOLD refuses the whole sale, and one that is not SOLD the whole refund (R19, R20). That an entry of the
refund's reply names its seat is the model's choice (notes/assumptions/51.md). -/
def Obligations.SeatSellAndRefund : Prop :=
  (∀ (h : HostTag) (r : SeatSellReq) (i : Fin 16) (sc : Screening) (s : State), s.hlc.partState = .ready →
    seatListOk r.seats = true → 1 ≤ r.sale → r.sale ≤ 4294967295 → noRepeats r.seats = true →
    s.findScreening r.screening = some (i, sc) → sc.state = .onSale ∨ sc.state = .closing →
    (∀ a ∈ r.seats, (s.layout sc.layout).seatExists a = true ∧ (sc.stateAt a).isSome = true) →
    ((∀ a ∈ r.seats, ∀ st, sc.stateAt a = some st → st.taken = false) →
      ∃ (u : State) (y : Screening), exec (.seatSell h (some r)) s = .next ((u.replyHost h .ok .none).transmit) ∧ u.screening i = some y ∧
        (∀ a ∈ r.seats, y.stateAt a = some (.sold r.sale .house)) ∧ seatsKeptBut r.seats sc y ∧ screeningsKeptBut i s u ∧
        (∀ d, u.basket d = s.basket d) ∧ keptBut [.sbu, .orders] s u) ∧
    ((∃ a ∈ r.seats, ∃ st, sc.stateAt a = some st ∧ st.taken = true) →
      ∃ data : HostData, exec (.seatSell h (some r)) s =
        .next (((s.accept (.seatSell h (some r))).replyHost h .notFree data).transmit))) ∧
  (∀ (h : HostTag) (r : SeatListReq) (i : Fin 16) (sc : Screening) (s : State), s.hlc.partState = .ready →
    seatListOk r.seats = true → noRepeats r.seats = true → s.findScreening r.screening = some (i, sc) →
    sc.state ≠ .loaded → (∀ a ∈ r.seats, (s.layout sc.layout).seatExists a = true ∧ (sc.stateAt a).isSome = true) →
    ((∀ a ∈ r.seats, ∀ st, sc.stateAt a = some st → st.isSold = true) →
      ∃ (u : State) (y : Screening) (l : List RefundedSeat), exec (.seatRefund h (some r)) s = .next ((u.replyHost h .ok (.refunded l)).transmit) ∧
        u.screening i = some y ∧ (∀ a ∈ r.seats, y.stateAt a = some .free) ∧ seatsKeptBut r.seats sc y ∧
        (∀ x ∈ l, x.addr ∈ r.seats ∧ sc.stateAt x.addr = some (.sold x.sale x.origin)) ∧ l.length = r.seats.length ∧
        screeningsKeptBut i s u ∧ keptBut [.sbu, .orders] s u) ∧
    ((∃ a ∈ r.seats, ∃ st, sc.stateAt a = some st ∧ st.isSold = false) →
      ∃ data : HostData, exec (.seatRefund h (some r)) s =
        .next (((s.accept (.seatRefund h (some r))).replyHost h .notSold data).transmit)))

/-! ## Fares -/

/-- The three reads change nothing but the reply: SEAT_QUERY, FARE_QUOTE and a price order, whose answer alone is new: in
ALL_OR_NOTHING the first refusal with the index of its line, and otherwise what each line came to and the totals over the kept lines and
the lines priced, with FLOOR (R21, R70, R76, R78, R80). That the answer to a price order stands in a field of the state, and that the
index counts from 0, are the model's choices (notes/assumptions/27.md, 56.md). -/
def Obligations.QueriesAndPriceOrdersChangeNothing : Prop :=
  (∀ (h : HostTag) (r : SeatQueryReq) (i : Fin 16) (sc : Screening) (s : State), s.hlc.partState = .ready → r.row ≤ 23 →
    s.findScreening r.screening = some (i, sc) →
    exec (.seatQuery h (some r)) s =
      .next (((s.accept (.seatQuery h (some r))).replyHost h
        (if r.row < (s.layout sc.layout).rowCount then .ok else .noSeat)
        (if r.row < (s.layout sc.layout).rowCount then .row (rowReport (s.layout sc.layout) sc r.row) else .none)).transmit)) ∧
  (∀ (h : HostTag) (r : FareQuoteReq) (q : SeatQuery) (s : State), s.hlc.partState = .ready → quoteLine r = some q →
    exec (.fareQuote h (some r)) s =
      .next (((s.accept (.fareQuote h (some r))).replyHost h .ok (.quote (s.fau.quote q))).transmit)) ∧
  (∀ (o : PriceOrder) (s : State), ∃ t : State, exec (.priceOrder o) s = .next t ∧ keptBut [.priceAnswer, .orders] s t ∧
    (∀ before l after c, o.lines = before ++ l :: after → (∀ x ∈ before, ∀ e, s.fau.priceLine x ≠ .refused e) →
      s.fau.priceLine l = .refused c → o.mode = .allOrNothing →
      t.priceAnswer = some (.refused before.length c s.fau.generation)) ∧
    ((∀ l ∈ o.lines, ∀ c, s.fau.priceLine l ≠ .refused c) ∨ o.mode = .voidRefused →
      ∃ totals floor, t.priceAnswer = some (.priced (o.lines.map s.fau.priceLine) totals floor s.fau.generation) ∧
        (totals, floor) = s.fau.totals (o.kept ++ o.lines.filterMap fun l => match l, s.fau.priceLine l with
          | .seat _, .priced a _ _ _ => some (.seat a)
          | .snack item, .priced a _ _ _ => some (.snack item a)
          | _, .refused _ => none)))

/-- The four loads, when their values are in range, replace what they name and move the pricing generation by 1, from 65,535
to 0; out of range they, and FARE_QUOTE, are refused BAD_VALUE with nothing changed, TARIFF_LOAD naming its first entry above
50,000; every reply carries the generation (R64 to R67, R69, R80). What a band out of range names, that a body of the wrong length is
answered with the generation too, and that the entry is named by its place counted from 0, are the model's choices
(notes/assumptions/44.md, 45.md, 56.md). -/
def Obligations.PricingLoadsMoveTheGeneration : Prop :=
  (∀ (h : HostTag) (r : TariffReq) (b : Fin 8) (s : State), s.hlc.partState = .ready → r.band = b.val →
    (∀ e ∈ r.entries.toList, ∀ v, e = some v → v ≤ 50000) →
    exec (.tariffLoad h (some r)) s =
      .next ((((s.accept (.tariffLoad h (some r))).setFau
        { s.fau with tariff := vput s.fau.tariff b r.entries, generation := (s.fau.generation + 1) % 65536 }).replyHost h .ok
          (.generation ((s.fau.generation + 1) % 65536))).transmit)) ∧
  (∀ (h : HostTag) (r : DaypartReq) (s : State), s.hlc.partState = .ready → daypartsOk r.slots = true →
    exec (.daypartLoad h (some r)) s =
      .next ((((s.accept (.daypartLoad h (some r))).setFau
        { s.fau with dayparts := r.slots, generation := (s.fau.generation + 1) % 65536 }).replyHost h .ok
          (.generation ((s.fau.generation + 1) % 65536))).transmit)) ∧
  (∀ (h : HostTag) (r : OverlayReq) (i : Fin 16) (s : State), s.hlc.partState = .ready → r.slot = i.val →
    (∀ o, r.contents = some o → overlayOk o = true) →
    exec (.overlaySet h (some r)) s =
      .next ((((s.accept (.overlaySet h (some r))).setFau
        { s.fau with overlays := vput s.fau.overlays i (r.contents.map overlayOf)
                     generation := (s.fau.generation + 1) % 65536 }).replyHost h .ok
          (.generation ((s.fau.generation + 1) % 65536))).transmit)) ∧
  (∀ (h : HostTag) (l : List ItemSetting) (s : State), s.hlc.partState = .ready → catalogueOk l = true →
    ∃ u : State, exec (.catalogueLoad h (some l)) s =
        .next ((u.replyHost h .ok (.generation ((s.fau.generation + 1) % 65536))).transmit) ∧
      u.fau.generation = (s.fau.generation + 1) % 65536 ∧ u.fau.settings = s.fau.settings ∧ u.fau.tariff = s.fau.tariff ∧
      u.fau.overlays = s.fau.overlays ∧ u.fau.dayparts = s.fau.dayparts ∧
      (∀ x ∈ l, ∀ c, x.contents = some c →
        u.fau.item x.item = some { valid := some { price := c.price, combo := c.combo }, minutes := c.minutes }) ∧
      (∀ x ∈ l, x.contents = none → u.fau.itemPrice x.item = none ∧ u.fau.itemMinutes x.item = s.fau.itemMinutes x.item) ∧
      (∀ n, (∀ x ∈ l, x.item ≠ n) → u.fau.item n = s.fau.item n) ∧ keptBut [.fau, .orders] s u) ∧
  (∀ (h : HostTag) (s : State), s.hlc.partState = .ready →
    let refused := fun c data => exec c s = .next (((s.accept c).replyHost h .badValue data).transmit)
    (∀ (r : TariffReq) (k : Fin 24) (v : Nat), vget r.entries k = some v → 50000 < v →
      (∀ j w, j < k → vget r.entries j = some w → w ≤ 50000) →
      refused (.tariffLoad h (some r)) (.entry (some k.val) s.fau.generation)) ∧
    (∀ r : TariffReq, (∀ e ∈ r.entries.toList, ∀ v, e = some v → v ≤ 50000) → 7 < r.band →
      refused (.tariffLoad h (some r)) (.entry none s.fau.generation)) ∧
    (∀ r : DaypartReq, daypartsOk r.slots = false →
      refused (.daypartLoad h (some r)) (.generation s.fau.generation)) ∧
    (∀ r : OverlayReq, 15 < r.slot ∨ (∃ o, r.contents = some o ∧ overlayOk o = false) →
      refused (.overlaySet h (some r)) (.generation s.fau.generation)) ∧
    (∀ l, catalogueOk l = false → refused (.catalogueLoad h (some l)) (.generation s.fau.generation)) ∧
    (∀ r : FareQuoteReq, quoteLine r = none → refused (.fareQuote h (some r)) (.generation s.fau.generation)) ∧
    ∀ c, c = .tariffLoad h none ∨ c = .daypartLoad h none ∨ c = .overlaySet h none ∨ c = .catalogueLoad h none ∨
        c = .fareQuote h none →
      refused c (.generation s.fau.generation))

/-- The price of a seat line is the exact product of fare, daypart factor and overlay factor over 100,000,000, rounded by the
mode in force (ties to the even fare under NEAREST_EVEN), plus the surcharge; above the line ceiling it is the ceiling when CEILING
is masked and refused when not. The fare is that of the first ACTIVE overlay that matches, or the base entry, or with that EMPTY the
house fare when NO_FARE is masked and a refusal when not; INEXACT says that a remainder was rounded. Totals are
sums over the lines, one rebate a pair of seat and combo line, the gross never below the seat sum, and each contained tax the
nearest whole amount, halves up (R63, R66, R71 to R76, R78, R79). -/
def Obligations.PricesAndTotals : Prop :=
  ((∀ (f : Fau) (q : SeatQuery) (a : Nat) (x y z : Bool), f.priceSeat q = .priced a x y z → a ≤ f.settings.lineCeiling) ∧
   (∀ (f : Fau) (q : SeatQuery) (fare factor : Nat),
     let p := fare * f.daypartFactor q.minute * factor
     let a := (f.stages q fare factor).rounded
     (f.settings.rounding = .down → a * 100000000 ≤ p ∧ p < (a + 1) * 100000000) ∧
     (f.settings.rounding = .up → p ≤ a * 100000000 ∧ a * 100000000 < p + 100000000) ∧
     (f.settings.rounding = .nearestUp → 2 * p < 2 * a * 100000000 + 100000000 ∧ 2 * a * 100000000 ≤ 2 * p + 100000000) ∧
     (f.settings.rounding = .nearestEven →
       2 * p ≤ 2 * a * 100000000 + 100000000 ∧ 2 * a * 100000000 ≤ 2 * p + 100000000 ∧
       (2 * p = 2 * a * 100000000 + 100000000 ∨ 2 * a * 100000000 = 2 * p + 100000000 → a % 2 = 0)) ∧
     (f.stages q fare factor).surcharged = a + q.surcharge ∧ (f.stages q fare factor).remainder = p % 100000000) ∧
   (∀ (f : Fau) (q : SeatQuery) (fare : Nat) (house : Bool),
     (f.lookup q).fare = some fare ∧ house = false ∨
       (f.lookup q).fare = none ∧ f.settings.noFareMasked = true ∧ fare = f.settings.houseFare ∧ house = true →
     let st := f.stages q fare (f.lookup q).factor
     (st.surcharged ≤ f.settings.lineCeiling → f.priceSeat q = .priced st.surcharged (st.remainder != 0) house false) ∧
     (f.settings.lineCeiling < st.surcharged →
       (f.settings.ceilingMasked = true →
         f.priceSeat q = .priced f.settings.lineCeiling (st.remainder != 0) house true) ∧
       (f.settings.ceilingMasked = false → f.priceSeat q = .refused .ceiling))) ∧
   (∀ (f : Fau) (q : SeatQuery), (f.lookup q).fare = none → f.settings.noFareMasked = false →
     f.priceSeat q = .refused .noFare) ∧
   (∀ (f : Fau) (q : SeatQuery) (i : Fin 16) (o : Overlay), vget f.overlays i = some o → o.covers q = true →
     (∀ j o', j < i → vget f.overlays j = some o' → o'.covers q = false) →
     (∀ v, o.action = .replace v → f.lookup q = { overlay := some i, fare := some v, factor := 10000 }) ∧
     ∀ x, o.action = .scale x →
       f.lookup q = { overlay := some i, fare := f.entry q.band q.kind q.concession, factor := x }) ∧
   (∀ (f : Fau) (q : SeatQuery), (∀ j o, vget f.overlays j = some o → o.covers q = false) →
     f.lookup q = { overlay := none, fare := f.entry q.band q.kind q.concession, factor := 10000 }) ∧
   (∀ (f : Fau) (b : Fin 8) (k : SeatKind) (c : Concession) (n : Fin 24), n.val = 6 * seatKindCode k + concessionCode c →
     f.entry b.val k c = vget (vget f.tariff b) n) ∧
   (∀ (f : Fau) (minute : Nat),
     (∀ k p, vget f.dayparts k = some p → p.start ≤ minute →
       (∀ j e, j ≠ k → vget f.dayparts j = some e → e.start ≤ minute → e.start < p.start) →
       f.daypartFactor minute = p.factor) ∧
     ((∀ k p, vget f.dayparts k = some p → minute < p.start) → f.daypartFactor minute = 10000))) ∧
  ((∀ (f : Fau) (lines : List KeptLine),
     let t := (f.totals lines).1
     t.seatSum = (lines.map seatAmount).sum ∧ t.snackSum = (lines.map snackAmount).sum ∧
     t.rebate = min (lines.filter isSeatLine).length (lines.filter f.isCombo).length * f.settings.rebate ∧
     t.gross = t.seatSum + (t.snackSum - t.rebate) ∧ ((f.totals lines).2 = true ↔ t.snackSum < t.rebate) ∧
     t.seatTax = containedTax t.seatSum f.settings.seatTax ∧
     t.snackTax = containedTax (t.snackSum - t.rebate) f.settings.snackTax) ∧
   (∀ amount rate : Nat,
     2 * (amount * rate) < 2 * containedTax amount rate * (10000 + rate) + (10000 + rate) ∧
     2 * containedTax amount rate * (10000 + rate) ≤ 2 * (amount * rate) + (10000 + rate)))

/-! ## Baskets -/

/-- What stops a basket request before its own rule: the drop's kind, the part state, an IDLE basket, another serial, a basket
in TENDER, in this order; each answer changes nothing else (R28). -/
def Obligations.BasketRequestsAreGated : Prop :=
  ∀ (c : Instr) (s : State) (d : Drop) (n : Nat) (opens views : Bool), basketGate c = some (d, n, opens, views) →
    ((s.dropRec d).kind ≠ .kiosk → exec c s = .next (((s.accept c).serialReply d .wrongDrop).transmit)) ∧
    ((s.dropRec d).kind = .kiosk → s.hlc.partState ≠ .ready →
      exec c s = .next (((s.accept c).serialReply d (partStateCode s.hlc.partState)).transmit)) ∧
    (s.kioskReady d → (s.basket d).state = .idle → opens = false →
      exec c s = .next (((s.accept c).basketReply d .noBasket .none).transmit)) ∧
    (s.kioskReady d → (s.basket d).state ≠ .idle → n ≠ (s.basket d).serial →
      exec c s = .next (((s.accept c).serialReply d .staleBasket).transmit)) ∧
    (s.kioskReady d → (s.basket d).state = .tender → n = (s.basket d).serial → views = false →
      exec c s = .next (((s.accept c).basketReply d .inTender .none).transmit))

/-- SELECT of seats that pass every check holds them from the top of the stack on, opens an IDLE basket with the next serial,
sets the flags of the masked conditions met, and answers OK with the basket. What refuses a SELECT, in the order of its checks, with
nothing changed but the reply: the last are the companion rule, the lone-seat rule and the first seat in request order that the FAU
refuses (R24, R27, R29, R76). A companion seat wants a WHEELCHAIR seat of the basket or the request beside it, and no request may leave a seat lone that was not (R41, R42). That NOT_FREE
shows the state found as SEAT_QUERY does is the model's choice (notes/assumptions/43.md). -/
def Obligations.SelectHoldsOrRefuses : Prop :=
  (∀ (d : Drop) (r : SelectReq) (l : List (SeatAddr × Concession)) (i : Fin 16) (sc : Screening) (s : State),
     s.kioskReady d → (s.basket d).lawful → (s.basket d).accepts r.serial → selectSeats r = some l →
     s.findScreening r.screening = some (i, sc) → s.holdable d sc l →
     ∃ u : State, exec (.select d (some r)) s = .next u.transmit ∧ heldNow d i sc l s u ∧ replied d .ok .none u ∧
       u.orders = s.orders.erase (.select d (some r)) ∧ u.hlc = s.hlc ∧ basketFrame d s u) ∧
  (∀ (d : Drop) (r : SelectReq) (s : State), s.kioskReady d → (s.basket d).accepts r.serial →
     let refused := fun c x =>
       exec (.select d (some r)) s = .next (((s.accept (.select d (some r))).basketReply d c x).transmit)
     (selectSeats r = none → refused .badValue .none) ∧
     ∀ l, selectSeats r = some l →
       (s.findScreening r.screening = none → refused .noScreening .none) ∧
       ∀ i sc, s.findScreening r.screening = some (i, sc) →
         (sc.state = .loaded → refused .notOpen .none) ∧
         (sc.state = .closing ∨ sc.state = .closed → refused .closed .none) ∧
         (sc.state = .onSale →
           (∀ n, (s.basket d).bound = some n → n ≠ r.screening → refused .mixedScreening .none) ∧
           ((s.basket d).bound = none ∨ (s.basket d).bound = some r.screening →
             (10 < (s.basket d).lines.length + l.length ∨ 8 < (s.basket d).seatCount + l.length →
               refused .basketFull .none) ∧
             ((s.basket d).lines.length + l.length ≤ 10 → (s.basket d).seatCount + l.length ≤ 8 →
               (∀ a, firstMissing (s.layout sc.layout) (l.map (·.1)) = some a → refused .noSeat (.seat a)) ∧
               (firstMissing (s.layout sc.layout) (l.map (·.1)) = none →
                 (∀ a st, firstInState sc (fun x => x != .free) (l.map (·.1)) = some (a, st) →
                   refused .notFree (.seatState a (shown st))) ∧
                 (firstInState sc (fun x => x != .free) (l.map (·.1)) = none →
                   let mine := (s.basket d).seatAddrs ++ l.map (·.1)
                   (∀ a, companionDenial (s.layout sc.layout) mine (l.map (·.1)) = some a →
                     refused .companionRule (.seat a)) ∧
                   (companionDenial (s.layout sc.layout) mine (l.map (·.1)) = none →
                     (∀ a, loneSeatDenial (s.layout sc.layout) sc (l.map (·.1)) = some a → refused .loneSeat (.seat a)) ∧
                     (loneSeatDenial (s.layout sc.layout) sc (l.map (·.1)) = none →
                       ∀ before x after k c, l = before ++ x :: after → (s.layout sc.layout).seatKind x.1 = some k →
                         s.fau.priceSeat (seatQueryOf sc k x.2) = .refused c →
                         (∀ y ∈ before, ∀ k', (s.layout sc.layout).seatKind y.1 = some k' →
                           ∀ c', s.fau.priceSeat (seatQueryOf sc k' y.2) ≠ .refused c') →
                         refused c (.seat x.1))))))))) ∧
  (∀ (l : Layout) (mine seats : List SeatAddr),
     let kept := fun a : SeatAddr => l.seatKind a = some .companion → ∃ w ∈ mine, w.row = a.row ∧
       (w.pos + 1 = a.pos ∨ w.pos = a.pos + 1) ∧ l.seatKind w = some .wheelchair
     (companionDenial l mine seats = none ↔ ∀ a ∈ seats, kept a) ∧
     ∀ a, companionDenial l mine seats = some a →
       ∃ before after, seats = before ++ a :: after ∧ ¬ kept a ∧ ∀ x ∈ before, kept x) ∧
  (∀ (l : Layout) (sc : Screening) (taken : List SeatAddr),
     let left := fun a : SeatAddr => a ∈ l.seatAddrs ∧ (∃ t ∈ taken, t.row = a.row) ∧ sc.stateAt a = some .free ∧ a ∉ taken ∧
       (∀ b, l.leftOf a = some b ∨ l.rightOf a = some b → sc.stateAt b ≠ some .free ∨ b ∈ taken) ∧
       ∃ b, (l.leftOf a = some b ∨ l.rightOf a = some b) ∧ sc.stateAt b = some .free
     (sc.gapGuard = false → loneSeatDenial l sc taken = none) ∧
     (sc.gapGuard = true →
       (loneSeatDenial l sc taken = none ↔ ∀ a, ¬ left a) ∧
       ∀ a, loneSeatDenial l sc taken = some a →
         left a ∧ ∀ b, left b → a.row < b.row ∨ a.row = b.row ∧ a.pos ≤ b.pos))

/-- The search: a single run is a candidate of lowest score, then row, then start; a split pair is looked for only when no
single run is a candidate and the request asks for it, and is the valid pair of lowest score, then upper row, then upper start, then
lower start; no placement means no candidate run, and no valid pair where a split was asked for. The rows are those of the layout in
the request's range; a candidate run is FREE seats of the kind side by side, none of them followed or preceded by a new lone seat under
a gap guard; its score is 4 times its distance in rows from the ideal row, and the distance of twice its middle from the centre
half-position (R52, R54 to R59). -/
def Obligations.SearchFindsTheLeastRun : Prop :=
  ∀ (l : Layout) (sc : Screening) (k : SeatKind) (n : Nat) (range : Option (Nat × Nat)) (split : Bool), 1 ≤ n →
    let valid := fun row a b : Nat => row ∈ searchRows l range ∧ row + 1 ∈ searchRows l range ∧
      isCandidate l sc k ((n + 1) / 2) row a = true ∧ isCandidate l sc k (n / 2) (row + 1) b = true ∧
      loneSeatDenial l sc (runSeats row a ((n + 1) / 2) ++ runSeats (row + 1) b (n / 2)) = none
    let score := fun row a b : Nat => runScore l ((n + 1) / 2) row a + runScore l (n / 2) (row + 1) b + 6
    (∀ p, findPlacement l sc k n range split = some p → p.split = false →
      ∃ row start, p.seats = runSeats row start n ∧ p.score = runScore l n row start ∧ row ∈ searchRows l range ∧
        isCandidate l sc k n row start = true ∧
        ∀ row' start', row' ∈ searchRows l range → isCandidate l sc k n row' start' = true →
          p.score < runScore l n row' start' ∨
            p.score = runScore l n row' start' ∧ (row < row' ∨ row = row' ∧ start ≤ start')) ∧
    (∀ p, findPlacement l sc k n range split = some p → p.split = true → 2 ≤ n ∧ split = true ∧
      (∀ row start, row ∈ searchRows l range → isCandidate l sc k n row start = false) ∧
      ∃ row a b, valid row a b ∧ p.seats = runSeats row a ((n + 1) / 2) ++ runSeats (row + 1) b (n / 2) ∧
        p.score = score row a b ∧
        ∀ row' a' b', valid row' a' b' →
          p.score < score row' a' b' ∨
            p.score = score row' a' b' ∧ (row < row' ∨ row = row' ∧ (a < a' ∨ a = a' ∧ b ≤ b'))) ∧
    (findPlacement l sc k n range split = none →
      (∀ row start, row ∈ searchRows l range → isCandidate l sc k n row start = false) ∧
      (2 ≤ n → split = true → ∀ row a b, ¬ valid row a b)) ∧
    (∀ row, row ∈ searchRows l range ↔
      row < l.rowCount ∧ ∀ first last, range = some (first, last) → first ≤ row ∧ row ≤ last) ∧
    ∀ row start m, 1 ≤ m →
      (runSeats row start m).length = m ∧ (∀ j, j < m → (runSeats row start m)[j]? = some ⟨row, start + j⟩) ∧
      (isCandidate l sc k m row start = true ↔
        (∀ j, j < m → l.seatKind ⟨row, start + j⟩ = some k ∧ sc.stateAt ⟨row, start + j⟩ = some .free) ∧
          loneSeatDenial l sc (runSeats row start m) = none) ∧
      (runScore l m row start : Int) =
        4 * |(row : Int) - l.ideal| + |2 * (start : Int) + m - 1 - l.centre|

/-- BEST holds the seats its search found, with the concessions in order, and its reply names them; with no placement it
answers NO_RUN. What refuses a BEST, in the order of its checks, with nothing changed but the reply: the form, the screening, the bound
screening, the room, NO_RUN, and the first seat in hold order that the FAU refuses (R24, R27, R52, R53, R59 to R61, R76). -/
def Obligations.BestHoldsThePlacement : Prop :=
  (∀ (d : Drop) (r : BestReq) (f : BestForm) (i : Fin 16) (sc : Screening) (s : State), s.kioskReady d →
    (s.basket d).lawful → (s.basket d).accepts r.serial → bestForm r = some f →
    s.findScreening r.screening = some (i, sc) →
    (∀ p, findPlacement (s.layout sc.layout) sc f.kind r.count r.range r.split = some p →
      s.holdable d sc (p.seats.zip f.concessions) →
      ∃ u : State, exec (.best d (some r)) s = .next u.transmit ∧ heldNow d i sc (p.seats.zip f.concessions) s u ∧
        replied d .ok (.placement p.split p.score (p.seats.map (placedSeat (s.layout sc.layout)))) u ∧
        (p.seats.zip f.concessions).map (·.1) = p.seats ∧ p.seats.length = r.count ∧
        u.orders = s.orders.erase (.best d (some r)) ∧ u.hlc = s.hlc ∧ basketFrame d s u) ∧
    (findPlacement (s.layout sc.layout) sc f.kind r.count r.range r.split = none → sc.state = .onSale →
      ((s.basket d).bound = none ∨ (s.basket d).bound = some sc.number) → (s.basket d).lines.length + r.count ≤ 10 →
      (s.basket d).seatCount + r.count ≤ 8 →
      exec (.best d (some r)) s = .next (((s.accept (.best d (some r))).basketReply d .noRun .none).transmit))) ∧
  (∀ (d : Drop) (r : BestReq) (s : State), s.kioskReady d → (s.basket d).accepts r.serial →
    let refused := fun c x => exec (.best d (some r)) s = .next (((s.accept (.best d (some r))).basketReply d c x).transmit)
    (bestForm r = none → refused .badValue .none) ∧
    ∀ f, bestForm r = some f →
      (s.findScreening r.screening = none → refused .noScreening .none) ∧
      ∀ i sc, s.findScreening r.screening = some (i, sc) →
        (sc.state = .loaded → refused .notOpen .none) ∧
        (sc.state = .closing ∨ sc.state = .closed → refused .closed .none) ∧
        (sc.state = .onSale →
          (∀ n, (s.basket d).bound = some n → n ≠ r.screening → refused .mixedScreening .none) ∧
          ((s.basket d).bound = none ∨ (s.basket d).bound = some r.screening →
            (10 < (s.basket d).lines.length + r.count ∨ 8 < (s.basket d).seatCount + r.count → refused .basketFull .none) ∧
            ((s.basket d).lines.length + r.count ≤ 10 → (s.basket d).seatCount + r.count ≤ 8 →
              ∀ p, findPlacement (s.layout sc.layout) sc f.kind r.count r.range r.split = some p →
                ∀ before x after k c, p.seats.zip f.concessions = before ++ x :: after →
                  (s.layout sc.layout).seatKind x.1 = some k → s.fau.priceSeat (seatQueryOf sc k x.2) = .refused c →
                  (∀ y ∈ before, ∀ k', (s.layout sc.layout).seatKind y.1 = some k' →
                    ∀ c', s.fau.priceSeat (seatQueryOf sc k' y.2) ≠ .refused c') →
                  refused c (.seat x.1)))))

/-- SNACK_ADD of a VALID item with room pushes its line at its price, opening an IDLE basket, whose generation is then the current
one, sets FLOOR when the totals met it and keeps the other flags; a code above 31, a full basket and an EMPTY item are refused. EXTEND
with fewer than two extensions adds half the hold time, up to the hold time, clears warning-sent and counts; the third is refused. VIEW
answers with the basket, OPEN or in TENDER, and changes nothing (R24, R27, R30, R33, R34, R76, R78). -/
def Obligations.SnackExtendAndView : Prop :=
  (∀ (d : Drop) (r : SnackReq) (s : State), s.kioskReady d → (s.basket d).lawful → (s.basket d).accepts r.serial →
     (∀ p, r.item ≤ 31 → (s.basket d).lines.length < 10 → (s.basket d).snackCount < 8 → s.fau.itemPrice r.item = some p →
       ∃ u : State, exec (.snackAdd d (some r)) s = .next u.transmit ∧ (u.basket d).state = .opened ∧
         (u.basket d).lines = (s.basket d).lines ++ [.snack r.item p.price s.fau.generation] ∧
         (u.basket d).serial =
           (if (s.basket d).state = .idle then nextSerial (s.basket d).serial else (s.basket d).serial) ∧
         (u.basket d).countdown = (if (s.basket d).state = .idle then s.hlc.hold else (s.basket d).countdown) ∧
         (u.basket d).bound = (s.basket d).bound ∧ (u.basket d).warned = (s.basket d).warned ∧
         (u.basket d).generation = (if (s.basket d).state = .idle then s.fau.generation else (s.basket d).generation) ∧
         (u.basket d).extensions = (s.basket d).extensions ∧ (u.basket d).attempts = (s.basket d).attempts ∧
         (u.basket d).frozen = none ∧ (u.basket d).saved = none ∧
         (let totals := s.fau.totals ((u.basket d).lines.filterMap BasketLine.kept)
          (u.basket d).totals = totals.1 ∧
          (u.basket d).flags = { (s.basket d).flags with floor := (s.basket d).flags.floor || totals.2 }) ∧
         replied d .ok .none u ∧
         (∀ j, u.screening j = s.screening j) ∧ u.hlc = s.hlc ∧ u.orders = s.orders.erase (.snackAdd d (some r)) ∧
         basketFrame d s u) ∧
     (31 < r.item →
       exec (.snackAdd d (some r)) s = .next (((s.accept (.snackAdd d (some r))).basketReply d .badValue .none).transmit)) ∧
     (r.item ≤ 31 → 10 ≤ (s.basket d).lines.length ∨ 8 ≤ (s.basket d).snackCount →
       exec (.snackAdd d (some r)) s =
         .next (((s.accept (.snackAdd d (some r))).basketReply d .basketFull .none).transmit)) ∧
     (r.item ≤ 31 → (s.basket d).lines.length < 10 → (s.basket d).snackCount < 8 → s.fau.itemPrice r.item = none →
       exec (.snackAdd d (some r)) s = .next (((s.accept (.snackAdd d (some r))).basketReply d .noItem .none).transmit))) ∧
  ((∀ (d : Drop) (n : Nat) (s : State), s.openFor d n →
     ((s.basket d).extensions < 2 → exec (.extend d (some n)) s =
       .next ((((s.accept (.extend d (some n))).setBasket d
         { s.basket d with countdown := min ((s.basket d).countdown + s.hlc.hold / 2) s.hlc.hold
                           extensions := (s.basket d).extensions + 1, warned := false }).basketReply d .ok
             (.countdown (min ((s.basket d).countdown + s.hlc.hold / 2) s.hlc.hold))).transmit)) ∧
     (2 ≤ (s.basket d).extensions → exec (.extend d (some n)) s =
       .next (((s.accept (.extend d (some n))).basketReply d .noExtension .none).transmit))) ∧
   (∀ (d : Drop) (n : Nat) (s : State), s.kioskReady d → (s.basket d).state ≠ .idle → (s.basket d).serial = n →
     exec (.view d (some n)) s = .next (((s.accept (.view d (some n))).basketReply d .ok .none).transmit)))

/-- UNDO removes the topmost line that is not VOID and the VOID slots above it, VOID_LINE makes one line VOID, CLEAR takes
every line; the seats of the lines that go are FREE again, and the basket is settled (R26, R27, R31, R32, R35). -/
def Obligations.UndoVoidLineAndClearReleaseSeats : Prop :=
  (∀ (d : Drop) (n : Nat) (kept vs : List BasketLine) (l : BasketLine) (s : State), s.openFor d n → s.numbersDistinct →
    (s.basket d).lines = kept ++ l :: vs → l ≠ .void → (∀ x ∈ vs, x = .void) →
    ∃ u : State, exec (.undo d (some n)) s = .next u.transmit ∧ seatsPut [l] .free s u ∧ linesNow kept s.fau (s.basket d) (u.basket d) ∧
      replied d .ok .none u ∧ u.orders = s.orders.erase (.undo d (some n)) ∧ basketFrame d s u) ∧
  (∀ (d : Drop) (r : VoidLineReq) (s : State), s.openFor d r.serial → s.numbersDistinct →
    (∀ l, r.slot ≤ 9 → (s.basket d).lines[r.slot]? = some l → l ≠ .void →
      ∃ u : State, exec (.voidLine d (some r)) s = .next u.transmit ∧ seatsPut [l] .free s u ∧
        linesNow ((s.basket d).lines.set r.slot .void) s.fau (s.basket d) (u.basket d) ∧ replied d .ok .none u ∧
        u.orders = s.orders.erase (.voidLine d (some r)) ∧ basketFrame d s u) ∧
    (r.slot ≤ 9 → (s.basket d).lines[r.slot]? = none ∨ (s.basket d).lines[r.slot]? = some .void →
      exec (.voidLine d (some r)) s = .next (((s.accept (.voidLine d (some r))).basketReply d .noLine .none).transmit)) ∧
    (9 < r.slot → exec (.voidLine d (some r)) s =
      .next (((s.accept (.voidLine d (some r))).basketReply d .badValue .none).transmit))) ∧
  (∀ (d : Drop) (n : Nat) (s : State), s.openFor d n → s.numbersDistinct →
    ∃ u : State, exec (.clear d (some n)) s = .next u.transmit ∧ seatsPut (s.basket d).lines .free s u ∧
      u.basket d = (s.basket d).cleared ∧ replied d .ok .none u ∧ u.orders = s.orders.erase (.clear d (some n)) ∧
      basketFrame d s u)

/-- TENDER freezes a basket at the current generation that passes the checks: the gross is frozen, the countdown saved, to
stand where it stopped, and the TDU told. A basket of an old generation is priced whole, line by line, and the
seats of refused lines are freed: a changed gross or a refused line answers PRICE_CHANGED and freezes nothing, an unchanged basket
freezes as it then is (R37, R43 to R45). -/
def Obligations.TenderFreezesTheBasket : Prop :=
  ∀ (d : Drop) (n : Nat) (s : State), s.openFor d n →
    (3 ≤ (s.basket d).attempts → exec (.tender d (some n)) s =
      .next (((s.accept (.tender d (some n))).basketReply d .attemptsUsed .none).transmit)) ∧
    (∀ i sc, (s.basket d).attempts < 3 → s.boundScreening (s.basket d) = some (i, sc) → sc.withdrawn = true →
      exec (.tender d (some n)) s = .next (((s.accept (.tender d (some n))).basketReply d .withdrawn .none).transmit)) ∧
    (∀ i sc k, (s.basket d).attempts < 3 → s.boundScreening (s.basket d) = some (i, sc) → sc.withdrawn = false →
      companionSlot (s.layout sc.layout) (s.basket d) = some k → exec (.tender d (some n)) s =
        .next (((s.accept (.tender d (some n))).basketReply d .companionRule (.line k)).transmit)) ∧
    (s.tenderDenial (s.basket d) = none → (s.basket d).generation = s.fau.generation →
      ∃ u : State, exec (.tender d (some n)) s = .next u.transmit ∧
        u.basket d = { s.basket d with frozen := some (s.basket d).totals.gross, saved := some (s.basket d).countdown
                                       state := .tender } ∧
        u.orders = s.orders.erase (.tender d (some n)) ++
          [.tenderStart d { serial := (s.basket d).serial, frozen := (s.basket d).totals.gross
                            seats := (s.basket d).seatCount, snacks := (s.basket d).snackCount
                            attempts := (s.basket d).attempts }] ∧
        (∀ j, u.screening j = s.screening j) ∧ basketsKeptBut d s u ∧ keptBut [.sbu, .orders] s u) ∧
    (s.tenderDenial (s.basket d) = none → (s.basket d).generation ≠ s.fau.generation → s.numbersDistinct →
      let refused := ∃ l ∈ (s.basket d).lines, ∃ code, s.linePrice (.refused code) l
      ∃ (u : State) (b : Basket), exec (.tender d (some n)) s = .next u.transmit ∧ pricedWhole (s.basket d) s b ∧
        refusedFreed (s.basket d) s u ∧
        (refused ∨ b.totals.gross ≠ (s.basket d).totals.gross →
          u.basket d = b ∧ replied d .priceChanged .none u ∧ u.orders = s.orders.erase (.tender d (some n))) ∧
        (¬ refused → b.totals.gross = (s.basket d).totals.gross →
          u.basket d = { b with frozen := some (s.basket d).totals.gross, saved := some b.countdown, state := .tender } ∧
          u.orders = s.orders.erase (.tender d (some n)) ++
            [.tenderStart d { serial := b.serial, frozen := b.totals.gross, seats := b.seatCount, snacks := b.snackCount
                              attempts := b.attempts }]) ∧
        basketFrame d s u)

/-- ATTEMPT, UNFREEZE and EXPIRE act on a basket in TENDER with their serial and are discarded otherwise; HOLD_EXPIRY acts on
an OPEN basket whose countdown stands at 0. An expired basket gives its seats back and is cleared and pushed EXPIRED; an
unfrozen one is OPEN with the greater of its saved countdown and 60 seconds, priced whole when its generation is old (R37, R39, R46). That the expiry is an order of its own, which a request taken first
can stop, is the model's choice (notes/assumptions/5.md). -/
def Obligations.TenderOrdersAndExpiry : Prop :=
  ∀ (d : Drop) (n : Nat) (o : TenderOutcome) (s : State),
    ((s.basket d).state = .tender → (s.basket d).serial = n →
      exec (.attempt d n) s =
        .next ((s.accept (.attempt d n)).setBasket d { s.basket d with attempts := (s.basket d).attempts + 1 }) ∧
      (let b := { s.basket d with state := .opened, frozen := none, saved := none
                                  countdown := max ((s.basket d).saved.getD 0) 60, warned := false }
       ∃ u : State, exec (.unfreeze d n o) s = .next u.transmit ∧ pushed d (.unfrozen o) u ∧
        ((s.basket d).generation = s.fau.generation → u.basket d = b ∧ ∀ j, u.screening j = s.screening j) ∧
        ((s.basket d).generation ≠ s.fau.generation →
          pricedWhole b s (u.basket d) ∧ (s.numbersDistinct → refusedFreed b s u)) ∧
        (u.basket d).state ≠ .tender ∧ (u.basket d).generation = s.fau.generation ∧
        u.orders = s.orders.erase (.unfreeze d n o) ∧ basketFrame d s u) ∧
      (s.numbersDistinct → ∃ u : State, exec (.expire d n) s = .next u.transmit ∧ u.basket d = (s.basket d).cleared ∧
        seatsPut (s.basket d).lines .free s u ∧ pushed d .expired u ∧ u.orders = s.orders.erase (.expire d n) ∧
        basketFrame d s u)) ∧
    ((s.basket d).state ≠ .tender ∨ (s.basket d).serial ≠ n →
      exec (.attempt d n) s = .next (s.accept (.attempt d n)) ∧
      exec (.unfreeze d n o) s = .next (s.accept (.unfreeze d n o)).transmit ∧
      exec (.expire d n) s = .next (s.accept (.expire d n)).transmit) ∧
    ((s.basket d).state = .opened → (s.basket d).countdown = 0 → s.numbersDistinct →
      ∃ u : State, exec (.holdExpiry d) s = .next u.transmit ∧ u.basket d = (s.basket d).cleared ∧
        seatsPut (s.basket d).lines .free s u ∧ pushed d .expired u ∧ u.orders = s.orders.erase (.holdExpiry d) ∧
        basketFrame d s u) ∧
    ((s.basket d).state ≠ .opened ∨ (s.basket d).countdown ≠ 0 →
      exec (.holdExpiry d) s = .next (s.accept (.holdExpiry d)).transmit)

/-- COMMIT of the basket in TENDER it names: every seat of its lines is SOLD with the sale number and origin KIOSK, the orders
go out in order (the record, the issue when there are snack lines, the print order, and last the confirmation), made from the basket
as it stood, and the basket is cleared and pushed SOLD (R47 to R49, R136, R148). That a CLOSING screening is tested at each seat sold,
as R13 says, is the model's reading of R47 (notes/assumptions/47.md). -/
def Obligations.CommitSellsTheBasket : Prop :=
  ∀ (d : Drop) (c : CommitOrder) (s : State),
    ((s.basket d).state = .tender → (s.basket d).serial = c.serial → s.numbersDistinct →
      ∃ (u : State) (r : SaleRecord) (issue : List Instr) (items : List PrintItem),
        exec (.commit d c) s = .next u.transmit ∧ seatsPut (s.basket d).lines (.sold c.sale .kiosk) s u ∧
        u.basket d = (s.basket d).cleared ∧ pushed d (.sold c.sale) u ∧
        u.orders = s.orders.erase (.commit d c) ++ [.saleRecord r] ++ issue ++
          [.printOrder d items, .commitConfirmation d c.serial] ∧
        r.sale = c.sale ∧ r.drop = d ∧ r.serial = c.serial ∧ r.screening = (s.basket d).bound ∧ r.time = s.hlc.clock ∧
        r.totals = (s.basket d).totals ∧ r.flags = (s.basket d).flags ∧ r.payment = c.payment ∧
        (∀ i sc, s.boundScreening (s.basket d) = some (i, sc) → r.withdrawn = sc.withdrawn) ∧
        ((s.basket d).bound = none → r.withdrawn = false) ∧
        r.seats.length = (s.basket d).seatCount ∧
        r.snacks.map (·.serial) = List.range' (c.firstVoucher.getD 0) (s.basket d).snackCount ∧
        (∀ (j item amount g : Nat), ((s.basket d).lines.filter BasketLine.isSnack)[j]? = some (BasketLine.snack item amount g) →
          r.snacks[j]? = some (⟨item, c.firstVoucher.getD 0 + j, amount⟩ : SnackEntry)) ∧
        ((s.basket d).snackCount = 0 → issue = []) ∧
        (0 < (s.basket d).snackCount → ∃ o, issue = [.issueOrder o] ∧ o.sale = c.sale ∧ o.time = s.hlc.clock ∧
          o.lines.map (·.serial) = List.range' (c.firstVoucher.getD 0) (s.basket d).snackCount ∧
          (∀ i sc, s.boundScreening (s.basket d) = some (i, sc) →
            o.screening = some { number := sc.number, day := sc.startDay, minute := sc.startMinute }) ∧
          ((s.basket d).bound = none → o.screening = none) ∧
          ∀ (j item amount g : Nat), ((s.basket d).lines.filter BasketLine.isSnack)[j]? = some (BasketLine.snack item amount g) →
            o.lines[j]? = some (⟨item, c.firstVoucher.getD 0 + j, amount, s.fau.itemMinutes item⟩ : IssueLine)) ∧
        items.map itemTag = (List.range ((s.basket d).seatCount + 1)).map (fun k => { sale := c.sale, index := k + 1 }) ∧
        (∀ i sc, s.boundScreening (s.basket d) = some (i, sc) →
          let l := s.layout sc.layout
          ∀ (j n : Nat) a kind conc (amount g : Nat),
            ((s.basket d).lines.filter BasketLine.isSeat)[j]? = some (BasketLine.seat n a kind conc amount g) →
            r.seats[j]? = some (⟨l.label a.row, l.seatNumber a, kind, conc, amount⟩ : SeatEntry) ∧
            items[j]? = some (PrintItem.ticket
              ⟨c.sale, j + 1, n, sc.startDay, sc.startMinute, sc.layout.val, l.label a.row, l.seatNumber a, conc, amount⟩)) ∧
        (∃ x : Receipt, items[(s.basket d).seatCount]? = some (PrintItem.receipt x) ∧
          x.gross = (s.basket d).totals.gross ∧ x.seatTax = (s.basket d).totals.seatTax ∧
          x.snackTax = (s.basket d).totals.snackTax ∧
          (c.payment = .none → x.approval = none) ∧ (∀ a k, c.payment = .card a k → x.approval = some a) ∧
          x.codes = (List.range' (c.firstVoucher.getD 0) (s.basket d).snackCount).map voucherCode ∧
          x.lines.length = ((s.basket d).lines.filter BasketLine.live).length ∧
          (∀ (j item amount g : Nat), ((s.basket d).lines.filter BasketLine.live)[j]? = some (BasketLine.snack item amount g) →
            x.lines[j]? = some (SummaryLine.snack item amount)) ∧
          ∀ i sc, s.boundScreening (s.basket d) = some (i, sc) → ∀ (j n : Nat) a kind conc (amount g : Nat),
            ((s.basket d).lines.filter BasketLine.live)[j]? = some (BasketLine.seat n a kind conc amount g) →
            x.lines[j]? =
              some (SummaryLine.seat ((s.layout sc.layout).label a.row) ((s.layout sc.layout).seatNumber a) conc amount)) ∧
        basketFrame d s u) ∧
    ((s.basket d).state ≠ .tender ∨ (s.basket d).serial ≠ c.serial →
      exec (.commit d c) s = .next (s.accept (.commit d c)).transmit)

/-! ## Tender sessions and reader slots -/

/-- A tender start makes an IDLE session RESERVING with the next reference and asks for a journal place; grants that match
move the protocol on, and the last one ends it: in COMMITTING when nothing is to pay, else in CARD_WAIT with a new attempt; a
stray grant goes back (R94, R95, R97). That the OK to the TENDER shows the basket as the SBU then holds it is the model's choice
(notes/assumptions/39.md). -/
def Obligations.ReservationProtocol : Prop :=
  (∀ (d : Drop) (t : TenderStart) (s : State), (s.session d).state = .idle →
    ∃ u : State, exec (.tenderStart d t) s = .next u ∧
      u.session d = { Session.reset with state := .reserving, reference := ((s.session d).reference + 1) % 256
                                         start := some t, phase := some .journal
                                         lastTimedOut := (s.session d).lastTimedOut } ∧
      u.orders = s.orders.erase (.tenderStart d t) ++ [.journalGrantRequest d (u.session d).reference] ∧
      u.waits d .pushTender (.tenderPush (tenderPushOf (u.session d))) ∧ u.hlc = s.hlc ∧ u.reader d = s.reader d ∧
      sessionFrame d s u) ∧
  (∀ (d : Drop) (ref : Nat) (t : TenderStart) (s : State), (s.session d).state = .reserving →
    (s.session d).reference = ref → (s.session d).start = some t →
    (∀ n, (s.session d).phase = some .journal → exec (.reservationGrant d ref (.journal n)) s =
      .next (((s.accept (.reservationGrant d ref (.journal n))).setSession d
        { s.session d with journalGrant := some n, phase := some (if t.snacks = 0 then .print else .voucher) }).send
          [if t.snacks = 0 then .printGrantRequest d ref (t.seats + 1) else .voucherGrantRequest d ref t.snacks])) ∧
    (∀ a k, (s.session d).phase = some .voucher → exec (.reservationGrant d ref (.voucher a k)) s =
      .next (((s.accept (.reservationGrant d ref (.voucher a k))).setSession d
        { s.session d with voucherGrant := some (a, k), phase := some .print }).send
          [.printGrantRequest d ref (t.seats + 1)])) ∧
    (∀ k, (s.session d).phase = some .print →
      ∃ u : State, exec (.reservationGrant d ref (.print k)) s = .next u ∧ u.hlc = s.hlc ∧ sessionFrame d s u ∧
        u.waits d .pushTender (.tenderPush (tenderPushOf (u.session d))) ∧ (u.session d).phase = none ∧
        (u.session d).printGrant = some k ∧ (u.session d).journalGrant = (s.session d).journalGrant ∧
        (u.session d).voucherGrant = (s.session d).voucherGrant ∧ (u.session d).start = some t ∧
        u.waits d .reply (.reply
          { code := .ok, serial := some (s.basket d).serial, basket := some (basketRecord (s.basket d) s.fau.generation)
            detail := if t.frozen = 0 then .tender .committing none none
              else .tender .cardWait (some (t.attempts + 1)) (some t.frozen) }) ∧
        (t.frozen = 0 → (u.session d).state = .committing ∧ u.reader d = s.reader d ∧
          u.orders = s.orders.erase (.reservationGrant d ref (.print k)) ++
            [.commit d { serial := t.serial, sale := (s.session d).journalGrant.getD 0, payment := .none
                         firstVoucher := if t.snacks = 0 then none else (s.session d).voucherGrant.map (·.1) }]) ∧
        (0 < t.frozen → (u.session d).state = .cardWait ∧ (u.session d).attempt = some (t.attempts + 1) ∧
          (u.session d).cardWait = some s.hlc.cardWait ∧ (u.reader d).contacts = (s.reader d).contacts ∧
          ((s.reader d).state = .classified → (s.reader d).outstanding = .none →
            u.reader d = { s.reader d with spent := false }.toPowerUp ∧
            u.waits d .reader (.reader (.on ((s.reader d).supply.getD .v3)))) ∧
          ((s.reader d).state ≠ .classified → u.reader d = { s.reader d with spent := false }) ∧
          u.orders = s.orders.erase (.reservationGrant d ref (.print k)) ++ [.attempt d t.serial]))) ∧
  (∀ (d : Drop) (ref : Nat) (g : Grant) (s : State), (s.session d).state ≠ .reserving ∨ (s.session d).reference ≠ ref ∨
      (s.session d).phase ≠ some (grantPhase g) →
    exec (.reservationGrant d ref g) s =
      .next ((s.accept (.reservationGrant d ref g)).send [grantReturned d ref g]))

/-- A session that ends without a sale returns its grants and hands the basket back: on a matching refusal, at the end of the
card wait (EXPIRE after the third attempt), on a CANCEL in CARD_WAIT or CARD_READ, and on a release; an authorisation that
times out or is released sends a timeout void in place of the journal return and keeps the sale number (R96, R98, R102, R103,
R108, R110). What the push at IDLE carries, the outcome CANCELLED of a release, what the replies to TENDER and CANCEL show of the
basket, and that a timeout is an order of its own that acts at a countdown of 0, are the model's choices (notes/assumptions/17.md,
18.md, 39.md, 5.md). -/
def Obligations.SessionsEndWithoutASale : Prop :=
  ∀ (d : Drop) (s : State),
    (∀ ref p code, (s.session d).state = .reserving → (s.session d).reference = ref → (s.session d).phase = some p →
      ∃ u : State, exec (.reservationRefusal d ref p code) s = .next u.transmit ∧
        sessionOver d (.reservationRefusal d ref p code) (s.session d).ended (.refused code)
          (s.allReturns d ++ [.unfreeze d (s.session d).serial (.refused code)]) s u ∧
        u.waits d .reply (.reply { code := code, serial := some (s.basket d).serial
                                   basket := some (basketRecord (s.basket d) s.fau.generation), detail := .none })) ∧
    (∀ ref p code, (s.session d).state ≠ .reserving ∨ (s.session d).reference ≠ ref ∨ (s.session d).phase ≠ some p →
      exec (.reservationRefusal d ref p code) s = .next (s.accept (.reservationRefusal d ref p code)).transmit) ∧
    ((s.session d).state = .cardWait → (s.session d).cardWait = some 0 →
      ∃ u : State, exec (.cardWaitTimeout d) s = .next u.transmit ∧
        sessionOver d (.cardWaitTimeout d) (s.session d).ended .cardTimeout
          (s.allReturns d ++ [if (s.session d).attempt = some 3 then .expire d (s.session d).serial
            else .unfreeze d (s.session d).serial .cardTimeout]) s u) ∧
    ((s.session d).state ≠ .cardWait → exec (.cardWaitTimeout d) s = .next (s.accept (.cardWaitTimeout d)).transmit) ∧
    (∀ n, s.kioskReady d → (s.session d).serial = n → (s.session d).state = .cardWait ∨ (s.session d).state = .cardRead →
      ∃ u : State, exec (.cancel d (some n)) s = .next u.transmit ∧
        sessionOver d (.cancel d (some n)) (s.session d).ended .cancelled
          (s.allReturns d ++ [.unfreeze d n .cancelled]) s u ∧
        u.waits d .reply (.reply { code := .ok, serial := (s.session d).start.map (·.serial), basket := none
                                   detail := .none })) ∧
    (∀ n, s.kioskReady d → (s.session d).state = .idle → exec (.cancel d (some n)) s =
      .next (((s.accept (.cancel d (some n))).cancelReply d .noTender .none).transmit)) ∧
    (∀ n, s.kioskReady d → (s.session d).state ≠ .idle → (s.session d).serial ≠ n → exec (.cancel d (some n)) s =
      .next (((s.accept (.cancel d (some n))).cancelReply d .staleBasket .none).transmit)) ∧
    (∀ n, s.kioskReady d → (s.session d).serial = n →
      (s.session d).state = .authPending ∨ (s.session d).state = .committing → exec (.cancel d (some n)) s =
        .next (((s.accept (.cancel d (some n))).cancelReply d .tooLate .none).transmit)) ∧
    (∀ sale, (s.session d).journalGrant = some sale →
      let void := Instr.timeoutVoidOrder { sale := sale, drop := d, serial := (s.session d).serial
                                           frozen := (s.session d).frozen, time := s.hlc.clock }
      ((s.session d).state = .authPending → (s.session d).authWait = some 0 →
        ∃ u : State, exec (.authTimeout d) s = .next u.transmit ∧
          sessionOver d (.authTimeout d) { (s.session d).ended with lastTimedOut := sale } .authTimeout
            ([void] ++ (s.session d).otherReturns d ++ [.expire d (s.session d).serial]) s u) ∧
      ((s.session d).state = .authPending ∨ (s.session d).state = .committing →
        ∃ u : State, exec (.release d (s.session d).serial) s = .next u.transmit ∧
          sessionOver d (.release d (s.session d).serial) { (s.session d).ended with lastTimedOut := sale } .cancelled
            ([void] ++ (s.session d).otherReturns d) s u)) ∧
    ((s.session d).state ≠ .authPending → exec (.authTimeout d) s = .next (s.accept (.authTimeout d)).transmit) ∧
    ((s.session d).state = .reserving ∨ (s.session d).state = .cardWait ∨ (s.session d).state = .cardRead →
      ∃ u : State, exec (.release d (s.session d).serial) s = .next u.transmit ∧
        sessionOver d (.release d (s.session d).serial) (s.session d).ended .cancelled (s.allReturns d) s u) ∧
    (∀ n, (s.session d).state = .idle ∨ (s.session d).serial ≠ n →
      exec (.release d n) s = .next (s.accept (.release d n)).transmit)

/-- AUTH_RESULT for the one session in AUTH_PENDING that holds its sale number: APPROVED for the frozen amount commits, a
decline or another amount ends the session; with no such session it answers LATE or UNKNOWN_TENDER, and a field out of range
is BAD_VALUE. The delivery of the off command moves a session in CARD_READ to AUTH_PENDING and raises its AUTH_REQUEST; the
commit confirmation ends a session in COMMITTING as SOLD; each is discarded otherwise (R101, R105 to R107, R109). What the push
at IDLE carries is the model's choice (notes/assumptions/17.md). -/
def Obligations.AuthorisationAndConfirmation : Prop :=
  (∀ (h : HostTag) (r : AuthResultReq) (s : State), s.hlc.partState = .ready →
     let c := Instr.authResult h (some r)
     (authFieldsOk r = false → exec c s = .next (((s.accept c).replyHost h .badValue .none).transmit)) ∧
     (authFieldsOk r = true →
       (∀ (d : Drop) (t : Token), (s.session d).state = .authPending → (s.session d).journalGrant = some r.sale →
         (∀ e, (s.session e).state = .authPending → (s.session e).journalGrant = some r.sale → e = d) →
         (s.session d).token = some t →
         (r.outcome = 1 → r.amount = (s.session d).frozen →
           ∃ u : State, exec c s = .next ((u.replyHost h .ok .none).transmit) ∧
             u.session d = { s.session d with state := .committing, token := none, authWait := none } ∧
             u.orders = s.orders.erase c ++
               [.commit d { serial := (s.session d).serial, sale := r.sale, payment := .card r.approval t.scheme
                            firstVoucher := if (s.session d).snacks = 0 then none
                              else (s.session d).voucherGrant.map (·.1) }] ∧
             u.waits d .pushTender (.tenderPush (tenderPushOf (u.session d))) ∧ u.reader d = s.reader d ∧ u.hlc = s.hlc ∧
             sessionFrame d s u) ∧
         (r.outcome = 1 → r.amount ≠ (s.session d).frozen →
           ∃ u : State, exec c s = .next ((u.replyHost h .mismatch .none).transmit) ∧
             sessionOver d c (s.session d).ended .mismatch (s.allReturns d ++
               [if (s.session d).attempt = some 3 then .expire d (s.session d).serial
                 else .unfreeze d (s.session d).serial .mismatch]) s u) ∧
         (r.outcome = 2 →
           ∃ u : State, exec c s = .next ((u.replyHost h .ok .none).transmit) ∧
             sessionOver d c (s.session d).ended .declined (s.allReturns d ++
               [if (s.session d).attempt = some 3 then .expire d (s.session d).serial
                 else .unfreeze d (s.session d).serial .declined]) s u)) ∧
       ((∀ d, (s.session d).state = .authPending → (s.session d).journalGrant ≠ some r.sale) →
         ((∃ d, (s.session d).lastTimedOut = r.sale) →
           exec c s = .next (((s.accept c).replyHost h .late .none).transmit)) ∧
         ((∀ d, (s.session d).lastTimedOut ≠ r.sale) →
           exec c s = .next (((s.accept c).replyHost h .unknownTender .none).transmit))))) ∧
  (∀ (d : Drop) (n : Nat) (s : State),
     ((s.session d).state = .cardRead → ∃ u : State, exec (.readerOffDelivered d) s = .next u.transmit ∧
       u.session d = { s.session d with state := .authPending, authWait := some s.hlc.authTimeout } ∧
       u.hlc.conditions.raised (.auth d) = true ∧ hlcKept s u ∧ u.reader d = s.reader d ∧
       u.waits d .pushTender (.tenderPush (tenderPushOf (u.session d))) ∧
       u.orders = s.orders.erase (.readerOffDelivered d) ∧ sessionFrame d s u) ∧
     ((s.session d).state ≠ .cardRead →
       exec (.readerOffDelivered d) s = .next (s.accept (.readerOffDelivered d)).transmit) ∧
     ((s.session d).state = .committing → (s.session d).serial = n →
       ∃ u : State, exec (.commitConfirmation d n) s = .next u ∧ u.session d = (s.session d).ended ∧
         u.waits d .pushTender (.tenderPush (endedPush (s.session d) .sold)) ∧ u.reader d = s.reader d ∧ u.hlc = s.hlc ∧
         u.orders = s.orders.erase (.commitConfirmation d n) ∧ sessionFrame d s u) ∧
     ((s.session d).state ≠ .committing ∨ (s.session d).serial ≠ n →
       exec (.commitConfirmation d n) s = .next (s.accept (.commitConfirmation d n))))

/-- The reader's reports from a kiosk drop: TOKEN in READY gives a session in CARD_WAIT its token and powers the card down;
POWER_DONE acknowledges the command outstanding, and a card no longer wanted is powered down; READ_FAILED powers down; from
any other drop each is discarded (R88 to R91, R100). -/
def Obligations.ReaderReportsMoveTheCard : Prop :=
  ∀ (d : Drop) (t : Token) (s : State),
    ((s.dropRec d).kind = .kiosk →
      ((s.reader d).state = .ready → ∃ u : State, exec (.token d (some t)) s = .next u ∧
        u.reader d = (s.reader d).toPowerDown ∧ u.waits d .reader (.reader .off) ∧
        u.waits d .pushSlot (.slotPush (slotPushOf (u.reader d) .change)) ∧
        ((s.session d).state = .cardWait →
          u.session d = { s.session d with state := .cardRead, token := some t, cardWait := none } ∧
          u.waits d .pushTender (.tenderPush (tenderPushOf (u.session d)))) ∧
        ((s.session d).state ≠ .cardWait → u.session d = s.session d) ∧
        u.orders = s.orders.erase (.token d (some t)) ∧ u.hlc = s.hlc ∧ sessionFrame d s u) ∧
      ((s.reader d).state ≠ .ready → exec (.token d (some t)) s = .next (s.accept (.token d (some t))) ∧
        exec (.readFailed d (some ())) s = .next (s.accept (.readFailed d (some ())))) ∧
      ((s.reader d).state = .ready → ∃ u : State, exec (.readFailed d (some ())) s = .next u ∧
        u.reader d = (s.reader d).toPowerDown ∧ u.waits d .reader (.reader .off) ∧
        u.waits d .pushSlot (.slotPush (slotPushOf (u.reader d) .readFailed)) ∧ u.session d = s.session d ∧
        u.orders = s.orders.erase (.readFailed d (some ())) ∧ u.hlc = s.hlc ∧ sessionFrame d s u) ∧
      ((s.reader d).state = .poweringUp → (s.reader d).outstanding = .on →
        ((s.reader d).removalPending = false → (s.session d).state = .cardWait →
          exec (.powerDone d (some true)) s = .next ((s.accept (.powerDone d (some true))).setReader d
            { s.reader d with outstanding := .none, timer := some { purpose := .delay, ms := 40 } })) ∧
        ((s.reader d).removalPending = true ∨ (s.session d).state ≠ .cardWait →
          ∃ u : State, exec (.powerDone d (some true)) s = .next u ∧ u.reader d = (s.reader d).toPowerDown ∧
            u.waits d .reader (.reader .off) ∧ u.session d = s.session d ∧ u.hlc = s.hlc ∧ sessionFrame d s u)) ∧
      ((s.reader d).state = .poweringDown → (s.reader d).outstanding = .off →
        exec (.powerDone d (some false)) s = .next ((s.accept (.powerDone d (some false))).setReader d
          { s.reader d with outstanding := .none, timer := some { purpose := .delay, ms := 40 } }))) ∧
    ((s.dropRec d).kind ≠ .kiosk →
      exec (.token d (some t)) s = .next (s.accept (.token d (some t))) ∧
      exec (.readFailed d (some ())) s = .next (s.accept (.readFailed d (some ()))) ∧
      (∀ on, exec (.powerDone d (some on)) s = .next (s.accept (.powerDone d (some on)))) ∧
      ∀ c, exec (.contacts d (some c)) s = .next (s.accept (.contacts d (some c))))

/-- CONTACTS from a kiosk drop, in every state: both contacts made start or restart the settle timer, one contact alone is PARTIAL
with its two seconds, or stays PARTIAL with its timer running, none is EMPTY, and a report that changes nothing that counts is recorded;
the card class and supply are gone in EMPTY, PARTIAL and SETTLING; a changed state is pushed CHANGE; a card pulled under power loses its
data and is powered down and pushed CARD_REMOVED, or is noted while its power-up command is not yet acknowledged (R83 to R85, R88 to R90,
R92). That the CARD_REMOVED push shows the slot already powered down is the model's choice (notes/assumptions/16.md). -/
def Obligations.ContactsMoveTheSlot : Prop :=
  ∀ (d : Drop) (c : Contacts) (s : State), (s.dropRec d).kind = .kiosk →
    let r := s.reader d
    let recorded := { r with contacts := c }
    let settling := { r with contacts := c, state := .settling, timer := some { purpose := .settle, ms := 100 }
                             cardClass := none, supply := none }
    let halfIn := { r with contacts := c, state := .partialIn, timer := some { purpose := .partialIn, ms := 2000 }
                           cardClass := none, supply := none }
    let empty := { r with contacts := c, state := .empty, timer := none, spent := false, removalPending := false
                          badSupply := false, cardClass := none, supply := none }
    ∃ u : State, exec (.contacts d (some c)) s = .next u ∧ (u.reader d).contacts = c ∧ u.session d = s.session d ∧
      u.orders = s.orders.erase (.contacts d (some c)) ∧ u.hlc = s.hlc ∧ sessionFrame d s u ∧
      (∀ i, i ≠ .pushSlot → i ≠ .reader → u.slot d i = s.slot d i) ∧
      (r.state = .empty →
        (bothMade c = true → u.reader d = settling) ∧ (noneMade c = true → u.reader d = recorded) ∧
        (bothMade c = false → noneMade c = false → u.reader d = halfIn)) ∧
      (r.state = .partialIn →
        (bothMade c = true → u.reader d = settling) ∧ (noneMade c = true → u.reader d = empty) ∧
        (bothMade c = false → noneMade c = false → u.reader d = recorded)) ∧
      (r.state = .settling →
        (bothMade c = true → (c ≠ r.contacts → u.reader d = settling) ∧ (c = r.contacts → u.reader d = r)) ∧
        (noneMade c = true → u.reader d = empty) ∧ (bothMade c = false → noneMade c = false → u.reader d = halfIn)) ∧
      (r.state = .classified →
        (bothMade c = true →
          (c.sense1 = r.contacts.sense1 ∧ c.sense2 = r.contacts.sense2 → u.reader d = recorded) ∧
          (c.sense1 ≠ r.contacts.sense1 ∨ c.sense2 ≠ r.contacts.sense2 → u.reader d = settling)) ∧
        (noneMade c = true → u.reader d = empty) ∧ (bothMade c = false → noneMade c = false → u.reader d = halfIn)) ∧
      (r.state = .unsupported ∨ r.state = .fault →
        (noneMade c = true → u.reader d = empty) ∧ (noneMade c = false → u.reader d = recorded)) ∧
      (r.state.powered = false → u.slot d .reader = s.slot d .reader ∧
        ((u.reader d).state ≠ r.state → u.waits d .pushSlot (.slotPush (slotPushOf (u.reader d) .change))) ∧
        ((u.reader d).state = r.state → u.slot d .pushSlot = s.slot d .pushSlot)) ∧
      (r.state.powered = true → bothMade c = true → u.reader d = recorded) ∧
      (r.state = .poweringDown → u.reader d = recorded) ∧
      (r.state = .poweringUp → r.timing .delay = false → bothMade c = false →
        u.reader d = { recorded with removalPending := true }) ∧
      (r.state.powered = true → bothMade c = true ∨ r.state = .poweringDown ∨ r.state = .poweringUp ∧ r.timing .delay = false →
        u.slot d .reader = s.slot d .reader ∧ u.slot d .pushSlot = s.slot d .pushSlot) ∧
      (r.state = .ready ∨ r.state = .poweringUp ∧ r.timing .delay = true → bothMade c = false →
        u.reader d = { recorded with dataLost := true }.toPowerDown ∧
          u.waits d .reader (.reader .off) ∧ u.waits d .pushSlot (.slotPush (slotPushOf (u.reader d) .cardRemoved)))

/-- The six reader timers act on a slot that runs them and on no other: REINSERT, classification by the sense contacts and the
drop's supply, READY or power-down after the delay, power-down or FAULT when no acknowledge came, and the move by the detect
contacts after power-down, where a card that is still to be read and meets the power condition is powered again (R84, R86 to R88,
R90). That a timer command which finds no timer of its purpose changes nothing is the
model's choice (notes/assumptions/3.md). -/
def Obligations.ReaderTimersMoveTheSlot : Prop :=
  ∀ (d : Drop) (s : State),
    ((s.reader d).state = .partialIn → (s.reader d).timing .partialIn = true →
      exec (.readerPartialTimeout d) s =
        .next ((s.setReader d { s.reader d with timer := none }).pushSlot d .reinsert)) ∧
    ((s.reader d).state = .settling → (s.reader d).timing .settle = true →
      ∃ u : State, exec (.readerSettleEnd d) s = .next u ∧ u.orders = s.orders ∧ u.hlc = s.hlc ∧
        u.session d = s.session d ∧ sessionFrame d s u ∧
        (((s.reader d).spent = true ∨ (s.session d).state ≠ .cardWait) →
          u.reader d = (s.reader d).classify (s.dropRec d).supply) ∧
        ((s.reader d).spent = false → (s.session d).state = .cardWait → (s.reader d).outstanding = .none →
          ((s.reader d).classify (s.dropRec d).supply).state = .classified →
          u.reader d = ((s.reader d).classify (s.dropRec d).supply).toPowerUp ∧
            ∃ v, u.waits d .reader (.reader (.on v)) ∧ (u.reader d).supply = some v) ∧
        ((u.reader d).cardClass = match (s.reader d).contacts.sense1, (s.reader d).contacts.sense2 with
          | true, false => some .v3
          | false, true => some .v5
          | true, true => some .dual
          | false, false => some .notACard) ∧
        ((u.reader d).state = .unsupported ↔ (s.reader d).contacts.sense1 = false ∧
          ((s.reader d).contacts.sense2 = true → (s.dropRec d).supply = .only3V))) ∧
    ((s.reader d).state = .poweringUp → (s.reader d).timing .acknowledge = true →
      ∃ u : State, exec (.readerPowerUpAckTimeout d) s = .next u ∧ u.reader d = (s.reader d).toPowerDown ∧
        u.waits d .reader (.reader .off) ∧ u.session d = s.session d ∧ u.orders = s.orders ∧ u.hlc = s.hlc ∧
        sessionFrame d s u) ∧
    ((s.reader d).state = .poweringUp → (s.reader d).timing .delay = true →
      ((s.session d).state = .cardWait → exec (.readerPowerUpDelayEnd d) s =
        .next ((s.setReader d { s.reader d with state := .ready, timer := none }).pushSlot d .change)) ∧
      ((s.session d).state ≠ .cardWait →
        ∃ u : State, exec (.readerPowerUpDelayEnd d) s = .next u ∧ u.reader d = (s.reader d).toPowerDown ∧
          u.waits d .reader (.reader .off) ∧ u.session d = s.session d ∧ u.orders = s.orders ∧ sessionFrame d s u)) ∧
    ((s.reader d).state = .poweringDown → (s.reader d).timing .acknowledge = true →
      exec (.readerPowerDownAckTimeout d) s =
        .next ((s.setReader d { s.reader d with outstanding := .none, state := .fault, timer := none }).pushSlot d
          .change)) ∧
    ((s.reader d).state = .poweringDown → (s.reader d).timing .delay = true →
      let r := { s.reader d with state := .classified, timer := none }
      ∃ u : State, exec (.readerPowerDownDelayEnd d) s = .next u ∧ u.orders = s.orders ∧ u.hlc = s.hlc ∧
        u.session d = s.session d ∧ sessionFrame d s u ∧
        u.waits d .pushSlot (.slotPush (slotPushOf (u.reader d) .change)) ∧
        (bothMade (s.reader d).contacts = true →
          (s.reader d).spent = true ∨ (s.reader d).outstanding ≠ .none ∨ (s.session d).state ≠ .cardWait →
          u.reader d = r ∧ u.slot d .reader = s.slot d .reader) ∧
        (bothMade (s.reader d).contacts = true → (s.reader d).spent = false → (s.reader d).outstanding = .none →
          (s.session d).state = .cardWait →
          u.reader d = r.toPowerUp ∧
            ∀ v, (s.reader d).supply = some v → u.waits d .reader (.reader (.on v))) ∧
        (noneMade (s.reader d).contacts = true → (u.reader d).state = .empty ∧ (u.reader d).timer = none ∧
          (u.reader d).spent = false ∧ (u.reader d).dataLost = (s.reader d).dataLost) ∧
        (bothMade (s.reader d).contacts = false → noneMade (s.reader d).contacts = false →
          (u.reader d).state = .partialIn ∧ (u.reader d).timer = some { purpose := .partialIn, ms := 2000 })) ∧
    ((s.reader d).state ≠ .partialIn ∨ (s.reader d).timing .partialIn = false →
      exec (.readerPartialTimeout d) s = .next s) ∧
    ((s.reader d).state ≠ .settling ∨ (s.reader d).timing .settle = false → exec (.readerSettleEnd d) s = .next s) ∧
    ((s.reader d).state ≠ .poweringUp ∨ (s.reader d).timing .acknowledge = false →
      exec (.readerPowerUpAckTimeout d) s = .next s) ∧
    ((s.reader d).state ≠ .poweringUp ∨ (s.reader d).timing .delay = false →
      exec (.readerPowerUpDelayEnd d) s = .next s) ∧
    ((s.reader d).state ≠ .poweringDown ∨ (s.reader d).timing .acknowledge = false →
      exec (.readerPowerDownAckTimeout d) s = .next s) ∧
    ((s.reader d).state ≠ .poweringDown ∨ (s.reader d).timing .delay = false →
      exec (.readerPowerDownDelayEnd d) s = .next s)

/-- A kiosk drop lost, returned or changed in kind, at its three owners: the slot is EMPTY and pushed when it was not, and a session
before authorisation is cancelled, its outcome pushed, its AUTH_REQUEST withdrawn, and a TENDER not yet answered answered CANCELLED; the
basket is pushed RESYNC, priced whole when OPEN with an old generation, the slot is pushed, the printer is READY and feeds; a lost
printer is OFFLINE (R37, R50, R92, R98, R99, R104, R111, R159, R163). That the PRU takes a change of kind as a reset, and that the
CHANGE push of a slot so emptied waits for the drop in its new kind, are the model's choices, as are what the push at IDLE carries and the basket in the answer to the TENDER
(notes/assumptions/40.md, 17.md, 39.md). -/
def Obligations.DropEventsReachTheOwners : Prop :=
  ∀ (d : Drop) (k : DropKind) (s : State),
    ((s.dropRec d).kind = .kiosk →
      (∃ u : State, exec (.dropOnlineSbu d) s = .next u.transmit ∧ pushed d .resync u ∧
        ((s.basket d).state ≠ .opened ∨ (s.basket d).generation = s.fau.generation →
          u.basket d = s.basket d ∧ ∀ j, u.screening j = s.screening j) ∧
        ((s.basket d).state = .opened → (s.basket d).generation ≠ s.fau.generation →
          pricedWhole (s.basket d) s (u.basket d) ∧ (s.numbersDistinct → refusedFreed (s.basket d) s u)) ∧
        u.orders = s.orders.erase (.dropOnlineSbu d) ∧ basketFrame d s u) ∧
      exec (.dropOnlineTdu d) s = .next ((s.accept (.dropOnlineTdu d)).pushSlot d .change) ∧
      (∃ u : State, exec (.dropOnlinePru d) s = .next u ∧ u.queue d = s.queue d ∧ (u.printer d).retries = 0 ∧
        (s.queue d = [] → (u.printer d).state = .ready) ∧
        (∀ i rest, s.queue d = i :: rest → (u.printer d).state = .busy ∧ u.waits d .print (.print i)) ∧
        u.orders = s.orders.erase (.dropOnlinePru d) ∧ u.hlc = s.hlc ∧ printerFrame d s u) ∧
      (∃ u : State, exec (.dropOfflinePru d) s = .next u ∧ (u.printer d).state = .offline ∧
        (u.printer d).paperLow = false ∧ (u.printer d).retries = (s.printer d).retries ∧ u.queue d = s.queue d ∧
        ((s.printer d).state = .busy → u.slot d .print = none) ∧
        u.orders = s.orders.erase (.dropOfflinePru d) ∧ u.hlc = s.hlc ∧ printerFrame d s u) ∧
      (∃ u : State, exec (.dropOfflineTdu d) s = .next u.transmit ∧ u.reader d = ReaderSlot.reset ∧
        u.slot d .reader = none ∧
        ((s.reader d).state ≠ .empty → u.waits d .pushSlot (.slotPush (slotPushOf (u.reader d) .change))) ∧
        ((s.reader d).state = .empty → u.slot d .pushSlot = s.slot d .pushSlot) ∧
        ((s.session d).state = .reserving ∨ (s.session d).state = .cardWait ∨ (s.session d).state = .cardRead →
          u.session d = (s.session d).ended ∧
          u.orders = s.orders.erase (.dropOfflineTdu d) ++ s.allReturns d ++
            [.unfreeze d (s.session d).serial .cancelled] ∧
          u.waits d .pushTender (.tenderPush (endedPush (s.session d) .cancelled)) ∧
          u.hlc = { s.hlc with conditions := s.hlc.conditions.put (.auth d) false }) ∧
        ((s.session d).state = .reserving → replied d .cancelled .none u) ∧
        ((s.session d).state ≠ .reserving → u.slot d .reply = s.slot d .reply) ∧
        ((s.session d).state = .idle ∨ (s.session d).state = .authPending ∨ (s.session d).state = .committing →
          u.session d = s.session d ∧ u.orders = s.orders.erase (.dropOfflineTdu d) ∧
          u.slot d .pushTender = s.slot d .pushTender ∧ u.hlc = s.hlc) ∧
        sessionFrame d s u)) ∧
    ((s.dropRec d).kind ≠ .kiosk →
      exec (.dropOnlineSbu d) s = .next (s.accept (.dropOnlineSbu d)).transmit ∧
      exec (.dropOnlineTdu d) s = .next (s.accept (.dropOnlineTdu d)) ∧
      exec (.dropOnlinePru d) s = .next (s.accept (.dropOnlinePru d)) ∧
      exec (.dropOfflinePru d) s = .next (s.accept (.dropOfflinePru d)) ∧
      exec (.dropOfflineTdu d) s = .next (s.accept (.dropOfflineTdu d)).transmit) ∧
    (∃ u : State, exec (.dropKindChangeTdu d k) s = .next u ∧ u.reader d = ReaderSlot.reset ∧
      u.session d = (if k = .kiosk then (s.session d).ended else s.session d) ∧
      ((s.reader d).state.powered = true → u.waits d .reader (.reader .off)) ∧
      ((s.reader d).state ≠ .empty → u.waits d .pushSlot (.slotPush (slotPushOf (u.reader d) .change))) ∧
      ((s.reader d).state = .empty → u.slot d .pushSlot = s.slot d .pushSlot) ∧
      u.orders = s.orders.erase (.dropKindChangeTdu d k) ∧ u.hlc = s.hlc ∧ sessionFrame d s u) ∧
    (∃ u : State, exec (.dropKindChangePru d k) s = .next u ∧
      u.printer d = { s.printer d with state := .offline, paperLow := false, retries := 0 } ∧
      u.queue d = s.queue d ∧ u.slot d .print = none ∧ u.orders = s.orders.erase (.dropKindChangePru d k) ∧
      u.hlc = s.hlc ∧ printerFrame d s u)

/-! ## Journal and counters -/

/-- A journal grant request, in the order of its checks: no place, no sale number left, a number the guard forbids, or a grant
of the counter's number, which then moves on, whereupon the need test is made; a return gives the place back (R114, R115, R124, R126).
That a request which finds the counter without a value is discarded is the model's choice (notes/assumptions/19.md). -/
def Obligations.JournalGrantsSaleNumbers : Prop :=
  (∀ (d : Drop) (ref : Nat) (s : State),
    let c := Instr.journalGrantRequest d ref
    (64 ≤ s.jnu.journal.length + s.jnu.reservations.length →
      exec c s = .next ((s.accept c).send [.reservationRefusal d ref .journal .journalFull])) ∧
    (s.jnu.journal.length + s.jnu.reservations.length < 64 → s.jnu.saleCounter = none → exec c s = .next (s.accept c)) ∧
    (s.jnu.journal.length + s.jnu.reservations.length < 64 → ∀ n, s.jnu.saleCounter = some n →
      (4294967296 ≤ n → exec c s = .next ((s.accept c).send [.reservationRefusal d ref .journal .counterEnd])) ∧
      (n < 4294967296 → s.jnu.store.mode = .guarding → (∀ w, s.jnu.store.written = some w → w.sale ≤ n) →
        exec c s = .next ((s.accept c).send [.reservationRefusal d ref .journal .counterLimit])) ∧
      (n < 4294967296 →
        s.jnu.store.mode ≠ .guarding ∨ (∃ w, s.jnu.store.written = some w ∧ n < w.sale) →
        ∃ u : State, exec c s = .next u ∧ u.orders = s.orders.erase c ++ [.reservationGrant d ref (.journal n)] ∧
          u.jnu = Jnu.needTest { s.jnu with reservations := s.jnu.reservations ++ [n], saleCounter := some (n + 1) } ∧
          u.jnu.reservations = s.jnu.reservations ++ [n] ∧ u.jnu.saleCounter = some (n + 1) ∧
          (∀ b w, s.jnu.store.voucherCounter = some b → s.jnu.store.written = some w → s.jnu.store.mode ≠ .absent →
            w.sale - (n + 1) ≤ 64 ∨ w.voucher - b ≤ 64 →
            let ahead : Marks := { sale := min (n + 257) 4294967296, voucher := min (b + 256) 100000000 }
            ahead ≠ w →
            (s.jnu.store.op = .idle → u.jnu.store.op = .writing ∧ u.jnu.store.writing = some ahead ∧
              u.jnu.store.bus = some (.write 0 (storeRecordBytes ahead))) ∧
            (s.jnu.store.op = .writing → u.jnu.store = { s.jnu.store with pendingNeed := true })) ∧
          (∀ b w, s.jnu.store.voucherCounter = some b → s.jnu.store.written = some w →
            64 < w.sale - (n + 1) → 64 < w.voucher - b → u.jnu.store = s.jnu.store) ∧
          u.jnu.journal = s.jnu.journal ∧ u.jnu.store.mode = s.jnu.store.mode ∧
          u.jnu.store.written = s.jnu.store.written ∧ keptBut [.jnu, .orders] s u))) ∧
  (∀ (sale : Nat) (s : State), ∃ u : State, exec (.journalReturn sale) s = .next u ∧
    u.jnu = { s.jnu with reservations := s.jnu.reservations.erase sale } ∧
    u.orders = s.orders.erase (.journalReturn sale) ∧ keptBut [.jnu, .orders] s u)

/-- A sale record or a timeout void consumes its reservation, or takes a free place, and raises JOURNAL; one whose number is
in the journal, or that finds no place, is discarded. JOURNAL_READ shows the oldest record, and JOURNAL_TAKE removes it when
its number is named (R112, R116 to R118, R120). -/
def Obligations.JournalKeepsRecordsUntilTaken : Prop :=
  (∀ (s : State) (c : Instr) (r : JournalRecord),
    (∃ x, c = .saleRecord x ∧ r = .sale x) ∨ (∃ v, c = .timeoutVoidOrder v ∧ r = .timeoutVoid v) →
    ((∀ q ∈ s.jnu.journal, recordSale q ≠ recordSale r) →
      recordSale r ∈ s.jnu.reservations ∨ s.jnu.journal.length + s.jnu.reservations.length < 64 →
      ∃ u : State, exec c s = .next u.transmit ∧
        u.jnu = { s.jnu with journal := s.jnu.journal ++ [r]
                             reservations := s.jnu.reservations.erase (recordSale r) } ∧
        u.hlc.conditions.raised .journal = true ∧ hlcKept s u ∧ u.orders = s.orders.erase c ∧
        keptBut [.jnu, .hlc, .orders] s u) ∧
    ((∃ q ∈ s.jnu.journal, recordSale q = recordSale r) ∨
      recordSale r ∉ s.jnu.reservations ∧ 64 ≤ s.jnu.journal.length + s.jnu.reservations.length →
      exec c s = .next (s.accept c).transmit)) ∧
  (∀ (h : HostTag) (sale : Nat) (s : State), s.hlc.partState = .ready →
    (s.jnu.journal = [] →
      exec (.journalRead h (some ())) s =
        .next (((s.accept (.journalRead h (some ()))).replyHost h .empty .none).transmit) ∧
      exec (.journalTake h (some sale)) s =
        .next (((s.accept (.journalTake h (some sale))).replyHost h .empty .none).transmit)) ∧
    (∀ r rest, s.jnu.journal = r :: rest →
      exec (.journalRead h (some ())) s = .next (((s.accept (.journalRead h (some ()))).replyHost h .ok
        (.journal r (rest.length + 1) s.jnu.reservations.length)).transmit) ∧
      (recordSale r ≠ sale → exec (.journalTake h (some sale)) s =
        .next (((s.accept (.journalTake h (some sale))).replyHost h .notOldest (.oldest (recordSale r))).transmit)) ∧
      (recordSale r = sale → ∃ u : State,
        exec (.journalTake h (some sale)) s = .next ((u.replyHost h .ok (.left rest.length)).transmit) ∧
        u.jnu = { s.jnu with journal := rest } ∧ (rest ≠ [] → u.hlc.conditions.raised .journal = true) ∧ hlcKept s u ∧
        u.orders = s.orders.erase (.journalTake h (some sale)) ∧ keptBut [.jnu, .hlc, .orders] s u)))

/-- The store's read: ten good bytes give the counters at the marks and start the voucher counter; a bad answer is tried
again, and the third sends the part to NEED_COUNTERS in SEEDING mode. The store's write: ten bytes acknowledged are the
written mark, which the VCU is told, and a need that was pending is tested again; fewer are tried again, and the third waits for the retry of the next second. Every
write puts the ten bytes of the record at address 0. The first write of the part ends STARTING either way (R123 to R125, R132,
R200). That a try's end which finds no such operation running changes nothing, the failure field kept for the notice, and the
start-up write's voucher mark from the controller's own copy, are the model's choices (notes/assumptions/3.md, 36.md, 37.md). -/
def Obligations.StoreReadsAndWrites : Prop :=
  (∀ (a : Option (List Byte)) (s : State),
     (s.jnu.store.op = .reading →
       (∀ m, a.bind readMarks = some m → ∃ u : State, exec (.storeReadTryEnd a) s = .next u.transmit ∧
         u.jnu.saleCounter = some m.sale ∧ u.jnu.store.written = some m ∧
         u.orders = s.orders ++ [.voucherCounterStart m.voucher m.voucher] ∧ u.jnu.journal = s.jnu.journal ∧
         u.jnu.reservations = s.jnu.reservations ∧
         (s.jnu.store.mode = .guarding → m.sale ≤ 4294967295 →
           let ahead : Marks := { sale := min (m.sale + 256) 4294967296, voucher := min (m.voucher + 256) 100000000 }
           u.jnu.store.op = .writing ∧ u.jnu.store.tries = some 1 ∧ u.hlc = s.hlc ∧ u.jnu.store.writing = some ahead ∧
           u.jnu.store.bus = some (.write 0 (storeRecordBytes ahead))) ∧
         keptBut [.jnu, .hlc, .orders] s u) ∧
       (∀ n, a.bind readMarks = none → s.jnu.store.tries = some n → n < 3 →
         exec (.storeReadTryEnd a) s =
           .next (s.setJnu { s.jnu with store := { s.jnu.store with tries := some (n + 1) } }).transmit) ∧
       (a.bind readMarks = none → s.jnu.store.tries = some 3 →
         ∃ u : State, exec (.storeReadTryEnd a) s = .next u.transmit ∧
           u.jnu = { s.jnu with store := { s.jnu.store with
             mode := .seeding, op := .idle, tries := none, written := none, failure := some .readFailed, bus := none } } ∧
           u.hlc = { s.hlc with partState := .needCounters, conditions := s.hlc.conditions.put .store true } ∧
           keptBut [.jnu, .hlc] s u)) ∧
     (s.jnu.store.op ≠ .reading → exec (.storeReadTryEnd a) s = .next s.transmit)) ∧
  ((∀ (k : Nat) (m : Marks) (s : State), s.jnu.store.op = .writing → s.jnu.store.writing = some m →
     (10 ≤ k → ∃ u : State, exec (.storeWriteTryEnd k) s = .next u.transmit ∧ u.jnu.store.written = some m ∧
       u.jnu.saleCounter = s.jnu.saleCounter ∧ u.jnu.journal = s.jnu.journal ∧
       u.jnu.reservations = s.jnu.reservations ∧ u.orders = s.orders ++ [.voucherMarkUpdate m.voucher] ∧
       (let j := { s.jnu with store := { s.jnu.store with
          op := .idle, written := some m, writing := none, tries := none, pendingNeed := false, bus := none } }
        u.jnu = if s.jnu.store.pendingNeed = true then j.needTest else j) ∧
       u.hlc = { s.hlc with partState := if s.hlc.partState = .starting then .ready else s.hlc.partState } ∧
       keptBut [.jnu, .hlc, .orders] s u) ∧
     (∀ n, k < 10 → s.jnu.store.tries = some n → n < 3 → exec (.storeWriteTryEnd k) s =
       .next (s.setJnu { s.jnu with store := { s.jnu.store with tries := some (n + 1) } }).transmit) ∧
     (k < 10 → s.jnu.store.tries = some 3 → ∃ u : State, exec (.storeWriteTryEnd k) s = .next u.transmit ∧
       u.jnu = { s.jnu with store := { s.jnu.store with
         op := .retryWait, writing := none, tries := none, pendingNeed := false,
         failure := some .writeFailed, bus := none } } ∧
       u.hlc.conditions.raised .store = true ∧
       u.hlc.partState = (if s.hlc.partState = .starting then .ready else s.hlc.partState) ∧
       keptBut [.jnu, .hlc] s u)) ∧
   (∀ (k : Nat) (s : State), s.jnu.store.op ≠ .writing ∨ s.jnu.store.writing = none →
     exec (.storeWriteTryEnd k) s = .next s.transmit) ∧
   (∀ s : State, ∃ u : State, exec .storeRetry s = .next u ∧ u.orders = s.orders.erase .storeRetry ∧
     keptBut [.jnu, .orders] s u ∧ (s.jnu.store.op ≠ .retryWait → u.jnu = s.jnu) ∧
     (s.jnu.store.op = .retryWait → s.jnu.need = none → u.jnu.store.op = .idle) ∧
     (∀ m, s.jnu.store.op = .retryWait → s.jnu.need = some m →
       u.jnu.store.op = .writing ∧ u.jnu.store.writing = some m ∧ u.jnu.store.tries = some 1 ∧
       u.jnu.store.bus = some (.write 0 (storeRecordBytes m)))))

/-- The need test: with a store, a write begins from IDLE when a counter is within 64 of its written mark or there is no written mark,
with marks 256 ahead held to their ends; while a write runs the need is noted; marks that would not change and a missing store make none.
The reports and bases that move a counter all make it, and a base sets the two counters and nothing else of the JNU before it (R124, R128,
R129). That BAD_VALUE comes before WRONG_STATE, and that the first write's voucher mark is made from the base, are the model's
choices (notes/assumptions/21.md, 37.md). -/
def Obligations.CountersAskForWrites : Prop :=
  (∀ (j : Jnu) (a b : Nat) (w : Marks), j.saleCounter = some a → j.store.voucherCounter = some b →
    j.store.written = some w → j.store.mode ≠ .absent →
    let ahead : Marks := { sale := min (a + 256) 4294967296, voucher := min (b + 256) 100000000 }
    ((w.sale - a ≤ 64 ∨ w.voucher - b ≤ 64) → ahead ≠ w →
      (j.store.op = .idle → j.needTest =
        { j with store := { j.store with
            op := .writing, writing := some ahead, tries := some 1, bus := some (.write 0 (storeRecordBytes ahead)) } }) ∧
      (j.store.op = .writing → j.needTest = { j with store := { j.store with pendingNeed := true } })) ∧
    (ahead = w → j.needTest = j) ∧
    (64 < w.sale - a → 64 < w.voucher - b → j.needTest = j)) ∧
  (∀ (j : Jnu) (a b : Nat), j.saleCounter = some a → j.store.voucherCounter = some b → j.store.written = none →
    j.store.mode ≠ .absent →
    let ahead : Marks := { sale := min (a + 256) 4294967296, voucher := min (b + 256) 100000000 }
    (j.store.op = .idle → j.needTest =
      { j with store := { j.store with
          op := .writing, writing := some ahead, tries := some 1, bus := some (.write 0 (storeRecordBytes ahead)) } }) ∧
    (j.store.op = .writing → j.needTest = { j with store := { j.store with pendingNeed := true } })) ∧
  (∀ j : Jnu, j.store.mode = .absent ∨ j.store.op = .reading ∨ j.store.op = .retryWait → j.needTest = j) ∧
  (∀ (n : Nat) (s : State), exec (.voucherCounterReport n) s =
    .next ((s.accept (.voucherCounterReport n)).setJnu
      (Jnu.needTest { s.jnu with store := { s.jnu.store with voucherCounter := some n } }))) ∧
  (∀ (h : HostTag) (r : CounterBaseReq) (s : State),
    (s.hlc.partState = .needCounters → 1 ≤ r.sale → r.sale ≤ 4294967295 → 1 ≤ r.voucher → r.voucher ≤ 99999999 →
      ∃ u : State, exec (.counterBase h (some r)) s = .next ((u.replyHost h .ok .none).transmit) ∧
        u.hlc = { s.hlc with partState := .ready } ∧
        (let based := { s.jnu with saleCounter := some r.sale
                                   store := { s.jnu.store with voucherCounter := some r.voucher } }
         u.jnu = Jnu.needTest based ∧ (s.jnu.store.mode = .absent → u.jnu = based)) ∧
        u.jnu.saleCounter = some r.sale ∧ u.jnu.store.voucherCounter = some r.voucher ∧ u.jnu.journal = s.jnu.journal ∧
        u.jnu.reservations = s.jnu.reservations ∧
        u.orders = s.orders.erase (.counterBase h (some r)) ++ [.voucherBaseSet r.voucher] ∧
        (s.jnu.store.mode = .seeding → s.jnu.store.op = .idle → s.jnu.store.written = none →
          u.jnu.store.op = .writing ∧ u.jnu.store.writing =
            some { sale := min (r.sale + 256) 4294967296, voucher := min (r.voucher + 256) 100000000 }) ∧
        keptBut [.jnu, .hlc, .orders] s u) ∧
    (s.hlc.partState = .ready → 1 ≤ r.sale → r.sale ≤ 4294967295 → 1 ≤ r.voucher → r.voucher ≤ 99999999 →
      exec (.counterBase h (some r)) s =
        .next (((s.accept (.counterBase h (some r))).replyHost h .wrongState .none).transmit)) ∧
    (s.hlc.partState ≠ .starting → r.sale = 0 ∨ 4294967295 < r.sale ∨ r.voucher = 0 ∨ 99999999 < r.voucher →
      exec (.counterBase h (some r)) s =
        .next (((s.accept (.counterBase h (some r))).replyHost h .badValue .none).transmit)))

/-! ## Vouchers -/

/-- A voucher grant request, in the order of its checks: no room, no serial left, a serial the guard forbids, or a run
reserved at the counter, which moves on and is reported; returns and the controller's three orders (R132 to R135). -/
def Obligations.VoucherGrantsRuns : Prop :=
  (∀ (d : Drop) (ref k n : Nat) (s : State), 1 ≤ k → s.vcu.counter = some n →
    let c := Instr.voucherGrantRequest d ref k
    (1024 < s.vcu.used.length + s.vcu.reservedCount + k →
      exec c s = .next ((s.accept c).send [.reservationRefusal d ref .voucher .vouchersFull])) ∧
    (s.vcu.used.length + s.vcu.reservedCount + k ≤ 1024 →
      (100000000 < n + k → exec c s = .next ((s.accept c).send [.reservationRefusal d ref .voucher .counterEnd])) ∧
      (n + k ≤ 100000000 → s.vcu.guardOn = true → (∀ m, s.vcu.guardMark = some m → m < n + k) →
        exec c s = .next ((s.accept c).send [.reservationRefusal d ref .voucher .counterLimit])) ∧
      (n + k ≤ 100000000 → s.vcu.guardOn = false ∨ (∃ m, s.vcu.guardMark = some m ∧ n + k ≤ m) →
        exec c s = .next (((s.accept c).setVcu { s.vcu with
            counter := some (n + k)
            reservations := s.vcu.reservations ++ [{ drop := d, first := n, count := k }] }).send
          [.reservationGrant d ref (.voucher n k), .voucherCounterReport (n + k)])))) ∧
  (∀ (first k : Nat) (s : State), ∃ u : State, exec (.voucherReturn first k) s = .next u ∧ u.vcu.used = s.vcu.used ∧
    u.vcu.counter = s.vcu.counter ∧
    (∀ (xs ys : List VoucherReservation) (r : VoucherReservation), s.vcu.reservations = xs ++ r :: ys →
      (∀ x ∈ xs, x.first ≠ first) → r.first = first → u.vcu.reservations = xs ++ ys) ∧
    ((∀ x ∈ s.vcu.reservations, x.first ≠ first) → u.vcu = s.vcu) ∧
    u.orders = s.orders.erase (.voucherReturn first k) ∧ keptBut [.vcu, .orders] s u) ∧
  (∀ (n m : Nat) (s : State),
    exec (.voucherCounterStart n m) s = .next ((s.accept (.voucherCounterStart n m)).setVcu
      { s.vcu with counter := some n, guardMark := some m, guardOn := true }) ∧
    exec (.voucherMarkUpdate m) s = .next ((s.accept (.voucherMarkUpdate m)).setVcu
      { s.vcu with guardMark := some m }) ∧
    exec (.voucherBaseSet n) s = .next ((s.accept (.voucherBaseSet n)).setVcu
      { s.vcu with counter := some n, guardMark := none, guardOn := false }))

/-- An issue order consumes the reservation of its first serial and takes its lines in order: a line whose serial is in use, or that
finds no free entry, is discarded, and any other makes an ISSUED entry, valid from the start of its screening or its own time; no other
entry changes (R136, R137). That a serial in use and a full table are tested line by line is the model's choice
(notes/assumptions/25.md). -/
def Obligations.IssueOrderMakesVouchers : Prop :=
  ∀ (o : IssueOrder) (s : State), ∃ u : State, exec (.issueOrder o) s = .next u ∧
    u.vcu.counter = s.vcu.counter ∧ u.vcu.guardMark = s.vcu.guardMark ∧ u.vcu.guardOn = s.vcu.guardOn ∧
    u.vcu.retention = s.vcu.retention ∧
    u.orders = s.orders.erase (.issueOrder o) ∧ keptBut [.vcu, .orders] s u ∧ s.vcu.used <+: u.vcu.used ∧
    (∀ l rest, o.lines = l :: rest →
      (∀ xs ys r, s.vcu.reservations = xs ++ r :: ys → (∀ x ∈ xs, x.first ≠ l.serial) → r.first = l.serial →
        u.vcu.reservations = xs ++ ys) ∧
      ((∀ x ∈ s.vcu.reservations, x.first ≠ l.serial) → u.vcu.reservations = s.vcu.reservations)) ∧
    (∃ used : Nat → List VoucherEntry, used 0 = s.vcu.used ∧ u.vcu.used = used o.lines.length ∧
      ∀ k l, o.lines[k]? = some l →
        ((∃ e ∈ used k, e.serial = l.serial) ∨ 1024 ≤ (used k).length + u.vcu.reservedCount → used (k + 1) = used k) ∧
        ((∀ e ∈ used k, e.serial ≠ l.serial) → (used k).length + u.vcu.reservedCount < 1024 →
          used (k + 1) = used k ++
            [{ serial := l.serial, item := l.item, amount := l.amount, sale := o.sale
               screening := o.screening.map (·.number), validUntil := validUntil o l.minutes, state := .issued }])) ∧
    (∀ e ∈ u.vcu.used, e ∉ s.vcu.used → ∃ l ∈ o.lines, e = issuedEntry o l) ∧
    ((o.lines.map (·.serial)).Nodup → (∀ l ∈ o.lines, ∀ e ∈ s.vcu.used, e.serial ≠ l.serial) →
      s.vcu.used.length + u.vcu.reservedCount + o.lines.length ≤ 1024 →
      u.vcu.used = s.vcu.used ++ o.lines.map (issuedEntry o)) ∧
    (∀ m, siteSeconds (validUntil o m) =
      min (65535 * 86400 + 86399) (m * 60 + match o.screening with
        | some sc => sc.day * 86400 + sc.minute * 60
        | none => siteSeconds o.time))

/-- REDEEM and CHECK at a counter drop judge a code the same: BAD_CODE, UNKNOWN, VOID, ALREADY, EXPIRED, or servable; REDEEM
of a servable one makes it REDEEMED by the drop now, CHECK answers VALID and changes nothing; a drop of another kind is
refused (R138 to R142). -/
def Obligations.RedeemAndCheckJudgeAlike : Prop :=
  ∀ (d : Drop) (t : Text) (s : State),
    ((s.dropRec d).kind ≠ .counter →
      exec (.redeem d (some t)) s = .next ((s.accept (.redeem d (some t))).replyDrop d (bareReply .wrongDrop)) ∧
      exec (.check d (some t)) s = .next ((s.accept (.check d (some t))).replyDrop d (bareReply .wrongDrop))) ∧
    ((s.dropRec d).kind = .counter → s.hlc.partState = .ready →
      (∀ c x, ((wellFormedCode t = false ∧ c = .badCode ∧ x = VoucherDetail.none) ∨
          (wellFormedCode t = true ∧ (∀ e ∈ s.vcu.used, e.serial ≠ digitsValue (t.take 8)) ∧ c = .unknown ∧
            x = VoucherDetail.none)) →
        exec (.redeem d (some t)) s = .next ((s.accept (.redeem d (some t))).voucherReply d c t x) ∧
        exec (.check d (some t)) s = .next ((s.accept (.check d (some t))).voucherReply d c t x)) ∧
      (∀ e, wellFormedCode t = true → s.vcu.find (digitsValue (t.take 8)) = some e →
        (∀ c x, ((e.state = .voided ∧ c = .void ∧ x = VoucherDetail.entry e.item e.screening) ∨
            (∃ w k, e.state = .redeemed w k ∧ c = .already ∧ x = VoucherDetail.already e.item e.screening w k) ∨
            (e.state = .issued ∧ siteSeconds e.validUntil < siteSeconds s.hlc.clock ∧ c = .expired ∧
              x = VoucherDetail.expired e.item e.screening e.validUntil)) →
          exec (.redeem d (some t)) s = .next ((s.accept (.redeem d (some t))).voucherReply d c t x) ∧
          exec (.check d (some t)) s = .next ((s.accept (.check d (some t))).voucherReply d c t x)) ∧
        (e.state = .issued → siteSeconds s.hlc.clock ≤ siteSeconds e.validUntil →
          exec (.redeem d (some t)) s = .next (((s.accept (.redeem d (some t))).setVcu
            { s.vcu with used := s.vcu.used.map fun x =>
              if x.serial = e.serial then { x with state := .redeemed s.hlc.clock d } else x }).voucherReply d .redeemed t
                (.served e.item e.screening e.serial e.sale)) ∧
          exec (.check d (some t)) s = .next ((s.accept (.check d (some t))).voucherReply d .valid t
            (.servable e.item e.screening e.serial e.sale e.validUntil)))))

/-- VOUCHER_VOID makes an ISSUED voucher VOID and refuses any other; VOUCHER_QUERY shows a voucher or the reservation that
holds the serial; an unknown serial is UNKNOWN, and one out of range BAD_VALUE (R144, R145). -/
def Obligations.HostVoidsAndQueriesVouchers : Prop :=
  ∀ (h : HostTag) (n : Nat) (s : State), s.hlc.partState = .ready →
    let void := Instr.voucherVoid h (some n)
    let query := Instr.voucherQuery h (some n)
    (n = 0 ∨ 99999999 < n →
      exec void s = .next (((s.accept void).replyHost h .badValue .none).transmit) ∧
      exec query s = .next (((s.accept query).replyHost h .badValue .none).transmit)) ∧
    (1 ≤ n → n ≤ 99999999 →
      (∀ e, s.vcu.find n = some e →
        exec query s = .next (((s.accept query).replyHost h .ok (.voucher e)).transmit) ∧
        (e.state = .issued → exec void s = .next ((((s.accept void).setVcu
          { s.vcu with used := s.vcu.used.map fun x => if x.serial = n then { x with state := .voided } else x }).replyHost h
            .ok (.voucher { e with state := .voided })).transmit)) ∧
        (e.state ≠ .issued → exec void s = .next (((s.accept void).replyHost h .notIssued (.voucher e)).transmit))) ∧
      ((∀ e ∈ s.vcu.used, e.serial ≠ n) →
        exec void s = .next (((s.accept void).replyHost h .unknown .none).transmit) ∧
        ((∀ r ∈ s.vcu.reservations, n < r.first ∨ r.first + r.count ≤ n) →
          exec query s = .next (((s.accept query).replyHost h .unknown .none).transmit)) ∧
        (∀ r ∈ s.vcu.reservations, r.first ≤ n → n < r.first + r.count →
          (∀ q ∈ s.vcu.reservations, q.first ≤ n → n < q.first + q.count → q = r) →
          exec query s = .next (((s.accept query).replyHost h .reserved (.reservation r)).transmit))))

/-! ## Printing -/

/-- A print grant request is refused NO_PRINTER with print-later off and the printer out, PRINT_FULL past 16 places, and else
reserved; a return gives the places back; a print order consumes the drop's reservation, appends its items and feeds a READY
printer; one that finds no reservation appends its items while there is room (R150 to R152, R154, R162). That room is tested item by
item is the model's choice (notes/assumptions/25.md). -/
def Obligations.PrintGrantsAndOrders : Prop :=
  (∀ (d : Drop) (ref k : Nat) (s : State),
    let c := Instr.printGrantRequest d ref k
    (s.pru.printLater = false → (s.printer d).state = .paused ∨ (s.printer d).state = .fault ∨ (s.printer d).state = .offline →
      exec c s = .next ((s.accept c).send [.reservationRefusal d ref .print .noPrinter])) ∧
    (s.pru.printLater = true ∨ (s.printer d).state = .ready ∨ (s.printer d).state = .busy →
      (16 < s.queuePlaces d + k → exec c s = .next ((s.accept c).send [.reservationRefusal d ref .print .printFull])) ∧
      (s.queuePlaces d + k ≤ 16 → exec c s =
        .next (((s.accept c).setPru { s.pru with
          reservations := s.pru.reservations ++ [{ drop := d, reference := ref, count := k }] }).send
            [.reservationGrant d ref (.print k)])))) ∧
  (∀ (d : Drop) (ref : Nat) (xs ys : List PrintReservation) (r : PrintReservation) (s : State),
    s.pru.reservations = xs ++ r :: ys → (∀ x ∈ xs, x.drop ≠ d ∨ x.reference ≠ ref) → r.drop = d → r.reference = ref →
    exec (.printReturn d ref) s =
      .next ((s.accept (.printReturn d ref)).setPru { s.pru with reservations := xs ++ ys })) ∧
  (∀ (d : Drop) (ref : Nat) (s : State), (∀ x ∈ s.pru.reservations, x.drop ≠ d ∨ x.reference ≠ ref) →
    exec (.printReturn d ref) s = .next (s.accept (.printReturn d ref))) ∧
  (∀ (d : Drop) (items : List PrintItem) (xs ys : List PrintReservation) (r : PrintReservation) (s : State),
    s.pru.reservations = xs ++ r :: ys → (∀ y ∈ ys, y.drop ≠ d) → r.drop = d → s.queueLaw → items.length ≤ r.count →
    ∃ u : State, exec (.printOrder d items) s = .next u.transmit ∧ u.queue d = s.queue d ++ items ∧
      u.pru.reservations = xs ++ ys ∧
      (∀ i rest, (s.printer d).state = .ready → s.queue d ++ items = i :: rest →
        (u.printer d).state = .busy ∧ (u.printer d).headSent = true ∧ u.waits d .print (.print i)) ∧
      ((s.printer d).state ≠ .ready → u.printer d = s.printer d ∧ u.slot d .print = s.slot d .print) ∧
      ((s.queue d).length < s.pru.backlog → s.pru.backlog ≤ (s.queue d).length + items.length →
        u.hlc.conditions.raised .printer = true) ∧
      (s.pru.backlog ≤ (s.queue d).length ∨ (s.queue d).length + items.length < s.pru.backlog → u.hlc = s.hlc) ∧
      u.orders = s.orders.erase (.printOrder d items) ∧ printerFrame d s u) ∧
  (∀ (d : Drop) (items : List PrintItem) (s : State), (∀ r ∈ s.pru.reservations, r.drop ≠ d) →
    let taken := items.take (16 - (s.queue d).length)
    ∃ u : State, exec (.printOrder d items) s = .next u.transmit ∧ u.queue d = s.queue d ++ taken ∧
      u.pru.reservations = s.pru.reservations ∧
      (∀ i rest, (s.printer d).state = .ready → s.queue d ++ taken = i :: rest →
        (u.printer d).state = .busy ∧ (u.printer d).headSent = true ∧ u.waits d .print (.print i)) ∧
      ((s.printer d).state ≠ .ready ∨ s.queue d ++ taken = [] →
        u.printer d = s.printer d ∧ u.slot d .print = s.slot d .print) ∧
      ((s.queue d).length < s.pru.backlog → s.pru.backlog ≤ (s.queue d ++ taken).length →
        u.hlc.conditions.raised .printer = true) ∧
      (s.pru.backlog ≤ (s.queue d).length ∨ (s.queue d ++ taken).length < s.pru.backlog → u.hlc = s.hlc) ∧
      u.orders = s.orders.erase (.printOrder d items) ∧ printerFrame d s u)

/-- A printer's reports from a kiosk drop: PRINTED removes the head item that was sent, and a BUSY printer is fed the next while a
PAUSED or FAULT one keeps its state; FAILED sends it again, and the third time is a FAULT; STATUS pauses a printer or makes it READY
and feeds what there is; reports of no use, and all from a drop that is not a kiosk, are discarded (R154 to R158). That a
READY or OFFLINE printer takes a PRINTED as a PAUSED one does is the model's reading, and that a FAULT leaves a waiting frame of the
item in its slot its choice (notes/assumptions/38.md, 53.md). -/
def Obligations.PrinterReportsMoveTheQueue : Prop :=
  (∀ (d : Drop) (tag : PrintTag) (r : PrinterReport) (s : State), (s.dropRec d).kind ≠ .kiosk →
    exec (.printed d (some tag)) s = .next (s.accept (.printed d (some tag))) ∧
    exec (.failed d (some tag)) s = .next (s.accept (.failed d (some tag))).transmit ∧
    exec (.printerStatus d (some r)) s = .next (s.accept (.printerStatus d (some r))).transmit) ∧
  ∀ (d : Drop) (tag : PrintTag) (s : State), (s.dropRec d).kind = .kiosk →
    (∀ i rest, s.queue d = i :: rest → itemTag i = tag → (s.printer d).headSent = true →
      ∃ u : State, exec (.printed d (some tag)) s = .next u ∧ u.queue d = rest ∧ (u.printer d).retries = 0 ∧
        (u.printer d).paperLow = (s.printer d).paperLow ∧
        ((s.printer d).state = .busy → rest = [] → (u.printer d).state = .ready ∧ (u.printer d).headSent = false) ∧
        (∀ j more, (s.printer d).state = .busy → rest = j :: more →
          (u.printer d).state = .busy ∧ (u.printer d).headSent = true ∧ u.waits d .print (.print j)) ∧
        ((s.printer d).state ≠ .busy → (u.printer d).state = (s.printer d).state ∧ (u.printer d).headSent = false ∧
          u.slot d .print = s.slot d .print) ∧
        u.orders = s.orders.erase (.printed d (some tag)) ∧ u.hlc = s.hlc ∧ printerFrame d s u) ∧
    (s.queue d = [] ∨ (∃ i rest, s.queue d = i :: rest ∧ itemTag i ≠ tag) ∨ (s.printer d).headSent = false →
      exec (.printed d (some tag)) s = .next (s.accept (.printed d (some tag)))) ∧
    (∀ i rest, s.queue d = i :: rest → itemTag i = tag → (s.printer d).state = .busy →
      ((s.printer d).retries < 2 → ∃ u : State, exec (.failed d (some tag)) s = .next u.transmit ∧ u.queue d = s.queue d ∧
        u.printer d = { s.printer d with retries := (s.printer d).retries + 1, headSent := true } ∧
        u.waits d .print (.print i) ∧ u.orders = s.orders.erase (.failed d (some tag)) ∧ u.hlc = s.hlc ∧
        printerFrame d s u) ∧
      (2 ≤ (s.printer d).retries → exec (.failed d (some tag)) s = .next ((((s.accept (.failed d (some tag))).setPrinter d
        { s.printer d with state := .fault, retries := 3 }).raise .printer).transmit))) ∧
    (s.queue d = [] ∨ (∃ i rest, s.queue d = i :: rest ∧ itemTag i ≠ tag) ∨ (s.printer d).state ≠ .busy →
      exec (.failed d (some tag)) s = .next (s.accept (.failed d (some tag))).transmit) ∧
    ((s.printer d).state = .offline → ∀ r,
      exec (.printerStatus d (some r)) s = .next (s.accept (.printerStatus d (some r))).transmit) ∧
    ((s.printer d).state ≠ .offline → ∀ r : PrinterReport,
      ∃ u : State, exec (.printerStatus d (some r)) s = .next u.transmit ∧ (u.printer d).paperLow = r.paperLow ∧
        u.queue d = s.queue d ∧ u.orders = s.orders.erase (.printerStatus d (some r)) ∧ printerFrame d s u ∧
        (r.paperLow = true → (s.printer d).paperLow = false → u.hlc.conditions.raised .printer = true) ∧
        (r.condition ≠ .ready → (s.printer d).state = .ready ∨ (s.printer d).state = .busy →
          (u.printer d).state = .paused ∧ (u.printer d).retries = (s.printer d).retries) ∧
        (r.condition ≠ .ready → (s.printer d).state = .busy → u.slot d .print = none) ∧
        (r.condition ≠ .ready → (s.printer d).state = .paused ∨ (s.printer d).state = .fault →
          (u.printer d).state = (s.printer d).state) ∧
        (r.condition = .ready → (s.printer d).state = .paused ∨ (s.printer d).state = .fault →
          (u.printer d).retries = 0 ∧
          (s.queue d = [] → (u.printer d).state = .ready ∧ u.slot d .print = s.slot d .print) ∧
          ∀ i rest, s.queue d = i :: rest →
            (u.printer d).state = .busy ∧ (u.printer d).headSent = true ∧ u.waits d .print (.print i)) ∧
        (r.condition = .ready → (s.printer d).state = .ready ∨ (s.printer d).state = .busy →
          (u.printer d).state = (s.printer d).state))

/-- PRINT_REDIRECT moves every item of one kiosk queue behind another's, or is refused with nothing changed; PRINT_FLUSH
removes every item and answers how many; both clear head-sent and the retries of the emptied queue (R160, R161). -/
def Obligations.RedirectAndFlushEmptyAQueue : Prop :=
  (∀ (h : HostTag) (r : PrintRedirectReq) (s : State), s.hlc.partState = .ready →
    15 < r.source ∨ 15 < r.target ∨ r.source = r.target →
    exec (.printRedirect h (some r)) s =
      .next (((s.accept (.printRedirect h (some r))).replyHost h .badValue .none).transmit)) ∧
  (∀ (h : HostTag) (n : Nat) (s : State), s.hlc.partState = .ready → 15 < n →
    exec (.printFlush h (some n)) s =
      .next (((s.accept (.printFlush h (some n))).replyHost h .badValue .none).transmit)) ∧
  ∀ (h : HostTag) (a b : Drop) (s : State), s.hlc.partState = .ready →
    (a ≠ b → (s.dropRec a).kind ≠ .kiosk ∨ (s.dropRec b).kind ≠ .kiosk →
      let c := Instr.printRedirect h (some { source := a.val, target := b.val })
      exec c s = .next (((s.accept c).replyHost h .wrongDrop .none).transmit)) ∧
    ((s.dropRec a).kind ≠ .kiosk → exec (.printFlush h (some a.val)) s =
      .next (((s.accept (.printFlush h (some a.val))).replyHost h .wrongDrop .none).transmit)) ∧
    (a ≠ b → (s.dropRec a).kind = .kiosk → (s.dropRec b).kind = .kiosk →
      let c := Instr.printRedirect h (some { source := a.val, target := b.val })
      (16 < s.queuePlaces b + (s.queue a).length →
        exec c s = .next (((s.accept c).replyHost h .noRoom .none).transmit)) ∧
      (s.queuePlaces b + (s.queue a).length ≤ 16 →
        ∃ u : State, exec c s = .next ((u.replyHost h .ok (.items (s.queue a).length)).transmit) ∧ u.queue a = [] ∧
          u.queue b = s.queue b ++ s.queue a ∧ (u.printer a).headSent = false ∧ (u.printer a).retries = 0 ∧
          ((s.printer a).state = .busy → (u.printer a).state = .ready ∧ u.slot a .print = none) ∧
          ((s.printer a).state ≠ .busy → (u.printer a).state = (s.printer a).state) ∧
          (∀ i rest, (s.printer b).state = .ready → s.queue b ++ s.queue a = i :: rest →
            (u.printer b).state = .busy ∧ u.waits b .print (.print i)) ∧
          ((s.queue b).length < s.pru.backlog → s.pru.backlog ≤ (s.queue b).length + (s.queue a).length →
            u.hlc.conditions.raised .printer = true) ∧
          ((s.printer b).state ≠ .ready → u.printer b = s.printer b) ∧
          (∀ e, e ≠ a → e ≠ b → u.queue e = s.queue e ∧ u.printer e = s.printer e) ∧
          u.pru.reservations = s.pru.reservations ∧ u.orders = s.orders.erase c ∧
          keptBut [.pru, .klc, .hlc, .orders] s u)) ∧
    ((s.dropRec a).kind = .kiosk →
      let c := Instr.printFlush h (some a.val)
      ∃ u : State, exec c s = .next ((u.replyHost h .ok (.items (s.queue a).length)).transmit) ∧ u.queue a = [] ∧
        (u.printer a).headSent = false ∧ (u.printer a).retries = 0 ∧
        ((s.printer a).state = .busy → (u.printer a).state = .ready ∧ u.slot a .print = none) ∧
        ((s.printer a).state ≠ .busy → (u.printer a).state = (s.printer a).state) ∧ u.hlc = s.hlc ∧
        u.pru.reservations = s.pru.reservations ∧ u.orders = s.orders.erase c ∧ printerFrame a s u)

/-! ## Kiosk lines -/

/-- DROP_CONFIG outside STARTING: a drop of a line that is not enabled is BAD_VALUE, a change of kind of a drop in use IN_USE;
a change of kind starts the record anew, PROBING or UNUSED, tells the TDU and the PRU, and raises DROP_STATE when the drop's state
changed; the same kind takes the supply alone (R165 to R167). That a change of kind which leaves the drop's state raises nothing is the
model's reading (notes/assumptions/32.md). -/
def Obligations.DropConfigSetsTheDrop : Prop :=
  ∀ (h : HostTag) (d : Drop) (k : DropKind) (v : ReaderSupply) (s : State), s.hlc.partState ≠ .starting →
    let c := Instr.dropConfig h (some { drop := d.val, kind := some k, supply := some v })
    (8 ≤ d.val → s.hlc.straps.bothLines = false →
      exec c s = .next (((s.accept c).replyHost h .badValue .none).transmit)) ∧
    (s.dropEnabled d.val = true →
      (k = (s.dropRec d).kind → exec c s =
        .next ((((s.accept c).setDropRec d { s.dropRec d with supply := v }).replyHost h .ok .none).transmit)) ∧
      (k ≠ (s.dropRec d).kind →
        ((s.basket d).state ≠ .idle ∨ (s.session d).state ≠ .idle ∨ (s.reader d).state.powered = true ∨ s.queue d ≠ [] ∨
          (∃ r ∈ s.pru.reservations, r.drop = d) →
          exec c s = .next (((s.accept c).replyHost h .inUse .none).transmit)) ∧
        ((s.basket d).state = .idle → (s.session d).state = .idle → (s.reader d).state.powered = false → s.queue d = [] →
          (∀ r ∈ s.pru.reservations, r.drop ≠ d) →
          ∃ u : State, exec c s = .next ((u.replyHost h .ok .none).transmit) ∧ (u.dropRec d).kind = k ∧
            (u.dropRec d).supply = v ∧ (u.dropRec d).state = (if k = .none then .unused else .probing) ∧
            (u.dropRec d).misses = 0 ∧ (u.dropRec d).outToggle = false ∧ (u.dropRec d).inToggle = none ∧
            (u.dropRec d).inDoubt = none ∧ (u.dropRec d).requestOutstanding = false ∧ (∀ i, u.slot d i = none) ∧
            (u.dropRec d).busyDue = none ∧ (u.dropRec d).holdOff = false ∧
            ((u.dropRec d).state ≠ (s.dropRec d).state → u.hlc.conditions.raised .dropState = true) ∧
            ((u.dropRec d).state = (s.dropRec d).state → u.hlc = s.hlc) ∧
            u.orders = s.orders.erase c ++ [.dropKindChangeTdu d k, .dropKindChangePru d k] ∧
            (∀ e, e ≠ d → u.dropRec e = s.dropRec e) ∧
            (∀ x, (u.line (dropLine d)).visit = some x → x.drop = d → x.discard = true) ∧ hlcKept s u ∧
            keptBut [.klc, .hlc, .orders] s u)))

/-- A visit goes to the next due drop of the round, in address order, or past the last one to the first of the next round: SYNC to
a drop that is away, a frame in doubt again under its toggle, a bare poll when that frame was replaced or withdrawn, else the waiting
frame of highest rank, PRINT passed over under hold-off, else a bare poll. The frame is a control byte with the toggles, marks and kind,
a length, the body and a CRC-16 over these and the address; a body's slot keeps its frame, marked as sent. A round in which no drop is due idles the line, and its
end begins the next; with no drop in use there is no visit (R168, R170, R171, R193, R196, R197). Which bits of the control byte are free
values, how a round is counted, that an event without its cause changes nothing, what tells a frame sent from
its replacement, that a line with no drop in use stands still, and that a body longer than 120 bytes goes whole, its length byte modulo
256, are the model's choices (notes/assumptions/49.md, 26.md, 3.md, 15.md, 46.md, 57.md). -/
def Obligations.VisitsGoRoundTheDrops : Prop :=
  (∀ (l : LineId) (s : State), (s.line l).visit = none → (s.line l).idle = false →
    (∀ (round place : Nat) (i : Fin 8),
      round = (s.line l).round ∧ place = (s.line l).next ∨
        round = ((s.line l).round + 1) % 8 ∧ place = 0 ∧ (s.line l).next ≠ 0 ∧
          (∀ j : Fin 8, (s.line l).next ≤ j.val → (s.dropRec (dropAt l j)).due (s.line l).round = false) →
      place ≤ i.val → (s.dropRec (dropAt l i)).due round = true →
      (∀ j : Fin 8, place ≤ j.val → j < i → (s.dropRec (dropAt l j)).due round = false) →
      ∃ (u : State) (v : Visit), exec (.visitStart l) s = .next u ∧ (u.line l).visit = some v ∧ v.drop = dropAt l i ∧
        v.sent = (s.dropRec v.drop).toSend ∧ v.busyMark = (s.dropRec v.drop).busyDue ∧ v.discard = false ∧
        v.addr.toNat = 257 + i.val + (if l = .a then 0 else 16) ∧
        (let covered := outControl v.drop v.sent (s.dropRec v.drop).inToggle (s.dropRec v.drop).busyDue ::
           BitVec.ofNat 8 (sentBody v.sent).length :: sentBody v.sent
         v.bytes = covered ++ beBytes 2 (crc16 (v.addr.setWidth 8 :: covered)).toNat) ∧
        (∀ k t f, v.sent = .body k t f → u.slot v.drop k = some { frame := f, sent := true } ∧ ∀ j, j ≠ k → u.slot v.drop j = s.slot v.drop j) ∧
        ((∀ k t f, v.sent ≠ .body k t f) → ∀ j, u.slot v.drop j = s.slot v.drop j) ∧
        (∀ k, k ≠ l → u.line k = s.line k) ∧ (u.line l).next = i.val + 1 ∧ (u.line l).round = round ∧ (u.line l).idle = false ∧
        (∀ e, e ≠ v.drop → u.dropRec e = s.dropRec e) ∧
        u.dropRec v.drop = { s.dropRec v.drop with slots := (u.dropRec v.drop).slots } ∧
        (∀ k, (u.slot v.drop k).map (·.frame) = (s.slot v.drop k).map (·.frame)) ∧ keptBut [.klc] s u) ∧
    ((∃ i, (s.dropRec (dropAt l i)).state ≠ .unused) →
      (∀ j : Fin 8, (s.line l).next ≤ j.val → (s.dropRec (dropAt l j)).due (s.line l).round = false) →
      ((s.line l).next = 0 → exec (.visitStart l) s = .next (s.setLine l { s.line l with idle := true })) ∧
      ((s.line l).next ≠ 0 → (∀ j : Fin 8, (s.dropRec (dropAt l j)).due (((s.line l).round + 1) % 8) = false) →
        exec (.visitStart l) s =
          .next (s.setLine l { s.line l with round := ((s.line l).round + 1) % 8, next := 0, idle := true })))) ∧
  (∀ (l : LineId) (s : State), (∀ i, (s.dropRec (dropAt l i)).state = .unused) →
    exec (.visitStart l) s = .next s) ∧
  (∀ (l : LineId) (s : State), (s.line l).visit ≠ none ∨ (s.line l).idle = true → exec (.visitStart l) s = .next s) ∧
  (∀ (l : LineId) (s : State), (s.line l).idle = false → exec (.roundIdleEnd l) s = .next s) ∧
  (∀ (d : Drop) (sent : SentFrame) (inToggle busy : Option Bool),
    let c := outControl d sent inToggle busy
    (∀ i t f, sent = .body i t f → c.getLsbD 7 = t ∧ c.toNat % 8 = 2 + (slotIndex i).val) ∧
    (sent = .sync → c.getLsbD 7 = false ∧ c.toNat % 8 = 0) ∧
    (sent = .poll ∨ sent = .pollInDoubt → c.getLsbD 7 = false ∧ c.toNat % 8 = 1) ∧
    (∀ t, inToggle = some t → c.getLsbD 6 = t ∧ c.getLsbD 5 = true) ∧ (inToggle = none → c.getLsbD 5 = false) ∧
    (∀ t, busy = some t → c.getLsbD 4 = true ∧ c.getLsbD 3 = t) ∧ (busy = none → c.getLsbD 4 = false) ∧
    (sent = .sync ∨ sent = .poll ∨ sent = .pollInDoubt → sentBody sent = []) ∧
    ∀ i t f, sent = .body i t f → sentBody sent = outBody f) ∧
  (∀ (l : LineId) (s : State), (s.line l).idle = true →
    exec (.roundIdleEnd l) s =
      .next (s.setLine l { s.line l with round := ((s.line l).round + 1) % 8, next := 0, idle := false })) ∧
  (∀ r : DropRecord,
    (r.state = .probing ∨ r.state = .offline → r.toSend = .sync) ∧
    (∀ q, r.state = .online → r.inDoubt = some q →
      (∀ e, vget r.slots (slotIndex q.slot) = some e → e.sent = true → r.toSend = .body q.slot q.toggle e.frame) ∧
      ((∀ e, vget r.slots (slotIndex q.slot) = some e → e.sent = false) → r.toSend = .pollInDoubt)) ∧
    (∀ i e, r.state = .online → r.inDoubt = none → vget r.slots (slotIndex i) = some e → (i = .print → r.holdOff = false) →
      (∀ j, slotIndex j < slotIndex i → vget r.slots (slotIndex j) = none) →
      r.toSend = .body i r.outToggle e.frame) ∧
    (r.state = .online → r.inDoubt = none →
      (∀ i, vget r.slots (slotIndex i) = none ∨ i = .print ∧ r.holdOff = true) → r.toSend = .poll))

/-- An answer is good when its address is the drop's, its length at most 120 and that of its body, its CRC-16 right, and its kind in
range. A good answer to a visit that counts clears the misses. An acknowledged frame leaves its slot, unless another has taken its
place there, and flips the toggle; one not taken stays; a bare poll for a frame in doubt settles that doubt. The delivery of a REPLY
clears request outstanding, and that of the off command is told to the TDU; a BUSY mark that went out is no longer due. An away drop
is ONLINE and its three owners are told. An inbound frame under a new toggle, or of any toggle after a SYNC, sends its command, or is
refused BUSY while a request is outstanding, and a repeat sends nothing (R172 to R174, R176, R193, R197). How a frame sent is told from its
replacement is the model's choice (notes/assumptions/15.md). -/
def Obligations.GoodAnswersSettleTheVisit : Prop :=
  (∀ (d : Drop) (a : Answer), answerGood d a = true ↔
    a.addr.toNat = 257 + d.val % 8 + (if d.val < 8 then 0 else 16) ∧ a.length.toNat ≤ 120 ∧ a.body.length = a.length.toNat ∧
    a.crc = crc16 (a.addr.setWidth 8 :: a.control :: a.length :: a.body) ∧
    (a.control.getLsbD 4 = true → ∃ c rest, a.body = c :: rest ∧ 1 ≤ c.toNat ∧ c.toNat ≤ 19) ∧
    (a.control.getLsbD 4 = false → a.length.toNat = 0 ∧ a.control.toNat % 16 = 0)) ∧
  ∀ (l : LineId) (a : Answer) (v : Visit) (s : State), (s.line l).visit = some v → v.discard = false →
    dropLine v.drop = l → answerGood v.drop a = true →
    let r := s.dropRec v.drop
    let given := deliveredFrame r v a
    let away := r.state = .probing ∨ r.state = .offline
    ((∀ i t f, v.sent = .body i t f → given = if answerTaken a = t then some f else none) ∧
     (∀ q, v.sent = .pollInDoubt → r.inDoubt = some q → given = if answerTaken a = q.toggle then some q.frame else none) ∧
     (v.sent = .sync ∨ v.sent = .poll → given = none)) ∧
    ∃ u : State, exec (.goodAnswer l a) s = .next u.transmit ∧ (u.line l).visit = none ∧ (u.dropRec v.drop).misses = 0 ∧
      (u.dropRec v.drop).holdOff = a.control.getLsbD 5 ∧ (u.dropRec v.drop).kind = r.kind ∧
      (u.dropRec v.drop).supply = r.supply ∧ (∀ e, e ≠ v.drop → u.dropRec e = s.dropRec e) ∧
      u.line l = { s.line l with visit := none } ∧ (∀ k, k ≠ l → u.line k = s.line k) ∧ hlcKept s u ∧ keptBut [.klc, .hlc, .orders] s u ∧
      (away → v.sent = .sync →
        (u.dropRec v.drop).state = .online ∧ (u.dropRec v.drop).outToggle = false ∧ (u.dropRec v.drop).inDoubt = none ∧
        u.hlc.conditions.raised .dropState = true ∧
        u.waits v.drop .pushTender (.tenderPush (tenderPushOf (s.session v.drop)))) ∧
      (∀ i t f, r.state = .online → v.sent = .body i t f →
        (u.dropRec v.drop).inDoubt = none ∧ (u.dropRec v.drop).outToggle = (if answerTaken a = t then !t else r.outToggle) ∧
        (∀ e, s.slot v.drop i = some e → u.slot v.drop i = if answerTaken a = t ∧ e.sent = true then none else some e) ∧
        (s.slot v.drop i = none → u.slot v.drop i = none) ∧ ∀ j, j ≠ i → u.slot v.drop j = s.slot v.drop j) ∧
      (∀ q, r.state = .online → v.sent = .pollInDoubt → r.inDoubt = some q →
        (u.dropRec v.drop).inDoubt = none ∧
        (u.dropRec v.drop).outToggle = (if answerTaken a = q.toggle then !q.toggle else r.outToggle) ∧
        ∀ j, u.slot v.drop j = s.slot v.drop j) ∧
      (∀ told : List Instr, told = (if r.state = .online then
            (if given = some (.reader .off) then [.readerOffDelivered v.drop] else [])
          else [.dropOnlineSbu v.drop, .dropOnlineTdu v.drop, .dropOnlinePru v.drop]) →
        r.state = .online ∨ away ∧ v.sent = .sync →
        (answerPresent a = false ∨ r.state = .online ∧ r.inToggle = some (answerToggle a) →
          u.orders = s.orders ++ told ∧ (u.dropRec v.drop).inToggle = (if r.state = .online then r.inToggle else none) ∧
          (u.dropRec v.drop).busyDue = (if v.busyMark = none then r.busyDue else none) ∧
          ((∃ x, given = some (.reply x)) → (u.dropRec v.drop).requestOutstanding = false) ∧
          ((∀ x, given ≠ some (.reply x)) → (u.dropRec v.drop).requestOutstanding = r.requestOutstanding)) ∧
        (∀ c fields, answerPresent a = true → a.body = c :: fields →
          (r.state = .online → r.inToggle ≠ some (answerToggle a)) →
          (u.dropRec v.drop).inToggle = some (answerToggle a) ∧
          (isRequestCode c.toNat = false ∨ r.requestOutstanding = false ∨ (∃ x, given = some (.reply x)) →
            u.orders = s.orders ++ told ++ (dropCommand v.drop c.toNat fields).toList ∧
            (isRequestCode c.toNat = true → (u.dropRec v.drop).requestOutstanding = true) ∧
            (u.dropRec v.drop).busyDue = (if v.busyMark = none then r.busyDue else none)) ∧
          (isRequestCode c.toNat = true → r.requestOutstanding = true → (∀ x, given ≠ some (.reply x)) →
            u.orders = s.orders ++ told ∧ (u.dropRec v.drop).requestOutstanding = true ∧
            (u.dropRec v.drop).busyDue = some (answerToggle a))))

/-- A missed visit counts, up to three, and leaves the frame it sent in doubt; the third miss makes a drop OFFLINE, raises
DROP_STATE and tells the TDU and the PRU; toggles, busy-due, hold-off and request outstanding stay. An answer that is not good counts
as a miss. A visit to be discarded only ends (R172, R175, R177). That a visit's end on a line with no visit under way changes nothing,
and that the test of an answer is the command's own, are the model's choices (notes/assumptions/3.md, 33.md). -/
def Obligations.MissesLoseADrop : Prop :=
  (∀ (l : LineId) (a : Answer) (s : State), (s.line l).visit = none →
    exec (.visitMiss l) s = .next s.transmit ∧ exec (.goodAnswer l a) s = .next s.transmit) ∧
  ∀ (l : LineId) (v : Visit) (s : State), (s.line l).visit = some v → dropLine v.drop = l →
    (v.discard = true → exec (.visitMiss l) s = .next (s.endVisit l).transmit ∧
      ∀ a, exec (.goodAnswer l a) s = .next (s.endVisit l).transmit) ∧
    (∀ a, v.discard = false → answerGood v.drop a = false → exec (.goodAnswer l a) s = exec (.visitMiss l) s) ∧
    (v.discard = false →
      ∃ u : State, exec (.visitMiss l) s = .next u.transmit ∧ u.line l = { s.line l with visit := none } ∧
        (∀ k, k ≠ l → u.line k = s.line k) ∧
        u.dropRec v.drop = { s.dropRec v.drop with
          state := (u.dropRec v.drop).state, misses := (u.dropRec v.drop).misses, inDoubt := (u.dropRec v.drop).inDoubt } ∧
        (u.dropRec v.drop).misses = min 3 ((s.dropRec v.drop).misses + 1) ∧
        (∀ i, u.slot v.drop i = s.slot v.drop i) ∧
        (∀ i t f, v.sent = .body i t f →
          (u.dropRec v.drop).inDoubt = some { slot := i, toggle := t, frame := f }) ∧
        ((∀ i t f, v.sent ≠ .body i t f) → (u.dropRec v.drop).inDoubt = (s.dropRec v.drop).inDoubt) ∧
        (2 ≤ (s.dropRec v.drop).misses → (s.dropRec v.drop).state = .probing ∨ (s.dropRec v.drop).state = .online →
          (u.dropRec v.drop).state = .offline ∧ u.hlc.conditions.raised .dropState = true ∧
          u.orders = s.orders ++ [.dropOfflineTdu v.drop, .dropOfflinePru v.drop]) ∧
        ((s.dropRec v.drop).misses < 2 ∨ (s.dropRec v.drop).state = .offline →
          (u.dropRec v.drop).state = (s.dropRec v.drop).state ∧ u.orders = s.orders ∧ u.hlc = s.hlc) ∧
        (∀ e, e ≠ v.drop → u.dropRec e = s.dropRec e) ∧ hlcKept s u ∧ keptBut [.klc, .hlc, .orders] s u)
end

