-- ==== Sys2Proof/Laws/State.lean ====
section
/-! SUPPORT. What each update of the state leaves of each field, and what a read of a record gives after a write. -/

namespace Sys2Proof.Machine

variable (s : State)

/-! ## Tables of records -/

@[simp] theorem vget_vput_same {α : Type} {n : Nat} (v : Vector α n) (i : Fin n) (x : α) : vget (vput v i x) i = x := by
  simp [vget, vput]

theorem vget_vput_ne {α : Type} {n : Nat} (v : Vector α n) {i j : Fin n} (x : α) (h : j ≠ i) :
    vget (vput v i x) j = vget v j := by
  have h2 : (i : Nat) ≠ j := fun e => h (Fin.ext e.symm)
  simp [vget, vput, h2]

theorem vget_vput {α : Type} {n : Nat} (v : Vector α n) (i j : Fin n) (x : α) :
    vget (vput v i x) j = if j = i then x else vget v j := by
  split
  · rename_i e; rw [e]; exact vget_vput_same v i x
  · rename_i e; exact vget_vput_ne v x e

@[simp] theorem vget_replicate {α : Type} {n : Nat} (x : α) (i : Fin n) : vget (Vector.replicate n x) i = x := by
  simp [vget]

@[simp] theorem vget_map {α β : Type} {n : Nat} (f : α → β) (v : Vector α n) (i : Fin n) :
    vget (v.map f) i = f (vget v i) := by
  simp [vget]

/-! ## Fields after updates -/

@[simp] theorem State.setBasket_fau (d : Drop) (b : Basket) : (s.setBasket d b).fau = s.fau := rfl
@[simp] theorem State.setBasket_tdu (d : Drop) (b : Basket) : (s.setBasket d b).tdu = s.tdu := rfl
@[simp] theorem State.setBasket_jnu (d : Drop) (b : Basket) : (s.setBasket d b).jnu = s.jnu := rfl
@[simp] theorem State.setBasket_vcu (d : Drop) (b : Basket) : (s.setBasket d b).vcu = s.vcu := rfl
@[simp] theorem State.setBasket_pru (d : Drop) (b : Basket) : (s.setBasket d b).pru = s.pru := rfl
@[simp] theorem State.setBasket_klc (d : Drop) (b : Basket) : (s.setBasket d b).klc = s.klc := rfl
@[simp] theorem State.setBasket_hlc (d : Drop) (b : Basket) : (s.setBasket d b).hlc = s.hlc := rfl
@[simp] theorem State.setBasket_orders (d : Drop) (b : Basket) : (s.setBasket d b).orders = s.orders := rfl
@[simp] theorem State.setBasket_priceAnswer (d : Drop) (b : Basket) : (s.setBasket d b).priceAnswer = s.priceAnswer := rfl
@[simp] theorem State.setBasket_pending (d : Drop) (b : Basket) : (s.setBasket d b).pending = s.pending := rfl

@[simp] theorem State.setScreening_fau (i : Fin 16) (sc : Option Screening) : (s.setScreening i sc).fau = s.fau := rfl
@[simp] theorem State.setScreening_tdu (i : Fin 16) (sc : Option Screening) : (s.setScreening i sc).tdu = s.tdu := rfl
@[simp] theorem State.setScreening_jnu (i : Fin 16) (sc : Option Screening) : (s.setScreening i sc).jnu = s.jnu := rfl
@[simp] theorem State.setScreening_vcu (i : Fin 16) (sc : Option Screening) : (s.setScreening i sc).vcu = s.vcu := rfl
@[simp] theorem State.setScreening_pru (i : Fin 16) (sc : Option Screening) : (s.setScreening i sc).pru = s.pru := rfl
@[simp] theorem State.setScreening_klc (i : Fin 16) (sc : Option Screening) : (s.setScreening i sc).klc = s.klc := rfl
@[simp] theorem State.setScreening_hlc (i : Fin 16) (sc : Option Screening) : (s.setScreening i sc).hlc = s.hlc := rfl
@[simp] theorem State.setScreening_orders (i : Fin 16) (sc : Option Screening) : (s.setScreening i sc).orders = s.orders := rfl
@[simp] theorem State.setScreening_priceAnswer (i : Fin 16) (sc : Option Screening) : (s.setScreening i sc).priceAnswer = s.priceAnswer := rfl
@[simp] theorem State.setScreening_pending (i : Fin 16) (sc : Option Screening) : (s.setScreening i sc).pending = s.pending := rfl

@[simp] theorem State.setLayout_fau (i : Fin 8) (l : Layout) : (s.setLayout i l).fau = s.fau := rfl
@[simp] theorem State.setLayout_tdu (i : Fin 8) (l : Layout) : (s.setLayout i l).tdu = s.tdu := rfl
@[simp] theorem State.setLayout_jnu (i : Fin 8) (l : Layout) : (s.setLayout i l).jnu = s.jnu := rfl
@[simp] theorem State.setLayout_vcu (i : Fin 8) (l : Layout) : (s.setLayout i l).vcu = s.vcu := rfl
@[simp] theorem State.setLayout_pru (i : Fin 8) (l : Layout) : (s.setLayout i l).pru = s.pru := rfl
@[simp] theorem State.setLayout_klc (i : Fin 8) (l : Layout) : (s.setLayout i l).klc = s.klc := rfl
@[simp] theorem State.setLayout_hlc (i : Fin 8) (l : Layout) : (s.setLayout i l).hlc = s.hlc := rfl
@[simp] theorem State.setLayout_orders (i : Fin 8) (l : Layout) : (s.setLayout i l).orders = s.orders := rfl
@[simp] theorem State.setLayout_priceAnswer (i : Fin 8) (l : Layout) : (s.setLayout i l).priceAnswer = s.priceAnswer := rfl
@[simp] theorem State.setLayout_pending (i : Fin 8) (l : Layout) : (s.setLayout i l).pending = s.pending := rfl

@[simp] theorem State.setReader_sbu (d : Drop) (r : ReaderSlot) : (s.setReader d r).sbu = s.sbu := rfl
@[simp] theorem State.setReader_fau (d : Drop) (r : ReaderSlot) : (s.setReader d r).fau = s.fau := rfl
@[simp] theorem State.setReader_jnu (d : Drop) (r : ReaderSlot) : (s.setReader d r).jnu = s.jnu := rfl
@[simp] theorem State.setReader_vcu (d : Drop) (r : ReaderSlot) : (s.setReader d r).vcu = s.vcu := rfl
@[simp] theorem State.setReader_pru (d : Drop) (r : ReaderSlot) : (s.setReader d r).pru = s.pru := rfl
@[simp] theorem State.setReader_klc (d : Drop) (r : ReaderSlot) : (s.setReader d r).klc = s.klc := rfl
@[simp] theorem State.setReader_hlc (d : Drop) (r : ReaderSlot) : (s.setReader d r).hlc = s.hlc := rfl
@[simp] theorem State.setReader_orders (d : Drop) (r : ReaderSlot) : (s.setReader d r).orders = s.orders := rfl
@[simp] theorem State.setReader_priceAnswer (d : Drop) (r : ReaderSlot) : (s.setReader d r).priceAnswer = s.priceAnswer := rfl
@[simp] theorem State.setReader_pending (d : Drop) (r : ReaderSlot) : (s.setReader d r).pending = s.pending := rfl

@[simp] theorem State.setSession_sbu (d : Drop) (x : Session) : (s.setSession d x).sbu = s.sbu := rfl
@[simp] theorem State.setSession_fau (d : Drop) (x : Session) : (s.setSession d x).fau = s.fau := rfl
@[simp] theorem State.setSession_jnu (d : Drop) (x : Session) : (s.setSession d x).jnu = s.jnu := rfl
@[simp] theorem State.setSession_vcu (d : Drop) (x : Session) : (s.setSession d x).vcu = s.vcu := rfl
@[simp] theorem State.setSession_pru (d : Drop) (x : Session) : (s.setSession d x).pru = s.pru := rfl
@[simp] theorem State.setSession_klc (d : Drop) (x : Session) : (s.setSession d x).klc = s.klc := rfl
@[simp] theorem State.setSession_hlc (d : Drop) (x : Session) : (s.setSession d x).hlc = s.hlc := rfl
@[simp] theorem State.setSession_orders (d : Drop) (x : Session) : (s.setSession d x).orders = s.orders := rfl
@[simp] theorem State.setSession_priceAnswer (d : Drop) (x : Session) : (s.setSession d x).priceAnswer = s.priceAnswer := rfl
@[simp] theorem State.setSession_pending (d : Drop) (x : Session) : (s.setSession d x).pending = s.pending := rfl

@[simp] theorem State.setPrinter_sbu (d : Drop) (p : Printer) : (s.setPrinter d p).sbu = s.sbu := rfl
@[simp] theorem State.setPrinter_fau (d : Drop) (p : Printer) : (s.setPrinter d p).fau = s.fau := rfl
@[simp] theorem State.setPrinter_tdu (d : Drop) (p : Printer) : (s.setPrinter d p).tdu = s.tdu := rfl
@[simp] theorem State.setPrinter_jnu (d : Drop) (p : Printer) : (s.setPrinter d p).jnu = s.jnu := rfl
@[simp] theorem State.setPrinter_vcu (d : Drop) (p : Printer) : (s.setPrinter d p).vcu = s.vcu := rfl
@[simp] theorem State.setPrinter_klc (d : Drop) (p : Printer) : (s.setPrinter d p).klc = s.klc := rfl
@[simp] theorem State.setPrinter_hlc (d : Drop) (p : Printer) : (s.setPrinter d p).hlc = s.hlc := rfl
@[simp] theorem State.setPrinter_orders (d : Drop) (p : Printer) : (s.setPrinter d p).orders = s.orders := rfl
@[simp] theorem State.setPrinter_priceAnswer (d : Drop) (p : Printer) : (s.setPrinter d p).priceAnswer = s.priceAnswer := rfl
@[simp] theorem State.setPrinter_pending (d : Drop) (p : Printer) : (s.setPrinter d p).pending = s.pending := rfl

@[simp] theorem State.setQueue_sbu (d : Drop) (q : List PrintItem) : (s.setQueue d q).sbu = s.sbu := rfl
@[simp] theorem State.setQueue_fau (d : Drop) (q : List PrintItem) : (s.setQueue d q).fau = s.fau := rfl
@[simp] theorem State.setQueue_tdu (d : Drop) (q : List PrintItem) : (s.setQueue d q).tdu = s.tdu := rfl
@[simp] theorem State.setQueue_jnu (d : Drop) (q : List PrintItem) : (s.setQueue d q).jnu = s.jnu := rfl
@[simp] theorem State.setQueue_vcu (d : Drop) (q : List PrintItem) : (s.setQueue d q).vcu = s.vcu := rfl
@[simp] theorem State.setQueue_klc (d : Drop) (q : List PrintItem) : (s.setQueue d q).klc = s.klc := rfl
@[simp] theorem State.setQueue_hlc (d : Drop) (q : List PrintItem) : (s.setQueue d q).hlc = s.hlc := rfl
@[simp] theorem State.setQueue_orders (d : Drop) (q : List PrintItem) : (s.setQueue d q).orders = s.orders := rfl
@[simp] theorem State.setQueue_priceAnswer (d : Drop) (q : List PrintItem) : (s.setQueue d q).priceAnswer = s.priceAnswer := rfl
@[simp] theorem State.setQueue_pending (d : Drop) (q : List PrintItem) : (s.setQueue d q).pending = s.pending := rfl

@[simp] theorem State.setDropRec_sbu (d : Drop) (r : DropRecord) : (s.setDropRec d r).sbu = s.sbu := rfl
@[simp] theorem State.setDropRec_fau (d : Drop) (r : DropRecord) : (s.setDropRec d r).fau = s.fau := rfl
@[simp] theorem State.setDropRec_tdu (d : Drop) (r : DropRecord) : (s.setDropRec d r).tdu = s.tdu := rfl
@[simp] theorem State.setDropRec_jnu (d : Drop) (r : DropRecord) : (s.setDropRec d r).jnu = s.jnu := rfl
@[simp] theorem State.setDropRec_vcu (d : Drop) (r : DropRecord) : (s.setDropRec d r).vcu = s.vcu := rfl
@[simp] theorem State.setDropRec_pru (d : Drop) (r : DropRecord) : (s.setDropRec d r).pru = s.pru := rfl
@[simp] theorem State.setDropRec_hlc (d : Drop) (r : DropRecord) : (s.setDropRec d r).hlc = s.hlc := rfl
@[simp] theorem State.setDropRec_orders (d : Drop) (r : DropRecord) : (s.setDropRec d r).orders = s.orders := rfl
@[simp] theorem State.setDropRec_priceAnswer (d : Drop) (r : DropRecord) : (s.setDropRec d r).priceAnswer = s.priceAnswer := rfl
@[simp] theorem State.setDropRec_pending (d : Drop) (r : DropRecord) : (s.setDropRec d r).pending = s.pending := rfl

@[simp] theorem State.setLine_sbu (l : LineId) (k : KioskLine) : (s.setLine l k).sbu = s.sbu := by cases l <;> rfl
@[simp] theorem State.setLine_fau (l : LineId) (k : KioskLine) : (s.setLine l k).fau = s.fau := by cases l <;> rfl
@[simp] theorem State.setLine_tdu (l : LineId) (k : KioskLine) : (s.setLine l k).tdu = s.tdu := by cases l <;> rfl
@[simp] theorem State.setLine_jnu (l : LineId) (k : KioskLine) : (s.setLine l k).jnu = s.jnu := by cases l <;> rfl
@[simp] theorem State.setLine_vcu (l : LineId) (k : KioskLine) : (s.setLine l k).vcu = s.vcu := by cases l <;> rfl
@[simp] theorem State.setLine_pru (l : LineId) (k : KioskLine) : (s.setLine l k).pru = s.pru := by cases l <;> rfl
@[simp] theorem State.setLine_hlc (l : LineId) (k : KioskLine) : (s.setLine l k).hlc = s.hlc := by cases l <;> rfl
@[simp] theorem State.setLine_orders (l : LineId) (k : KioskLine) : (s.setLine l k).orders = s.orders := by cases l <;> rfl
@[simp] theorem State.setLine_priceAnswer (l : LineId) (k : KioskLine) : (s.setLine l k).priceAnswer = s.priceAnswer := by cases l <;> rfl
@[simp] theorem State.setLine_pending (l : LineId) (k : KioskLine) : (s.setLine l k).pending = s.pending := by cases l <;> rfl

@[simp] theorem State.setJnu_sbu (j : Jnu) : (s.setJnu j).sbu = s.sbu := rfl
@[simp] theorem State.setJnu_fau (j : Jnu) : (s.setJnu j).fau = s.fau := rfl
@[simp] theorem State.setJnu_tdu (j : Jnu) : (s.setJnu j).tdu = s.tdu := rfl
@[simp] theorem State.setJnu_vcu (j : Jnu) : (s.setJnu j).vcu = s.vcu := rfl
@[simp] theorem State.setJnu_pru (j : Jnu) : (s.setJnu j).pru = s.pru := rfl
@[simp] theorem State.setJnu_klc (j : Jnu) : (s.setJnu j).klc = s.klc := rfl
@[simp] theorem State.setJnu_hlc (j : Jnu) : (s.setJnu j).hlc = s.hlc := rfl
@[simp] theorem State.setJnu_orders (j : Jnu) : (s.setJnu j).orders = s.orders := rfl
@[simp] theorem State.setJnu_priceAnswer (j : Jnu) : (s.setJnu j).priceAnswer = s.priceAnswer := rfl
@[simp] theorem State.setJnu_pending (j : Jnu) : (s.setJnu j).pending = s.pending := rfl

@[simp] theorem State.setVcu_sbu (v : Vcu) : (s.setVcu v).sbu = s.sbu := rfl
@[simp] theorem State.setVcu_fau (v : Vcu) : (s.setVcu v).fau = s.fau := rfl
@[simp] theorem State.setVcu_tdu (v : Vcu) : (s.setVcu v).tdu = s.tdu := rfl
@[simp] theorem State.setVcu_jnu (v : Vcu) : (s.setVcu v).jnu = s.jnu := rfl
@[simp] theorem State.setVcu_pru (v : Vcu) : (s.setVcu v).pru = s.pru := rfl
@[simp] theorem State.setVcu_klc (v : Vcu) : (s.setVcu v).klc = s.klc := rfl
@[simp] theorem State.setVcu_hlc (v : Vcu) : (s.setVcu v).hlc = s.hlc := rfl
@[simp] theorem State.setVcu_orders (v : Vcu) : (s.setVcu v).orders = s.orders := rfl
@[simp] theorem State.setVcu_priceAnswer (v : Vcu) : (s.setVcu v).priceAnswer = s.priceAnswer := rfl
@[simp] theorem State.setVcu_pending (v : Vcu) : (s.setVcu v).pending = s.pending := rfl

@[simp] theorem State.setPru_sbu (p : Pru) : (s.setPru p).sbu = s.sbu := rfl
@[simp] theorem State.setPru_fau (p : Pru) : (s.setPru p).fau = s.fau := rfl
@[simp] theorem State.setPru_tdu (p : Pru) : (s.setPru p).tdu = s.tdu := rfl
@[simp] theorem State.setPru_jnu (p : Pru) : (s.setPru p).jnu = s.jnu := rfl
@[simp] theorem State.setPru_vcu (p : Pru) : (s.setPru p).vcu = s.vcu := rfl
@[simp] theorem State.setPru_klc (p : Pru) : (s.setPru p).klc = s.klc := rfl
@[simp] theorem State.setPru_hlc (p : Pru) : (s.setPru p).hlc = s.hlc := rfl
@[simp] theorem State.setPru_orders (p : Pru) : (s.setPru p).orders = s.orders := rfl
@[simp] theorem State.setPru_priceAnswer (p : Pru) : (s.setPru p).priceAnswer = s.priceAnswer := rfl
@[simp] theorem State.setPru_pending (p : Pru) : (s.setPru p).pending = s.pending := rfl

@[simp] theorem State.setFau_sbu (f : Fau) : (s.setFau f).sbu = s.sbu := rfl
@[simp] theorem State.setFau_tdu (f : Fau) : (s.setFau f).tdu = s.tdu := rfl
@[simp] theorem State.setFau_jnu (f : Fau) : (s.setFau f).jnu = s.jnu := rfl
@[simp] theorem State.setFau_vcu (f : Fau) : (s.setFau f).vcu = s.vcu := rfl
@[simp] theorem State.setFau_pru (f : Fau) : (s.setFau f).pru = s.pru := rfl
@[simp] theorem State.setFau_klc (f : Fau) : (s.setFau f).klc = s.klc := rfl
@[simp] theorem State.setFau_hlc (f : Fau) : (s.setFau f).hlc = s.hlc := rfl
@[simp] theorem State.setFau_orders (f : Fau) : (s.setFau f).orders = s.orders := rfl
@[simp] theorem State.setFau_priceAnswer (f : Fau) : (s.setFau f).priceAnswer = s.priceAnswer := rfl
@[simp] theorem State.setFau_pending (f : Fau) : (s.setFau f).pending = s.pending := rfl

@[simp] theorem State.setHlc_sbu (h : Hlc) : (s.setHlc h).sbu = s.sbu := rfl
@[simp] theorem State.setHlc_fau (h : Hlc) : (s.setHlc h).fau = s.fau := rfl
@[simp] theorem State.setHlc_tdu (h : Hlc) : (s.setHlc h).tdu = s.tdu := rfl
@[simp] theorem State.setHlc_jnu (h : Hlc) : (s.setHlc h).jnu = s.jnu := rfl
@[simp] theorem State.setHlc_vcu (h : Hlc) : (s.setHlc h).vcu = s.vcu := rfl
@[simp] theorem State.setHlc_pru (h : Hlc) : (s.setHlc h).pru = s.pru := rfl
@[simp] theorem State.setHlc_klc (h : Hlc) : (s.setHlc h).klc = s.klc := rfl
@[simp] theorem State.setHlc_orders (h : Hlc) : (s.setHlc h).orders = s.orders := rfl
@[simp] theorem State.setHlc_priceAnswer (h : Hlc) : (s.setHlc h).priceAnswer = s.priceAnswer := rfl
@[simp] theorem State.setHlc_pending (h : Hlc) : (s.setHlc h).pending = s.pending := rfl

@[simp] theorem State.accept_sbu (c : Instr) : (s.accept c).sbu = s.sbu := rfl
@[simp] theorem State.accept_fau (c : Instr) : (s.accept c).fau = s.fau := rfl
@[simp] theorem State.accept_tdu (c : Instr) : (s.accept c).tdu = s.tdu := rfl
@[simp] theorem State.accept_jnu (c : Instr) : (s.accept c).jnu = s.jnu := rfl
@[simp] theorem State.accept_vcu (c : Instr) : (s.accept c).vcu = s.vcu := rfl
@[simp] theorem State.accept_pru (c : Instr) : (s.accept c).pru = s.pru := rfl
@[simp] theorem State.accept_klc (c : Instr) : (s.accept c).klc = s.klc := rfl
@[simp] theorem State.accept_hlc (c : Instr) : (s.accept c).hlc = s.hlc := rfl
@[simp] theorem State.accept_priceAnswer (c : Instr) : (s.accept c).priceAnswer = s.priceAnswer := rfl
@[simp] theorem State.accept_pending (c : Instr) : (s.accept c).pending = s.pending := rfl

@[simp] theorem State.send_sbu (cs : List Instr) : (s.send cs).sbu = s.sbu := rfl
@[simp] theorem State.send_fau (cs : List Instr) : (s.send cs).fau = s.fau := rfl
@[simp] theorem State.send_tdu (cs : List Instr) : (s.send cs).tdu = s.tdu := rfl
@[simp] theorem State.send_jnu (cs : List Instr) : (s.send cs).jnu = s.jnu := rfl
@[simp] theorem State.send_vcu (cs : List Instr) : (s.send cs).vcu = s.vcu := rfl
@[simp] theorem State.send_pru (cs : List Instr) : (s.send cs).pru = s.pru := rfl
@[simp] theorem State.send_klc (cs : List Instr) : (s.send cs).klc = s.klc := rfl
@[simp] theorem State.send_hlc (cs : List Instr) : (s.send cs).hlc = s.hlc := rfl
@[simp] theorem State.send_priceAnswer (cs : List Instr) : (s.send cs).priceAnswer = s.priceAnswer := rfl
@[simp] theorem State.send_pending (cs : List Instr) : (s.send cs).pending = s.pending := rfl

@[simp] theorem State.place_sbu (d : Drop) (i : SlotId) (f : OutFrame) : (s.place d i f).sbu = s.sbu := rfl
@[simp] theorem State.place_fau (d : Drop) (i : SlotId) (f : OutFrame) : (s.place d i f).fau = s.fau := rfl
@[simp] theorem State.place_tdu (d : Drop) (i : SlotId) (f : OutFrame) : (s.place d i f).tdu = s.tdu := rfl
@[simp] theorem State.place_jnu (d : Drop) (i : SlotId) (f : OutFrame) : (s.place d i f).jnu = s.jnu := rfl
@[simp] theorem State.place_vcu (d : Drop) (i : SlotId) (f : OutFrame) : (s.place d i f).vcu = s.vcu := rfl
@[simp] theorem State.place_pru (d : Drop) (i : SlotId) (f : OutFrame) : (s.place d i f).pru = s.pru := rfl
@[simp] theorem State.place_hlc (d : Drop) (i : SlotId) (f : OutFrame) : (s.place d i f).hlc = s.hlc := rfl
@[simp] theorem State.place_orders (d : Drop) (i : SlotId) (f : OutFrame) : (s.place d i f).orders = s.orders := rfl
@[simp] theorem State.place_priceAnswer (d : Drop) (i : SlotId) (f : OutFrame) : (s.place d i f).priceAnswer = s.priceAnswer := rfl
@[simp] theorem State.place_pending (d : Drop) (i : SlotId) (f : OutFrame) : (s.place d i f).pending = s.pending := rfl

@[simp] theorem State.withdraw_sbu (d : Drop) (i : SlotId) : (s.withdraw d i).sbu = s.sbu := rfl
@[simp] theorem State.withdraw_fau (d : Drop) (i : SlotId) : (s.withdraw d i).fau = s.fau := rfl
@[simp] theorem State.withdraw_tdu (d : Drop) (i : SlotId) : (s.withdraw d i).tdu = s.tdu := rfl
@[simp] theorem State.withdraw_jnu (d : Drop) (i : SlotId) : (s.withdraw d i).jnu = s.jnu := rfl
@[simp] theorem State.withdraw_vcu (d : Drop) (i : SlotId) : (s.withdraw d i).vcu = s.vcu := rfl
@[simp] theorem State.withdraw_pru (d : Drop) (i : SlotId) : (s.withdraw d i).pru = s.pru := rfl
@[simp] theorem State.withdraw_hlc (d : Drop) (i : SlotId) : (s.withdraw d i).hlc = s.hlc := rfl
@[simp] theorem State.withdraw_orders (d : Drop) (i : SlotId) : (s.withdraw d i).orders = s.orders := rfl
@[simp] theorem State.withdraw_priceAnswer (d : Drop) (i : SlotId) : (s.withdraw d i).priceAnswer = s.priceAnswer := rfl
@[simp] theorem State.withdraw_pending (d : Drop) (i : SlotId) : (s.withdraw d i).pending = s.pending := rfl

@[simp] theorem State.replyDrop_sbu (d : Drop) (r : DropReply) : (s.replyDrop d r).sbu = s.sbu := rfl
@[simp] theorem State.replyDrop_fau (d : Drop) (r : DropReply) : (s.replyDrop d r).fau = s.fau := rfl
@[simp] theorem State.replyDrop_tdu (d : Drop) (r : DropReply) : (s.replyDrop d r).tdu = s.tdu := rfl
@[simp] theorem State.replyDrop_jnu (d : Drop) (r : DropReply) : (s.replyDrop d r).jnu = s.jnu := rfl
@[simp] theorem State.replyDrop_vcu (d : Drop) (r : DropReply) : (s.replyDrop d r).vcu = s.vcu := rfl
@[simp] theorem State.replyDrop_pru (d : Drop) (r : DropReply) : (s.replyDrop d r).pru = s.pru := rfl
@[simp] theorem State.replyDrop_hlc (d : Drop) (r : DropReply) : (s.replyDrop d r).hlc = s.hlc := rfl
@[simp] theorem State.replyDrop_orders (d : Drop) (r : DropReply) : (s.replyDrop d r).orders = s.orders := rfl
@[simp] theorem State.replyDrop_priceAnswer (d : Drop) (r : DropReply) : (s.replyDrop d r).priceAnswer = s.priceAnswer := rfl
@[simp] theorem State.replyDrop_pending (d : Drop) (r : DropReply) : (s.replyDrop d r).pending = s.pending := rfl

@[simp] theorem State.raise_sbu (k : Condition) : (s.raise k).sbu = s.sbu := rfl
@[simp] theorem State.raise_fau (k : Condition) : (s.raise k).fau = s.fau := rfl
@[simp] theorem State.raise_tdu (k : Condition) : (s.raise k).tdu = s.tdu := rfl
@[simp] theorem State.raise_jnu (k : Condition) : (s.raise k).jnu = s.jnu := rfl
@[simp] theorem State.raise_vcu (k : Condition) : (s.raise k).vcu = s.vcu := rfl
@[simp] theorem State.raise_pru (k : Condition) : (s.raise k).pru = s.pru := rfl
@[simp] theorem State.raise_klc (k : Condition) : (s.raise k).klc = s.klc := rfl
@[simp] theorem State.raise_orders (k : Condition) : (s.raise k).orders = s.orders := rfl
@[simp] theorem State.raise_priceAnswer (k : Condition) : (s.raise k).priceAnswer = s.priceAnswer := rfl
@[simp] theorem State.raise_pending (k : Condition) : (s.raise k).pending = s.pending := rfl

@[simp] theorem State.unraise_sbu (k : Condition) : (s.unraise k).sbu = s.sbu := rfl
@[simp] theorem State.unraise_fau (k : Condition) : (s.unraise k).fau = s.fau := rfl
@[simp] theorem State.unraise_tdu (k : Condition) : (s.unraise k).tdu = s.tdu := rfl
@[simp] theorem State.unraise_jnu (k : Condition) : (s.unraise k).jnu = s.jnu := rfl
@[simp] theorem State.unraise_vcu (k : Condition) : (s.unraise k).vcu = s.vcu := rfl
@[simp] theorem State.unraise_pru (k : Condition) : (s.unraise k).pru = s.pru := rfl
@[simp] theorem State.unraise_klc (k : Condition) : (s.unraise k).klc = s.klc := rfl
@[simp] theorem State.unraise_orders (k : Condition) : (s.unraise k).orders = s.orders := rfl
@[simp] theorem State.unraise_priceAnswer (k : Condition) : (s.unraise k).priceAnswer = s.priceAnswer := rfl
@[simp] theorem State.unraise_pending (k : Condition) : (s.unraise k).pending = s.pending := rfl

@[simp] theorem State.replyHost_sbu (h : HostTag) (c : Code) (x : HostData) : (s.replyHost h c x).sbu = s.sbu := rfl
@[simp] theorem State.replyHost_fau (h : HostTag) (c : Code) (x : HostData) : (s.replyHost h c x).fau = s.fau := rfl
@[simp] theorem State.replyHost_tdu (h : HostTag) (c : Code) (x : HostData) : (s.replyHost h c x).tdu = s.tdu := rfl
@[simp] theorem State.replyHost_jnu (h : HostTag) (c : Code) (x : HostData) : (s.replyHost h c x).jnu = s.jnu := rfl
@[simp] theorem State.replyHost_vcu (h : HostTag) (c : Code) (x : HostData) : (s.replyHost h c x).vcu = s.vcu := rfl
@[simp] theorem State.replyHost_pru (h : HostTag) (c : Code) (x : HostData) : (s.replyHost h c x).pru = s.pru := rfl
@[simp] theorem State.replyHost_klc (h : HostTag) (c : Code) (x : HostData) : (s.replyHost h c x).klc = s.klc := rfl
@[simp] theorem State.replyHost_orders (h : HostTag) (c : Code) (x : HostData) : (s.replyHost h c x).orders = s.orders := rfl
@[simp] theorem State.replyHost_priceAnswer (h : HostTag) (c : Code) (x : HostData) : (s.replyHost h c x).priceAnswer = s.priceAnswer := rfl
@[simp] theorem State.replyHost_pending (h : HostTag) (c : Code) (x : HostData) : (s.replyHost h c x).pending = s.pending := rfl

@[simp] theorem State.enterPart_sbu (p : PartState) : (s.enterPart p).sbu = s.sbu := rfl
@[simp] theorem State.enterPart_fau (p : PartState) : (s.enterPart p).fau = s.fau := rfl
@[simp] theorem State.enterPart_tdu (p : PartState) : (s.enterPart p).tdu = s.tdu := rfl
@[simp] theorem State.enterPart_jnu (p : PartState) : (s.enterPart p).jnu = s.jnu := rfl
@[simp] theorem State.enterPart_vcu (p : PartState) : (s.enterPart p).vcu = s.vcu := rfl
@[simp] theorem State.enterPart_pru (p : PartState) : (s.enterPart p).pru = s.pru := rfl
@[simp] theorem State.enterPart_klc (p : PartState) : (s.enterPart p).klc = s.klc := rfl
@[simp] theorem State.enterPart_orders (p : PartState) : (s.enterPart p).orders = s.orders := rfl
@[simp] theorem State.enterPart_priceAnswer (p : PartState) : (s.enterPart p).priceAnswer = s.priceAnswer := rfl
@[simp] theorem State.enterPart_pending (p : PartState) : (s.enterPart p).pending = s.pending := rfl

/-! ## Records after updates -/

@[simp] theorem State.setBasket_basket_same (d : Drop) (b : Basket) : (s.setBasket d b).basket d = b := vget_vput_same _ _ _
theorem State.setBasket_basket_ne (d : Drop) (b : Basket) {e : Drop} (h : e ≠ d) : (s.setBasket d b).basket e = s.basket e := vget_vput_ne _ _ h
theorem State.setBasket_basket (d : Drop) (b : Basket) (e : Drop) :
    (s.setBasket d b).basket e = if e = d then b else s.basket e := vget_vput _ _ _ _
@[simp] theorem State.setBasket_screening (d : Drop) (b : Basket) (e : Fin 16) : (s.setBasket d b).screening e = s.screening e := rfl
@[simp] theorem State.setBasket_layout (d : Drop) (b : Basket) (e : Fin 8) : (s.setBasket d b).layout e = s.layout e := rfl
@[simp] theorem State.setBasket_reader (d : Drop) (b : Basket) (e : Drop) : (s.setBasket d b).reader e = s.reader e := rfl
@[simp] theorem State.setBasket_session (d : Drop) (b : Basket) (e : Drop) : (s.setBasket d b).session e = s.session e := rfl
@[simp] theorem State.setBasket_printer (d : Drop) (b : Basket) (e : Drop) : (s.setBasket d b).printer e = s.printer e := rfl
@[simp] theorem State.setBasket_queue (d : Drop) (b : Basket) (e : Drop) : (s.setBasket d b).queue e = s.queue e := rfl
@[simp] theorem State.setBasket_dropRec (d : Drop) (b : Basket) (e : Drop) : (s.setBasket d b).dropRec e = s.dropRec e := rfl
@[simp] theorem State.setBasket_line (d : Drop) (b : Basket) (e : LineId) : (s.setBasket d b).line e = s.line e := by cases e <;> rfl

@[simp] theorem State.setScreening_basket (i : Fin 16) (sc : Option Screening) (e : Drop) : (s.setScreening i sc).basket e = s.basket e := rfl
@[simp] theorem State.setScreening_screening_same (i : Fin 16) (sc : Option Screening) : (s.setScreening i sc).screening i = sc := vget_vput_same _ _ _
theorem State.setScreening_screening_ne (i : Fin 16) (sc : Option Screening) {e : Fin 16} (h : e ≠ i) : (s.setScreening i sc).screening e = s.screening e := vget_vput_ne _ _ h
theorem State.setScreening_screening (i : Fin 16) (sc : Option Screening) (e : Fin 16) :
    (s.setScreening i sc).screening e = if e = i then sc else s.screening e := vget_vput _ _ _ _
@[simp] theorem State.setScreening_layout (i : Fin 16) (sc : Option Screening) (e : Fin 8) : (s.setScreening i sc).layout e = s.layout e := rfl
@[simp] theorem State.setScreening_reader (i : Fin 16) (sc : Option Screening) (e : Drop) : (s.setScreening i sc).reader e = s.reader e := rfl
@[simp] theorem State.setScreening_session (i : Fin 16) (sc : Option Screening) (e : Drop) : (s.setScreening i sc).session e = s.session e := rfl
@[simp] theorem State.setScreening_printer (i : Fin 16) (sc : Option Screening) (e : Drop) : (s.setScreening i sc).printer e = s.printer e := rfl
@[simp] theorem State.setScreening_queue (i : Fin 16) (sc : Option Screening) (e : Drop) : (s.setScreening i sc).queue e = s.queue e := rfl
@[simp] theorem State.setScreening_dropRec (i : Fin 16) (sc : Option Screening) (e : Drop) : (s.setScreening i sc).dropRec e = s.dropRec e := rfl
@[simp] theorem State.setScreening_line (i : Fin 16) (sc : Option Screening) (e : LineId) : (s.setScreening i sc).line e = s.line e := by cases e <;> rfl

@[simp] theorem State.setLayout_basket (i : Fin 8) (l : Layout) (e : Drop) : (s.setLayout i l).basket e = s.basket e := rfl
@[simp] theorem State.setLayout_screening (i : Fin 8) (l : Layout) (e : Fin 16) : (s.setLayout i l).screening e = s.screening e := rfl
@[simp] theorem State.setLayout_layout_same (i : Fin 8) (l : Layout) : (s.setLayout i l).layout i = l := vget_vput_same _ _ _
theorem State.setLayout_layout_ne (i : Fin 8) (l : Layout) {e : Fin 8} (h : e ≠ i) : (s.setLayout i l).layout e = s.layout e := vget_vput_ne _ _ h
theorem State.setLayout_layout (i : Fin 8) (l : Layout) (e : Fin 8) :
    (s.setLayout i l).layout e = if e = i then l else s.layout e := vget_vput _ _ _ _
@[simp] theorem State.setLayout_reader (i : Fin 8) (l : Layout) (e : Drop) : (s.setLayout i l).reader e = s.reader e := rfl
@[simp] theorem State.setLayout_session (i : Fin 8) (l : Layout) (e : Drop) : (s.setLayout i l).session e = s.session e := rfl
@[simp] theorem State.setLayout_printer (i : Fin 8) (l : Layout) (e : Drop) : (s.setLayout i l).printer e = s.printer e := rfl
@[simp] theorem State.setLayout_queue (i : Fin 8) (l : Layout) (e : Drop) : (s.setLayout i l).queue e = s.queue e := rfl
@[simp] theorem State.setLayout_dropRec (i : Fin 8) (l : Layout) (e : Drop) : (s.setLayout i l).dropRec e = s.dropRec e := rfl
@[simp] theorem State.setLayout_line (i : Fin 8) (l : Layout) (e : LineId) : (s.setLayout i l).line e = s.line e := by cases e <;> rfl

@[simp] theorem State.setReader_basket (d : Drop) (r : ReaderSlot) (e : Drop) : (s.setReader d r).basket e = s.basket e := rfl
@[simp] theorem State.setReader_screening (d : Drop) (r : ReaderSlot) (e : Fin 16) : (s.setReader d r).screening e = s.screening e := rfl
@[simp] theorem State.setReader_layout (d : Drop) (r : ReaderSlot) (e : Fin 8) : (s.setReader d r).layout e = s.layout e := rfl
@[simp] theorem State.setReader_reader_same (d : Drop) (r : ReaderSlot) : (s.setReader d r).reader d = r := vget_vput_same _ _ _
theorem State.setReader_reader_ne (d : Drop) (r : ReaderSlot) {e : Drop} (h : e ≠ d) : (s.setReader d r).reader e = s.reader e := vget_vput_ne _ _ h
theorem State.setReader_reader (d : Drop) (r : ReaderSlot) (e : Drop) :
    (s.setReader d r).reader e = if e = d then r else s.reader e := vget_vput _ _ _ _
@[simp] theorem State.setReader_session (d : Drop) (r : ReaderSlot) (e : Drop) : (s.setReader d r).session e = s.session e := rfl
@[simp] theorem State.setReader_printer (d : Drop) (r : ReaderSlot) (e : Drop) : (s.setReader d r).printer e = s.printer e := rfl
@[simp] theorem State.setReader_queue (d : Drop) (r : ReaderSlot) (e : Drop) : (s.setReader d r).queue e = s.queue e := rfl
@[simp] theorem State.setReader_dropRec (d : Drop) (r : ReaderSlot) (e : Drop) : (s.setReader d r).dropRec e = s.dropRec e := rfl
@[simp] theorem State.setReader_line (d : Drop) (r : ReaderSlot) (e : LineId) : (s.setReader d r).line e = s.line e := by cases e <;> rfl

@[simp] theorem State.setSession_basket (d : Drop) (x : Session) (e : Drop) : (s.setSession d x).basket e = s.basket e := rfl
@[simp] theorem State.setSession_screening (d : Drop) (x : Session) (e : Fin 16) : (s.setSession d x).screening e = s.screening e := rfl
@[simp] theorem State.setSession_layout (d : Drop) (x : Session) (e : Fin 8) : (s.setSession d x).layout e = s.layout e := rfl
@[simp] theorem State.setSession_reader (d : Drop) (x : Session) (e : Drop) : (s.setSession d x).reader e = s.reader e := rfl
@[simp] theorem State.setSession_session_same (d : Drop) (x : Session) : (s.setSession d x).session d = x := vget_vput_same _ _ _
theorem State.setSession_session_ne (d : Drop) (x : Session) {e : Drop} (h : e ≠ d) : (s.setSession d x).session e = s.session e := vget_vput_ne _ _ h
theorem State.setSession_session (d : Drop) (x : Session) (e : Drop) :
    (s.setSession d x).session e = if e = d then x else s.session e := vget_vput _ _ _ _
@[simp] theorem State.setSession_printer (d : Drop) (x : Session) (e : Drop) : (s.setSession d x).printer e = s.printer e := rfl
@[simp] theorem State.setSession_queue (d : Drop) (x : Session) (e : Drop) : (s.setSession d x).queue e = s.queue e := rfl
@[simp] theorem State.setSession_dropRec (d : Drop) (x : Session) (e : Drop) : (s.setSession d x).dropRec e = s.dropRec e := rfl
@[simp] theorem State.setSession_line (d : Drop) (x : Session) (e : LineId) : (s.setSession d x).line e = s.line e := by cases e <;> rfl

@[simp] theorem State.setPrinter_basket (d : Drop) (p : Printer) (e : Drop) : (s.setPrinter d p).basket e = s.basket e := rfl
@[simp] theorem State.setPrinter_screening (d : Drop) (p : Printer) (e : Fin 16) : (s.setPrinter d p).screening e = s.screening e := rfl
@[simp] theorem State.setPrinter_layout (d : Drop) (p : Printer) (e : Fin 8) : (s.setPrinter d p).layout e = s.layout e := rfl
@[simp] theorem State.setPrinter_reader (d : Drop) (p : Printer) (e : Drop) : (s.setPrinter d p).reader e = s.reader e := rfl
@[simp] theorem State.setPrinter_session (d : Drop) (p : Printer) (e : Drop) : (s.setPrinter d p).session e = s.session e := rfl
@[simp] theorem State.setPrinter_printer_same (d : Drop) (p : Printer) : (s.setPrinter d p).printer d = p := vget_vput_same _ _ _
theorem State.setPrinter_printer_ne (d : Drop) (p : Printer) {e : Drop} (h : e ≠ d) : (s.setPrinter d p).printer e = s.printer e := vget_vput_ne _ _ h
theorem State.setPrinter_printer (d : Drop) (p : Printer) (e : Drop) :
    (s.setPrinter d p).printer e = if e = d then p else s.printer e := vget_vput _ _ _ _
@[simp] theorem State.setPrinter_queue (d : Drop) (p : Printer) (e : Drop) : (s.setPrinter d p).queue e = s.queue e := rfl
@[simp] theorem State.setPrinter_dropRec (d : Drop) (p : Printer) (e : Drop) : (s.setPrinter d p).dropRec e = s.dropRec e := rfl
@[simp] theorem State.setPrinter_line (d : Drop) (p : Printer) (e : LineId) : (s.setPrinter d p).line e = s.line e := by cases e <;> rfl

@[simp] theorem State.setQueue_basket (d : Drop) (q : List PrintItem) (e : Drop) : (s.setQueue d q).basket e = s.basket e := rfl
@[simp] theorem State.setQueue_screening (d : Drop) (q : List PrintItem) (e : Fin 16) : (s.setQueue d q).screening e = s.screening e := rfl
@[simp] theorem State.setQueue_layout (d : Drop) (q : List PrintItem) (e : Fin 8) : (s.setQueue d q).layout e = s.layout e := rfl
@[simp] theorem State.setQueue_reader (d : Drop) (q : List PrintItem) (e : Drop) : (s.setQueue d q).reader e = s.reader e := rfl
@[simp] theorem State.setQueue_session (d : Drop) (q : List PrintItem) (e : Drop) : (s.setQueue d q).session e = s.session e := rfl
@[simp] theorem State.setQueue_printer (d : Drop) (q : List PrintItem) (e : Drop) : (s.setQueue d q).printer e = s.printer e := rfl
@[simp] theorem State.setQueue_queue_same (d : Drop) (q : List PrintItem) : (s.setQueue d q).queue d = q := vget_vput_same _ _ _
theorem State.setQueue_queue_ne (d : Drop) (q : List PrintItem) {e : Drop} (h : e ≠ d) : (s.setQueue d q).queue e = s.queue e := vget_vput_ne _ _ h
theorem State.setQueue_queue (d : Drop) (q : List PrintItem) (e : Drop) :
    (s.setQueue d q).queue e = if e = d then q else s.queue e := vget_vput _ _ _ _
@[simp] theorem State.setQueue_dropRec (d : Drop) (q : List PrintItem) (e : Drop) : (s.setQueue d q).dropRec e = s.dropRec e := rfl
@[simp] theorem State.setQueue_line (d : Drop) (q : List PrintItem) (e : LineId) : (s.setQueue d q).line e = s.line e := by cases e <;> rfl

@[simp] theorem State.setDropRec_basket (d : Drop) (r : DropRecord) (e : Drop) : (s.setDropRec d r).basket e = s.basket e := rfl
@[simp] theorem State.setDropRec_screening (d : Drop) (r : DropRecord) (e : Fin 16) : (s.setDropRec d r).screening e = s.screening e := rfl
@[simp] theorem State.setDropRec_layout (d : Drop) (r : DropRecord) (e : Fin 8) : (s.setDropRec d r).layout e = s.layout e := rfl
@[simp] theorem State.setDropRec_reader (d : Drop) (r : DropRecord) (e : Drop) : (s.setDropRec d r).reader e = s.reader e := rfl
@[simp] theorem State.setDropRec_session (d : Drop) (r : DropRecord) (e : Drop) : (s.setDropRec d r).session e = s.session e := rfl
@[simp] theorem State.setDropRec_printer (d : Drop) (r : DropRecord) (e : Drop) : (s.setDropRec d r).printer e = s.printer e := rfl
@[simp] theorem State.setDropRec_queue (d : Drop) (r : DropRecord) (e : Drop) : (s.setDropRec d r).queue e = s.queue e := rfl
@[simp] theorem State.setDropRec_dropRec_same (d : Drop) (r : DropRecord) : (s.setDropRec d r).dropRec d = r := vget_vput_same _ _ _
theorem State.setDropRec_dropRec_ne (d : Drop) (r : DropRecord) {e : Drop} (h : e ≠ d) : (s.setDropRec d r).dropRec e = s.dropRec e := vget_vput_ne _ _ h
theorem State.setDropRec_dropRec (d : Drop) (r : DropRecord) (e : Drop) :
    (s.setDropRec d r).dropRec e = if e = d then r else s.dropRec e := vget_vput _ _ _ _
@[simp] theorem State.setDropRec_line (d : Drop) (r : DropRecord) (e : LineId) : (s.setDropRec d r).line e = s.line e := by cases e <;> rfl

@[simp] theorem State.setLine_basket (l : LineId) (k : KioskLine) (e : Drop) : (s.setLine l k).basket e = s.basket e := by cases l <;> rfl
@[simp] theorem State.setLine_screening (l : LineId) (k : KioskLine) (e : Fin 16) : (s.setLine l k).screening e = s.screening e := by cases l <;> rfl
@[simp] theorem State.setLine_layout (l : LineId) (k : KioskLine) (e : Fin 8) : (s.setLine l k).layout e = s.layout e := by cases l <;> rfl
@[simp] theorem State.setLine_reader (l : LineId) (k : KioskLine) (e : Drop) : (s.setLine l k).reader e = s.reader e := by cases l <;> rfl
@[simp] theorem State.setLine_session (l : LineId) (k : KioskLine) (e : Drop) : (s.setLine l k).session e = s.session e := by cases l <;> rfl
@[simp] theorem State.setLine_printer (l : LineId) (k : KioskLine) (e : Drop) : (s.setLine l k).printer e = s.printer e := by cases l <;> rfl
@[simp] theorem State.setLine_queue (l : LineId) (k : KioskLine) (e : Drop) : (s.setLine l k).queue e = s.queue e := by cases l <;> rfl
@[simp] theorem State.setLine_dropRec (l : LineId) (k : KioskLine) (e : Drop) : (s.setLine l k).dropRec e = s.dropRec e := by cases l <;> rfl

@[simp] theorem State.setJnu_basket (j : Jnu) (e : Drop) : (s.setJnu j).basket e = s.basket e := rfl
@[simp] theorem State.setJnu_screening (j : Jnu) (e : Fin 16) : (s.setJnu j).screening e = s.screening e := rfl
@[simp] theorem State.setJnu_layout (j : Jnu) (e : Fin 8) : (s.setJnu j).layout e = s.layout e := rfl
@[simp] theorem State.setJnu_reader (j : Jnu) (e : Drop) : (s.setJnu j).reader e = s.reader e := rfl
@[simp] theorem State.setJnu_session (j : Jnu) (e : Drop) : (s.setJnu j).session e = s.session e := rfl
@[simp] theorem State.setJnu_printer (j : Jnu) (e : Drop) : (s.setJnu j).printer e = s.printer e := rfl
@[simp] theorem State.setJnu_queue (j : Jnu) (e : Drop) : (s.setJnu j).queue e = s.queue e := rfl
@[simp] theorem State.setJnu_dropRec (j : Jnu) (e : Drop) : (s.setJnu j).dropRec e = s.dropRec e := rfl
@[simp] theorem State.setJnu_line (j : Jnu) (e : LineId) : (s.setJnu j).line e = s.line e := by cases e <;> rfl

@[simp] theorem State.setVcu_basket (v : Vcu) (e : Drop) : (s.setVcu v).basket e = s.basket e := rfl
@[simp] theorem State.setVcu_screening (v : Vcu) (e : Fin 16) : (s.setVcu v).screening e = s.screening e := rfl
@[simp] theorem State.setVcu_layout (v : Vcu) (e : Fin 8) : (s.setVcu v).layout e = s.layout e := rfl
@[simp] theorem State.setVcu_reader (v : Vcu) (e : Drop) : (s.setVcu v).reader e = s.reader e := rfl
@[simp] theorem State.setVcu_session (v : Vcu) (e : Drop) : (s.setVcu v).session e = s.session e := rfl
@[simp] theorem State.setVcu_printer (v : Vcu) (e : Drop) : (s.setVcu v).printer e = s.printer e := rfl
@[simp] theorem State.setVcu_queue (v : Vcu) (e : Drop) : (s.setVcu v).queue e = s.queue e := rfl
@[simp] theorem State.setVcu_dropRec (v : Vcu) (e : Drop) : (s.setVcu v).dropRec e = s.dropRec e := rfl
@[simp] theorem State.setVcu_line (v : Vcu) (e : LineId) : (s.setVcu v).line e = s.line e := by cases e <;> rfl

@[simp] theorem State.setPru_basket (p : Pru) (e : Drop) : (s.setPru p).basket e = s.basket e := rfl
@[simp] theorem State.setPru_screening (p : Pru) (e : Fin 16) : (s.setPru p).screening e = s.screening e := rfl
@[simp] theorem State.setPru_layout (p : Pru) (e : Fin 8) : (s.setPru p).layout e = s.layout e := rfl
@[simp] theorem State.setPru_reader (p : Pru) (e : Drop) : (s.setPru p).reader e = s.reader e := rfl
@[simp] theorem State.setPru_session (p : Pru) (e : Drop) : (s.setPru p).session e = s.session e := rfl
@[simp] theorem State.setPru_dropRec (p : Pru) (e : Drop) : (s.setPru p).dropRec e = s.dropRec e := rfl
@[simp] theorem State.setPru_line (p : Pru) (e : LineId) : (s.setPru p).line e = s.line e := by cases e <;> rfl

@[simp] theorem State.setFau_basket (f : Fau) (e : Drop) : (s.setFau f).basket e = s.basket e := rfl
@[simp] theorem State.setFau_screening (f : Fau) (e : Fin 16) : (s.setFau f).screening e = s.screening e := rfl
@[simp] theorem State.setFau_layout (f : Fau) (e : Fin 8) : (s.setFau f).layout e = s.layout e := rfl
@[simp] theorem State.setFau_reader (f : Fau) (e : Drop) : (s.setFau f).reader e = s.reader e := rfl
@[simp] theorem State.setFau_session (f : Fau) (e : Drop) : (s.setFau f).session e = s.session e := rfl
@[simp] theorem State.setFau_printer (f : Fau) (e : Drop) : (s.setFau f).printer e = s.printer e := rfl
@[simp] theorem State.setFau_queue (f : Fau) (e : Drop) : (s.setFau f).queue e = s.queue e := rfl
@[simp] theorem State.setFau_dropRec (f : Fau) (e : Drop) : (s.setFau f).dropRec e = s.dropRec e := rfl
@[simp] theorem State.setFau_line (f : Fau) (e : LineId) : (s.setFau f).line e = s.line e := by cases e <;> rfl

@[simp] theorem State.setHlc_basket (h : Hlc) (e : Drop) : (s.setHlc h).basket e = s.basket e := rfl
@[simp] theorem State.setHlc_screening (h : Hlc) (e : Fin 16) : (s.setHlc h).screening e = s.screening e := rfl
@[simp] theorem State.setHlc_layout (h : Hlc) (e : Fin 8) : (s.setHlc h).layout e = s.layout e := rfl
@[simp] theorem State.setHlc_reader (h : Hlc) (e : Drop) : (s.setHlc h).reader e = s.reader e := rfl
@[simp] theorem State.setHlc_session (h : Hlc) (e : Drop) : (s.setHlc h).session e = s.session e := rfl
@[simp] theorem State.setHlc_printer (h : Hlc) (e : Drop) : (s.setHlc h).printer e = s.printer e := rfl
@[simp] theorem State.setHlc_queue (h : Hlc) (e : Drop) : (s.setHlc h).queue e = s.queue e := rfl
@[simp] theorem State.setHlc_dropRec (h : Hlc) (e : Drop) : (s.setHlc h).dropRec e = s.dropRec e := rfl
@[simp] theorem State.setHlc_line (h : Hlc) (e : LineId) : (s.setHlc h).line e = s.line e := by cases e <;> rfl

@[simp] theorem State.accept_basket (c : Instr) (e : Drop) : (s.accept c).basket e = s.basket e := rfl
@[simp] theorem State.accept_screening (c : Instr) (e : Fin 16) : (s.accept c).screening e = s.screening e := rfl
@[simp] theorem State.accept_layout (c : Instr) (e : Fin 8) : (s.accept c).layout e = s.layout e := rfl
@[simp] theorem State.accept_reader (c : Instr) (e : Drop) : (s.accept c).reader e = s.reader e := rfl
@[simp] theorem State.accept_session (c : Instr) (e : Drop) : (s.accept c).session e = s.session e := rfl
@[simp] theorem State.accept_printer (c : Instr) (e : Drop) : (s.accept c).printer e = s.printer e := rfl
@[simp] theorem State.accept_queue (c : Instr) (e : Drop) : (s.accept c).queue e = s.queue e := rfl
@[simp] theorem State.accept_dropRec (c : Instr) (e : Drop) : (s.accept c).dropRec e = s.dropRec e := rfl
@[simp] theorem State.accept_line (c : Instr) (e : LineId) : (s.accept c).line e = s.line e := by cases e <;> rfl

@[simp] theorem State.send_basket (cs : List Instr) (e : Drop) : (s.send cs).basket e = s.basket e := rfl
@[simp] theorem State.send_screening (cs : List Instr) (e : Fin 16) : (s.send cs).screening e = s.screening e := rfl
@[simp] theorem State.send_layout (cs : List Instr) (e : Fin 8) : (s.send cs).layout e = s.layout e := rfl
@[simp] theorem State.send_reader (cs : List Instr) (e : Drop) : (s.send cs).reader e = s.reader e := rfl
@[simp] theorem State.send_session (cs : List Instr) (e : Drop) : (s.send cs).session e = s.session e := rfl
@[simp] theorem State.send_printer (cs : List Instr) (e : Drop) : (s.send cs).printer e = s.printer e := rfl
@[simp] theorem State.send_queue (cs : List Instr) (e : Drop) : (s.send cs).queue e = s.queue e := rfl
@[simp] theorem State.send_dropRec (cs : List Instr) (e : Drop) : (s.send cs).dropRec e = s.dropRec e := rfl
@[simp] theorem State.send_line (cs : List Instr) (e : LineId) : (s.send cs).line e = s.line e := by cases e <;> rfl

@[simp] theorem State.place_basket (d : Drop) (i : SlotId) (f : OutFrame) (e : Drop) : (s.place d i f).basket e = s.basket e := rfl
@[simp] theorem State.place_screening (d : Drop) (i : SlotId) (f : OutFrame) (e : Fin 16) : (s.place d i f).screening e = s.screening e := rfl
@[simp] theorem State.place_layout (d : Drop) (i : SlotId) (f : OutFrame) (e : Fin 8) : (s.place d i f).layout e = s.layout e := rfl
@[simp] theorem State.place_reader (d : Drop) (i : SlotId) (f : OutFrame) (e : Drop) : (s.place d i f).reader e = s.reader e := rfl
@[simp] theorem State.place_session (d : Drop) (i : SlotId) (f : OutFrame) (e : Drop) : (s.place d i f).session e = s.session e := rfl
@[simp] theorem State.place_printer (d : Drop) (i : SlotId) (f : OutFrame) (e : Drop) : (s.place d i f).printer e = s.printer e := rfl
@[simp] theorem State.place_queue (d : Drop) (i : SlotId) (f : OutFrame) (e : Drop) : (s.place d i f).queue e = s.queue e := rfl
@[simp] theorem State.place_line (d : Drop) (i : SlotId) (f : OutFrame) (e : LineId) : (s.place d i f).line e = s.line e := by cases e <;> rfl

@[simp] theorem State.withdraw_basket (d : Drop) (i : SlotId) (e : Drop) : (s.withdraw d i).basket e = s.basket e := rfl
@[simp] theorem State.withdraw_screening (d : Drop) (i : SlotId) (e : Fin 16) : (s.withdraw d i).screening e = s.screening e := rfl
@[simp] theorem State.withdraw_layout (d : Drop) (i : SlotId) (e : Fin 8) : (s.withdraw d i).layout e = s.layout e := rfl
@[simp] theorem State.withdraw_reader (d : Drop) (i : SlotId) (e : Drop) : (s.withdraw d i).reader e = s.reader e := rfl
@[simp] theorem State.withdraw_session (d : Drop) (i : SlotId) (e : Drop) : (s.withdraw d i).session e = s.session e := rfl
@[simp] theorem State.withdraw_printer (d : Drop) (i : SlotId) (e : Drop) : (s.withdraw d i).printer e = s.printer e := rfl
@[simp] theorem State.withdraw_queue (d : Drop) (i : SlotId) (e : Drop) : (s.withdraw d i).queue e = s.queue e := rfl
@[simp] theorem State.withdraw_line (d : Drop) (i : SlotId) (e : LineId) : (s.withdraw d i).line e = s.line e := by cases e <;> rfl

@[simp] theorem State.replyDrop_basket (d : Drop) (r : DropReply) (e : Drop) : (s.replyDrop d r).basket e = s.basket e := rfl
@[simp] theorem State.replyDrop_screening (d : Drop) (r : DropReply) (e : Fin 16) : (s.replyDrop d r).screening e = s.screening e := rfl
@[simp] theorem State.replyDrop_layout (d : Drop) (r : DropReply) (e : Fin 8) : (s.replyDrop d r).layout e = s.layout e := rfl
@[simp] theorem State.replyDrop_reader (d : Drop) (r : DropReply) (e : Drop) : (s.replyDrop d r).reader e = s.reader e := rfl
@[simp] theorem State.replyDrop_session (d : Drop) (r : DropReply) (e : Drop) : (s.replyDrop d r).session e = s.session e := rfl
@[simp] theorem State.replyDrop_printer (d : Drop) (r : DropReply) (e : Drop) : (s.replyDrop d r).printer e = s.printer e := rfl
@[simp] theorem State.replyDrop_queue (d : Drop) (r : DropReply) (e : Drop) : (s.replyDrop d r).queue e = s.queue e := rfl
@[simp] theorem State.replyDrop_line (d : Drop) (r : DropReply) (e : LineId) : (s.replyDrop d r).line e = s.line e := by cases e <;> rfl

@[simp] theorem State.raise_basket (k : Condition) (e : Drop) : (s.raise k).basket e = s.basket e := rfl
@[simp] theorem State.raise_screening (k : Condition) (e : Fin 16) : (s.raise k).screening e = s.screening e := rfl
@[simp] theorem State.raise_layout (k : Condition) (e : Fin 8) : (s.raise k).layout e = s.layout e := rfl
@[simp] theorem State.raise_reader (k : Condition) (e : Drop) : (s.raise k).reader e = s.reader e := rfl
@[simp] theorem State.raise_session (k : Condition) (e : Drop) : (s.raise k).session e = s.session e := rfl
@[simp] theorem State.raise_printer (k : Condition) (e : Drop) : (s.raise k).printer e = s.printer e := rfl
@[simp] theorem State.raise_queue (k : Condition) (e : Drop) : (s.raise k).queue e = s.queue e := rfl
@[simp] theorem State.raise_dropRec (k : Condition) (e : Drop) : (s.raise k).dropRec e = s.dropRec e := rfl
@[simp] theorem State.raise_line (k : Condition) (e : LineId) : (s.raise k).line e = s.line e := by cases e <;> rfl

@[simp] theorem State.unraise_basket (k : Condition) (e : Drop) : (s.unraise k).basket e = s.basket e := rfl
@[simp] theorem State.unraise_screening (k : Condition) (e : Fin 16) : (s.unraise k).screening e = s.screening e := rfl
@[simp] theorem State.unraise_layout (k : Condition) (e : Fin 8) : (s.unraise k).layout e = s.layout e := rfl
@[simp] theorem State.unraise_reader (k : Condition) (e : Drop) : (s.unraise k).reader e = s.reader e := rfl
@[simp] theorem State.unraise_session (k : Condition) (e : Drop) : (s.unraise k).session e = s.session e := rfl
@[simp] theorem State.unraise_printer (k : Condition) (e : Drop) : (s.unraise k).printer e = s.printer e := rfl
@[simp] theorem State.unraise_queue (k : Condition) (e : Drop) : (s.unraise k).queue e = s.queue e := rfl
@[simp] theorem State.unraise_dropRec (k : Condition) (e : Drop) : (s.unraise k).dropRec e = s.dropRec e := rfl
@[simp] theorem State.unraise_line (k : Condition) (e : LineId) : (s.unraise k).line e = s.line e := by cases e <;> rfl

@[simp] theorem State.replyHost_basket (h : HostTag) (c : Code) (x : HostData) (e : Drop) : (s.replyHost h c x).basket e = s.basket e := rfl
@[simp] theorem State.replyHost_screening (h : HostTag) (c : Code) (x : HostData) (e : Fin 16) : (s.replyHost h c x).screening e = s.screening e := rfl
@[simp] theorem State.replyHost_layout (h : HostTag) (c : Code) (x : HostData) (e : Fin 8) : (s.replyHost h c x).layout e = s.layout e := rfl
@[simp] theorem State.replyHost_reader (h : HostTag) (c : Code) (x : HostData) (e : Drop) : (s.replyHost h c x).reader e = s.reader e := rfl
@[simp] theorem State.replyHost_session (h : HostTag) (c : Code) (x : HostData) (e : Drop) : (s.replyHost h c x).session e = s.session e := rfl
@[simp] theorem State.replyHost_printer (h : HostTag) (c : Code) (x : HostData) (e : Drop) : (s.replyHost h c x).printer e = s.printer e := rfl
@[simp] theorem State.replyHost_queue (h : HostTag) (c : Code) (x : HostData) (e : Drop) : (s.replyHost h c x).queue e = s.queue e := rfl
@[simp] theorem State.replyHost_dropRec (h : HostTag) (c : Code) (x : HostData) (e : Drop) : (s.replyHost h c x).dropRec e = s.dropRec e := rfl
@[simp] theorem State.replyHost_line (h : HostTag) (c : Code) (x : HostData) (e : LineId) : (s.replyHost h c x).line e = s.line e := by cases e <;> rfl

@[simp] theorem State.enterPart_basket (p : PartState) (e : Drop) : (s.enterPart p).basket e = s.basket e := rfl
@[simp] theorem State.enterPart_screening (p : PartState) (e : Fin 16) : (s.enterPart p).screening e = s.screening e := rfl
@[simp] theorem State.enterPart_layout (p : PartState) (e : Fin 8) : (s.enterPart p).layout e = s.layout e := rfl
@[simp] theorem State.enterPart_reader (p : PartState) (e : Drop) : (s.enterPart p).reader e = s.reader e := rfl
@[simp] theorem State.enterPart_session (p : PartState) (e : Drop) : (s.enterPart p).session e = s.session e := rfl
@[simp] theorem State.enterPart_printer (p : PartState) (e : Drop) : (s.enterPart p).printer e = s.printer e := rfl
@[simp] theorem State.enterPart_queue (p : PartState) (e : Drop) : (s.enterPart p).queue e = s.queue e := rfl
@[simp] theorem State.enterPart_dropRec (p : PartState) (e : Drop) : (s.enterPart p).dropRec e = s.dropRec e := rfl
@[simp] theorem State.enterPart_line (p : PartState) (e : LineId) : (s.enterPart p).line e = s.line e := by cases e <;> rfl

@[simp] theorem State.setLine_line_same (l : LineId) (k : KioskLine) : (s.setLine l k).line l = k := by cases l <;> rfl
theorem State.setLine_line_ne {l e : LineId} (k : KioskLine) (h : e ≠ l) : (s.setLine l k).line e = s.line e := by
  cases l <;> cases e <;> first | rfl | exact absurd rfl h

@[simp] theorem State.accept_orders (c : Instr) : (s.accept c).orders = s.orders.erase c := rfl
@[simp] theorem State.send_orders (cs : List Instr) : (s.send cs).orders = s.orders ++ cs := rfl
@[simp] theorem State.setJnu_jnu (j : Jnu) : (s.setJnu j).jnu = j := rfl
@[simp] theorem State.setVcu_vcu (v : Vcu) : (s.setVcu v).vcu = v := rfl
@[simp] theorem State.setPru_pru (p : Pru) : (s.setPru p).pru = p := rfl
@[simp] theorem State.setFau_fau (f : Fau) : (s.setFau f).fau = f := rfl
@[simp] theorem State.setHlc_hlc (h : Hlc) : (s.setHlc h).hlc = h := rfl

/-! ## Drop records after a placement (R168) -/

theorem State.place_dropRec (d : Drop) (i : SlotId) (f : OutFrame) (e : Drop) :
    (s.place d i f).dropRec e = if e = d then (s.dropRec d).setSlot i (some { frame := f, sent := false }) else s.dropRec e :=
  vget_vput _ _ _ _
theorem State.withdraw_dropRec (d : Drop) (i : SlotId) (e : Drop) :
    (s.withdraw d i).dropRec e = if e = d then (s.dropRec d).setSlot i none else s.dropRec e :=
  vget_vput _ _ _ _

@[simp] theorem DropRecord.setSlot_kind (r : DropRecord) (i : SlotId) (e : Option SlotEntry) : (r.setSlot i e).kind = r.kind := rfl
@[simp] theorem DropRecord.setSlot_supply (r : DropRecord) (i : SlotId) (e : Option SlotEntry) : (r.setSlot i e).supply = r.supply := rfl
@[simp] theorem DropRecord.setSlot_state (r : DropRecord) (i : SlotId) (e : Option SlotEntry) : (r.setSlot i e).state = r.state := rfl
@[simp] theorem DropRecord.setSlot_misses (r : DropRecord) (i : SlotId) (e : Option SlotEntry) : (r.setSlot i e).misses = r.misses := rfl
@[simp] theorem DropRecord.setSlot_outToggle (r : DropRecord) (i : SlotId) (e : Option SlotEntry) : (r.setSlot i e).outToggle = r.outToggle := rfl
@[simp] theorem DropRecord.setSlot_inToggle (r : DropRecord) (i : SlotId) (e : Option SlotEntry) : (r.setSlot i e).inToggle = r.inToggle := rfl
@[simp] theorem DropRecord.setSlot_inDoubt (r : DropRecord) (i : SlotId) (e : Option SlotEntry) : (r.setSlot i e).inDoubt = r.inDoubt := rfl
@[simp] theorem DropRecord.setSlot_requestOutstanding (r : DropRecord) (i : SlotId) (e : Option SlotEntry) : (r.setSlot i e).requestOutstanding = r.requestOutstanding := rfl
@[simp] theorem DropRecord.setSlot_busyDue (r : DropRecord) (i : SlotId) (e : Option SlotEntry) : (r.setSlot i e).busyDue = r.busyDue := rfl
@[simp] theorem DropRecord.setSlot_holdOff (r : DropRecord) (i : SlotId) (e : Option SlotEntry) : (r.setSlot i e).holdOff = r.holdOff := rfl
@[simp] theorem State.place_dropRec_kind (d : Drop) (i : SlotId) (f : OutFrame) (e : Drop) :
    ((s.place d i f).dropRec e).kind = (s.dropRec e).kind := by
  rw [State.place_dropRec]; split
  · rename_i h; rw [h]; rfl
  · rfl
@[simp] theorem State.withdraw_dropRec_kind (d : Drop) (i : SlotId) (e : Drop) :
    ((s.withdraw d i).dropRec e).kind = (s.dropRec e).kind := by
  rw [State.withdraw_dropRec]; split
  · rename_i h; rw [h]; rfl
  · rfl
@[simp] theorem State.place_dropRec_supply (d : Drop) (i : SlotId) (f : OutFrame) (e : Drop) :
    ((s.place d i f).dropRec e).supply = (s.dropRec e).supply := by
  rw [State.place_dropRec]; split
  · rename_i h; rw [h]; rfl
  · rfl
@[simp] theorem State.withdraw_dropRec_supply (d : Drop) (i : SlotId) (e : Drop) :
    ((s.withdraw d i).dropRec e).supply = (s.dropRec e).supply := by
  rw [State.withdraw_dropRec]; split
  · rename_i h; rw [h]; rfl
  · rfl
@[simp] theorem State.place_dropRec_state (d : Drop) (i : SlotId) (f : OutFrame) (e : Drop) :
    ((s.place d i f).dropRec e).state = (s.dropRec e).state := by
  rw [State.place_dropRec]; split
  · rename_i h; rw [h]; rfl
  · rfl
@[simp] theorem State.withdraw_dropRec_state (d : Drop) (i : SlotId) (e : Drop) :
    ((s.withdraw d i).dropRec e).state = (s.dropRec e).state := by
  rw [State.withdraw_dropRec]; split
  · rename_i h; rw [h]; rfl
  · rfl
@[simp] theorem State.place_dropRec_misses (d : Drop) (i : SlotId) (f : OutFrame) (e : Drop) :
    ((s.place d i f).dropRec e).misses = (s.dropRec e).misses := by
  rw [State.place_dropRec]; split
  · rename_i h; rw [h]; rfl
  · rfl
@[simp] theorem State.withdraw_dropRec_misses (d : Drop) (i : SlotId) (e : Drop) :
    ((s.withdraw d i).dropRec e).misses = (s.dropRec e).misses := by
  rw [State.withdraw_dropRec]; split
  · rename_i h; rw [h]; rfl
  · rfl
@[simp] theorem State.place_dropRec_outToggle (d : Drop) (i : SlotId) (f : OutFrame) (e : Drop) :
    ((s.place d i f).dropRec e).outToggle = (s.dropRec e).outToggle := by
  rw [State.place_dropRec]; split
  · rename_i h; rw [h]; rfl
  · rfl
@[simp] theorem State.withdraw_dropRec_outToggle (d : Drop) (i : SlotId) (e : Drop) :
    ((s.withdraw d i).dropRec e).outToggle = (s.dropRec e).outToggle := by
  rw [State.withdraw_dropRec]; split
  · rename_i h; rw [h]; rfl
  · rfl
@[simp] theorem State.place_dropRec_inToggle (d : Drop) (i : SlotId) (f : OutFrame) (e : Drop) :
    ((s.place d i f).dropRec e).inToggle = (s.dropRec e).inToggle := by
  rw [State.place_dropRec]; split
  · rename_i h; rw [h]; rfl
  · rfl
@[simp] theorem State.withdraw_dropRec_inToggle (d : Drop) (i : SlotId) (e : Drop) :
    ((s.withdraw d i).dropRec e).inToggle = (s.dropRec e).inToggle := by
  rw [State.withdraw_dropRec]; split
  · rename_i h; rw [h]; rfl
  · rfl
@[simp] theorem State.place_dropRec_inDoubt (d : Drop) (i : SlotId) (f : OutFrame) (e : Drop) :
    ((s.place d i f).dropRec e).inDoubt = (s.dropRec e).inDoubt := by
  rw [State.place_dropRec]; split
  · rename_i h; rw [h]; rfl
  · rfl
@[simp] theorem State.withdraw_dropRec_inDoubt (d : Drop) (i : SlotId) (e : Drop) :
    ((s.withdraw d i).dropRec e).inDoubt = (s.dropRec e).inDoubt := by
  rw [State.withdraw_dropRec]; split
  · rename_i h; rw [h]; rfl
  · rfl
@[simp] theorem State.place_dropRec_requestOutstanding (d : Drop) (i : SlotId) (f : OutFrame) (e : Drop) :
    ((s.place d i f).dropRec e).requestOutstanding = (s.dropRec e).requestOutstanding := by
  rw [State.place_dropRec]; split
  · rename_i h; rw [h]; rfl
  · rfl
@[simp] theorem State.withdraw_dropRec_requestOutstanding (d : Drop) (i : SlotId) (e : Drop) :
    ((s.withdraw d i).dropRec e).requestOutstanding = (s.dropRec e).requestOutstanding := by
  rw [State.withdraw_dropRec]; split
  · rename_i h; rw [h]; rfl
  · rfl
@[simp] theorem State.place_dropRec_busyDue (d : Drop) (i : SlotId) (f : OutFrame) (e : Drop) :
    ((s.place d i f).dropRec e).busyDue = (s.dropRec e).busyDue := by
  rw [State.place_dropRec]; split
  · rename_i h; rw [h]; rfl
  · rfl
@[simp] theorem State.withdraw_dropRec_busyDue (d : Drop) (i : SlotId) (e : Drop) :
    ((s.withdraw d i).dropRec e).busyDue = (s.dropRec e).busyDue := by
  rw [State.withdraw_dropRec]; split
  · rename_i h; rw [h]; rfl
  · rfl
@[simp] theorem State.place_dropRec_holdOff (d : Drop) (i : SlotId) (f : OutFrame) (e : Drop) :
    ((s.place d i f).dropRec e).holdOff = (s.dropRec e).holdOff := by
  rw [State.place_dropRec]; split
  · rename_i h; rw [h]; rfl
  · rfl
@[simp] theorem State.withdraw_dropRec_holdOff (d : Drop) (i : SlotId) (e : Drop) :
    ((s.withdraw d i).dropRec e).holdOff = (s.dropRec e).holdOff := by
  rw [State.withdraw_dropRec]; split
  · rename_i h; rw [h]; rfl
  · rfl

@[simp] theorem State.place_slot_same (d : Drop) (i : SlotId) (f : OutFrame) :
    (s.place d i f).slot d i = some { frame := f, sent := false } := by
  simp [State.slot, State.place_dropRec, DropRecord.setSlot]

theorem State.place_slot (d : Drop) (i j : SlotId) (f : OutFrame) :
    (s.place d i f).slot d j = if j = i then some { frame := f, sent := false } else s.slot d j := by
  unfold State.slot; rw [State.place_dropRec, if_pos rfl]
  unfold DropRecord.setSlot
  cases i <;> cases j <;> simp [vget, vput, slotIndex]
@[simp] theorem State.accept_slot (c : Instr) (d : Drop) (j : SlotId) : (s.accept c).slot d j = s.slot d j := rfl
@[simp] theorem State.setReader_slot (d : Drop) (r : ReaderSlot) (e : Drop) (j : SlotId) :
    (s.setReader d r).slot e j = s.slot e j := rfl

@[simp] theorem State.place_isKiosk (d : Drop) (i : SlotId) (f : OutFrame) (e : Drop) :
    (s.place d i f).isKiosk e = s.isKiosk e := by simp [State.isKiosk]
@[simp] theorem State.withdraw_isKiosk (d : Drop) (i : SlotId) (e : Drop) :
    (s.withdraw d i).isKiosk e = s.isKiosk e := by simp [State.isKiosk]

end Sys2Proof.Machine
end

