-- ==== Sys2Proof/Laws/Frames.lean ====
section
/-! SUPPORT. Which parts of the state each shared operation may change, one lemma an operation, and which leave the kiosk lines as they
are. -/

namespace Sys2Proof.Machine

theorem keptBut.refl (L : List Block) (s : State) : keptBut L s s := by intro b _; cases b <;> rfl

theorem keptBut.trans {L : List Block} {s t u : State} (h : keptBut L s t) (k : keptBut L t u) : keptBut L s u := by
  intro b hb; have x := h b hb; have y := k b hb; cases b <;> exact Eq.trans y x

theorem keptBut.mono {L M : List Block} {s t : State} (h : keptBut L s t) (hs : L ⊆ M) : keptBut M s t :=
  fun b hb => h b fun hl => hb (hs hl)

theorem keptBut.foldl {α : Type} {L : List Block} {f : State → α → State} (hf : ∀ s x, keptBut L s (f s x)) (l : List α) :
    ∀ s, keptBut L s (l.foldl f s) := by
  induction l with
  | nil => exact fun s => keptBut.refl L s
  | cons x l ih => exact fun s => (hf s x).trans (ih (f s x))

theorem keptBut.ite {c : Prop} [Decidable c] {L : List Block} {s t u : State} (h : c → keptBut L s t) (k : ¬c → keptBut L s u) :
    keptBut L s (if c then t else u) := by
  split
  · exact h ‹_›
  · exact k ‹_›

variable {L : List Block} (s : State)

/-! ## Plain updates -/

theorem State.setBasket_kept (d : Drop) (b : Basket) (hm : Block.sbu ∈ L) : keptBut L s (s.setBasket d b) := by
  intro k hk; cases k <;> first | rfl | exact absurd hm hk
theorem State.setScreening_kept (i : Fin 16) (sc : Option Screening) (hm : Block.sbu ∈ L) : keptBut L s (s.setScreening i sc) := by
  intro k hk; cases k <;> first | rfl | exact absurd hm hk
theorem State.setLayout_kept (i : Fin 8) (l : Layout) (hm : Block.sbu ∈ L) : keptBut L s (s.setLayout i l) := by
  intro k hk; cases k <;> first | rfl | exact absurd hm hk
theorem State.setReader_kept (d : Drop) (r : ReaderSlot) (hm : Block.tdu ∈ L) : keptBut L s (s.setReader d r) := by
  intro k hk; cases k <;> first | rfl | exact absurd hm hk
theorem State.setSession_kept (d : Drop) (x : Session) (hm : Block.tdu ∈ L) : keptBut L s (s.setSession d x) := by
  intro k hk; cases k <;> first | rfl | exact absurd hm hk
theorem State.setPrinter_kept (d : Drop) (p : Printer) (hm : Block.pru ∈ L) : keptBut L s (s.setPrinter d p) := by
  intro k hk; cases k <;> first | rfl | exact absurd hm hk
theorem State.setQueue_kept (d : Drop) (q : List PrintItem) (hm : Block.pru ∈ L) : keptBut L s (s.setQueue d q) := by
  intro k hk; cases k <;> first | rfl | exact absurd hm hk
theorem State.setDropRec_kept (d : Drop) (r : DropRecord) (hm : Block.klc ∈ L) : keptBut L s (s.setDropRec d r) := by
  intro k hk; cases k <;> first | rfl | exact absurd hm hk
theorem State.setLine_kept (l : LineId) (k : KioskLine) (hm : Block.klc ∈ L) : keptBut L s (s.setLine l k) := by
  intro k hk; cases l <;> cases k <;> first | rfl | exact absurd hm hk
theorem State.setJnu_kept (j : Jnu) (hm : Block.jnu ∈ L) : keptBut L s (s.setJnu j) := by
  intro k hk; cases k <;> first | rfl | exact absurd hm hk
theorem State.setVcu_kept (v : Vcu) (hm : Block.vcu ∈ L) : keptBut L s (s.setVcu v) := by
  intro k hk; cases k <;> first | rfl | exact absurd hm hk
theorem State.setPru_kept (p : Pru) (hm : Block.pru ∈ L) : keptBut L s (s.setPru p) := by
  intro k hk; cases k <;> first | rfl | exact absurd hm hk
theorem State.setFau_kept (f : Fau) (hm : Block.fau ∈ L) : keptBut L s (s.setFau f) := by
  intro k hk; cases k <;> first | rfl | exact absurd hm hk
theorem State.setHlc_kept (h : Hlc) (hm : Block.hlc ∈ L) : keptBut L s (s.setHlc h) := by
  intro k hk; cases k <;> first | rfl | exact absurd hm hk
theorem State.accept_kept (c : Instr) (hm : Block.orders ∈ L) : keptBut L s (s.accept c) := by
  intro k hk; cases k <;> first | rfl | exact absurd hm hk
theorem State.send_kept (cs : List Instr) (hm : Block.orders ∈ L) : keptBut L s (s.send cs) := by
  intro k hk; cases k <;> first | rfl | exact absurd hm hk
theorem State.place_kept (d : Drop) (i : SlotId) (f : OutFrame) (hm : Block.klc ∈ L) : keptBut L s (s.place d i f) := by
  intro k hk; cases k <;> first | rfl | exact absurd hm hk
theorem State.withdraw_kept (d : Drop) (i : SlotId) (hm : Block.klc ∈ L) : keptBut L s (s.withdraw d i) := by
  intro k hk; cases k <;> first | rfl | exact absurd hm hk
theorem State.replyDrop_kept (d : Drop) (r : DropReply) (hm : Block.klc ∈ L) : keptBut L s (s.replyDrop d r) := by
  intro k hk; cases k <;> first | rfl | exact absurd hm hk
theorem State.raise_kept (k : Condition) (hm : Block.hlc ∈ L) : keptBut L s (s.raise k) := by
  intro k hk; cases k <;> first | rfl | exact absurd hm hk
theorem State.unraise_kept (k : Condition) (hm : Block.hlc ∈ L) : keptBut L s (s.unraise k) := by
  intro k hk; cases k <;> first | rfl | exact absurd hm hk
theorem State.replyHost_kept (h : HostTag) (c : Code) (x : HostData) (hm : Block.hlc ∈ L) : keptBut L s (s.replyHost h c x) := by
  intro k hk; cases k <;> first | rfl | exact absurd hm hk
theorem State.enterPart_kept (p : PartState) (hm : Block.hlc ∈ L) : keptBut L s (s.enterPart p) := by
  intro k hk; cases k <;> first | rfl | exact absurd hm hk
/-! ## The transmitter (R184) -/

theorem State.transmit_kept (h : Block.hlc ∈ L) : keptBut L s s.transmit := by
  unfold State.transmit
  split
  · exact .refl L s
  split
  · exact s.setHlc_kept _ h
  split
  · exact s.setHlc_kept _ h
  · exact .refl L s

/-! ## Seats, baskets and screenings (R12, R13, R26, R36, R37, R39) -/

theorem State.closeTest_kept (i : Fin 16) (h : Block.sbu ∈ L) (k : Block.hlc ∈ L) : keptBut L s (s.closeTest i) := by
  unfold State.closeTest
  split
  · split
    · exact (s.setScreening_kept _ _ h).trans (State.raise_kept _ _ k)
    · exact .refl L s
  · exact .refl L s

theorem State.putSeat_kept (n : Nat) (a : SeatAddr) (x : SeatState) (h : Block.sbu ∈ L) (k : Block.hlc ∈ L) :
    keptBut L s (s.putSeat n a x) := by
  unfold State.putSeat
  split
  · exact (s.setScreening_kept _ _ h).trans (State.closeTest_kept _ _ h k)
  · exact .refl L s

theorem State.releaseSeat_kept (n : Nat) (a : SeatAddr) (h : Block.sbu ∈ L) (k : Block.hlc ∈ L) :
    keptBut L s (s.releaseSeat n a) := s.putSeat_kept n a .free h k

theorem State.releaseLine_kept (l : BasketLine) (h : Block.sbu ∈ L) (k : Block.hlc ∈ L) :
    keptBut L s (s.releaseLine l) := by
  cases l
  · exact s.releaseSeat_kept _ _ h k
  · exact .refl L s
  · exact .refl L s

theorem State.releaseLines_kept (ls : List BasketLine) (h : Block.sbu ∈ L) (k : Block.hlc ∈ L) :
    keptBut L s (s.releaseLines ls) :=
  keptBut.foldl (fun t l => t.releaseLine_kept l h k) ls s

theorem State.reprice_kept (d : Drop) (h : Block.sbu ∈ L) (k : Block.hlc ∈ L) : keptBut L s (s.reprice d) :=
  (s.releaseLines_kept _ h k).trans (State.setBasket_kept _ _ _ h)

theorem State.repriceForPush_kept (d : Drop) (h : Block.sbu ∈ L) (k : Block.hlc ∈ L) :
    keptBut L s (s.repriceForPush d) := .ite (fun _ => s.reprice_kept d h k) (fun _ => .refl L s)

theorem State.pushBasket_kept (d : Drop) (r : PushReason) (h : Block.sbu ∈ L) (k : Block.hlc ∈ L) (m : Block.klc ∈ L) :
    keptBut L s (s.pushBasket d r) := (s.repriceForPush_kept d h k).trans (State.place_kept _ _ _ _ m)

theorem State.dropBasket_kept (d : Drop) (h : Block.sbu ∈ L) (k : Block.hlc ∈ L) : keptBut L s (s.dropBasket d) :=
  (s.releaseLines_kept _ h k).trans (State.setBasket_kept _ _ _ h)

theorem State.expireBasket_kept (d : Drop) (h : Block.sbu ∈ L) (k : Block.hlc ∈ L) (m : Block.klc ∈ L) :
    keptBut L s (s.expireBasket d) := (s.dropBasket_kept d h k).trans (State.pushBasket_kept _ _ _ h k m)

theorem State.changeLines_kept (d : Drop) (gone kept : List BasketLine) (h : Block.sbu ∈ L) (k : Block.hlc ∈ L) :
    keptBut L s (s.changeLines d gone kept) := (s.releaseLines_kept _ h k).trans (State.setBasket_kept _ _ _ h)

theorem State.closeForBasket_kept (n : Nat) (d : Drop) (h : Block.sbu ∈ L) (k : Block.hlc ∈ L) (m : Block.klc ∈ L) :
    keptBut L s (State.closeForBasket n s d) :=
  .ite (fun _ => ((s.releaseLines_kept _ h k).trans (State.setBasket_kept _ _ _ h)).trans
    (State.pushBasket_kept _ _ _ h k m)) (fun _ => .refl L s)

theorem State.enterClosing_kept (i : Fin 16) (sc : Screening) (h : Block.sbu ∈ L) (k : Block.hlc ∈ L)
    (m : Block.klc ∈ L) : keptBut L s (s.enterClosing i sc) := by
  have e := (s.setScreening_kept i (some { sc with state := .closing }) h).trans (State.raise_kept _ .screening k)
  have f := fun t => keptBut.foldl (f := State.closeForBasket sc.number)
    (fun t d => t.closeForBasket_kept sc.number d h k m) (List.finRange 16) t
  unfold State.enterClosing
  generalize List.finRange 16 = ds at *
  exact (e.trans (f _)).trans (State.closeTest_kept _ i h k)

theorem State.closeDue_kept (now : SiteTime) (h : Block.sbu ∈ L) (k : Block.hlc ∈ L) (m : Block.klc ∈ L) :
    keptBut L s (s.closeDue now) := by
  refine keptBut.foldl (fun t i => ?_) _ s
  unfold State.closeIfDue
  split
  · exact .ite (fun _ => t.enterClosing_kept _ _ h k m) (fun _ => .refl L t)
  · exact .refl L t

theorem State.basketReply_kept (d : Drop) (c : Code) (x : ReplyDetail) (h : Block.klc ∈ L) :
    keptBut L s (s.basketReply d c x) := s.replyDrop_kept _ _ h

theorem State.serialReply_kept (d : Drop) (c : Code) (h : Block.klc ∈ L) : keptBut L s (s.serialReply d c) :=
  s.replyDrop_kept _ _ h

theorem State.holdSeats_kept (d : Drop) (i : Fin 16) (sc : Screening) (ps : List PricedSeat) (h : Block.sbu ∈ L) :
    keptBut L s (s.holdSeats d i sc ps) := (s.setScreening_kept _ _ h).trans (State.setBasket_kept _ _ _ h)

theorem State.priceAndHold_kept (d : Drop) (i : Fin 16) (sc : Screening) (seats : List (SeatAddr × Concession))
    (x : ReplyDetail) (h : Block.sbu ∈ L) (k : Block.klc ∈ L) : keptBut L s (s.priceAndHold d i sc seats x) := by
  unfold State.priceAndHold
  simp only
  split
  · exact s.basketReply_kept _ _ _ k
  · exact (s.holdSeats_kept _ _ _ _ h).trans (State.basketReply_kept _ _ _ _ k)

theorem State.sellLine_kept (n : Nat) (l : BasketLine) (h : Block.sbu ∈ L) (k : Block.hlc ∈ L) :
    keptBut L s (State.sellLine n s l) := by
  cases l
  · exact s.putSeat_kept _ _ _ h k
  · exact .refl L s
  · exact .refl L s

theorem State.sellBasket_kept (b : Basket) (n : Nat) (h : Block.sbu ∈ L) (k : Block.hlc ∈ L) :
    keptBut L s (s.sellBasket b n) := keptBut.foldl (fun t l => t.sellLine_kept n l h k) _ s

theorem State.commit_kept (d : Drop) (c : CommitOrder) (h : Block.sbu ∈ L) (k : Block.hlc ∈ L) (m : Block.klc ∈ L)
    (o : Block.orders ∈ L) : keptBut L s (s.commit d c) :=
  ((((s.sellBasket_kept _ _ h k).trans (State.send_kept _ _ o)).trans (State.setBasket_kept _ _ _ h)).trans
    (State.pushBasket_kept _ _ _ h k m)).trans (State.send_kept _ _ o)

/-! ## Reader slots and sessions (R87 to R92, R98) -/

theorem State.pushSlot_kept (d : Drop) (r : SlotReason) (h : Block.klc ∈ L) : keptBut L s (s.pushSlot d r) :=
  s.place_kept _ _ _ h

theorem State.pushSlotAfter_kept (d : Drop) (b : ReaderState) (r : Option SlotReason) (h : Block.klc ∈ L) :
    keptBut L s (s.pushSlotAfter d b r) := by
  cases r
  · exact .ite (fun _ => .refl L s) (fun _ => s.pushSlot_kept _ _ h)
  · exact s.pushSlot_kept _ _ h

theorem State.powerOff_kept (d : Drop) (h : Block.tdu ∈ L) (k : Block.klc ∈ L) : keptBut L s (s.powerOff d) :=
  (s.setReader_kept _ _ h).trans (State.place_kept _ _ _ _ k)

theorem State.powerTest_kept (d : Drop) (h : Block.tdu ∈ L) (k : Block.klc ∈ L) : keptBut L s (s.powerTest d) :=
  .ite (fun _ => (s.setReader_kept _ _ h).trans (State.place_kept _ _ _ _ k)) (fun _ => .refl L s)

theorem State.cardRemoved_kept (d : Drop) (h : Block.tdu ∈ L) (k : Block.klc ∈ L) : keptBut L s (s.cardRemoved d) :=
  ((s.setReader_kept _ _ h).trans (State.powerOff_kept _ _ h k)).trans (State.pushSlot_kept _ _ _ k)

theorem State.powerOffPush_kept (d : Drop) (h : Block.tdu ∈ L) (k : Block.klc ∈ L) : keptBut L s (s.powerOffPush d) :=
  (s.powerOff_kept _ h k).trans (State.pushSlotAfter_kept _ _ _ _ k)

theorem State.leaveCardWait_kept (d : Drop) (h : Block.tdu ∈ L) (k : Block.klc ∈ L) :
    keptBut L s (s.leaveCardWait d) := .ite (fun _ => s.powerOffPush_kept d h k) (fun _ => .refl L s)

theorem State.pushTender_kept (d : Drop) (h : Block.klc ∈ L) : keptBut L s (s.pushTender d) := s.place_kept _ _ _ h

theorem State.idleSession_kept (d : Drop) (o : TenderOutcome) (h : Block.tdu ∈ L) (k : Block.klc ∈ L) :
    keptBut L s (s.idleSession d o) := (s.setSession_kept _ _ h).trans (State.place_kept _ _ _ _ k)

theorem State.endSession_kept (d : Drop) (o : TenderOutcome) (r c : List Instr) (h : Block.tdu ∈ L) (k : Block.klc ∈ L)
    (m : Block.hlc ∈ L) (n : Block.orders ∈ L) : keptBut L s (s.endSession d o r c) :=
  ((((s.send_kept _ n).trans (State.unraise_kept _ _ m)).trans (State.leaveCardWait_kept _ _ h k)).trans
    (State.send_kept _ _ n)).trans (State.idleSession_kept _ _ _ h k)

theorem State.endVoid_kept (d : Drop) (o : TenderOutcome) (c : List Instr) (h : Block.tdu ∈ L) (k : Block.klc ∈ L)
    (m : Block.hlc ∈ L) (n : Block.orders ∈ L) : keptBut L s (s.endVoid d o c) :=
  (s.setSession_kept _ _ h).trans (State.endSession_kept _ _ _ _ _ h k m n)

theorem State.cancelReply_kept (d : Drop) (c : Code) (x : ReplyDetail) (h : Block.klc ∈ L) :
    keptBut L s (s.cancelReply d c x) := s.replyDrop_kept _ _ h

/-! ## Printing and the kiosk lines (R154, R155, R173 to R177) -/

theorem State.feed_kept (d : Drop) (h : Block.pru ∈ L) (k : Block.klc ∈ L) : keptBut L s (s.feed d) := by
  unfold State.feed
  split
  · exact (s.setPrinter_kept _ _ h).trans (State.place_kept _ _ _ _ k)
  · exact .refl L s

theorem State.backlogTest_kept (d : Drop) (n : Nat) (h : Block.hlc ∈ L) : keptBut L s (s.backlogTest d n) :=
  .ite (fun _ => s.raise_kept _ h) (fun _ => .refl L s)

theorem State.printOrder_kept (d : Drop) (items : List PrintItem) (h : Block.pru ∈ L) (k : Block.klc ∈ L)
    (m : Block.hlc ∈ L) : keptBut L s (s.printOrder d items) := by
  refine ((State.setPru_kept _ _ h).trans (keptBut.foldl (fun t i => ?_) _ _)).trans
    ((State.backlogTest_kept _ _ _ m).trans (State.feed_kept _ _ h k))
  exact .ite (fun _ => t.setQueue_kept _ _ h) (fun _ => .refl L t)

theorem State.emptyQueue_kept (d : Drop) (h : Block.pru ∈ L) (k : Block.klc ∈ L) : keptBut L s (s.emptyQueue d) := by
  unfold State.emptyQueue
  simp only
  split
  · exact ((s.setQueue_kept _ _ h).trans (State.setPrinter_kept _ _ _ h)).trans (State.withdraw_kept _ _ _ k)
  all_goals exact (s.setQueue_kept _ _ h).trans (State.setPrinter_kept _ _ _ h)

theorem State.discardVisit_kept (d : Drop) (h : Block.klc ∈ L) : keptBut L s (s.discardVisit d) := s.setLine_kept _ _ h

theorem State.raiseIfMoved_kept (d : Drop) (b : DropState) (h : Block.hlc ∈ L) : keptBut L s (s.raiseIfMoved d b) :=
  .ite (fun _ => .refl L s) (fun _ => s.raise_kept _ h)

theorem State.handOn_kept (d : Drop) (t : Bool) (bs : List Byte) (h : Block.klc ∈ L) (k : Block.orders ∈ L) :
    keptBut L s (s.handOn d t bs) := by
  unfold State.handOn
  split
  · exact .refl L s
  split
  · split
    · exact s.setDropRec_kept _ _ h
    · exact (s.setDropRec_kept _ _ h).trans (State.send_kept _ _ k)
  · exact s.send_kept _ k

theorem State.takeInbound_kept (d : Drop) (a : Answer) (h : Block.klc ∈ L) (k : Block.orders ∈ L) :
    keptBut L s (s.takeInbound d a) :=
  .ite (fun _ => (s.setDropRec_kept _ _ h).trans (State.handOn_kept _ _ _ _ h k)) (fun _ => .refl L s)

theorem State.settleAnswer_kept (v : Visit) (a : Answer) (h : Block.klc ∈ L) (k : Block.orders ∈ L) :
    keptBut L s (s.settleAnswer v a) := by
  have f := s.setDropRec_kept v.drop (((s.dropRec v.drop).answered v a).settle v a) h
  unfold State.settleAnswer State.reportDelivery
  simp only
  split
  · exact f.trans (State.setDropRec_kept _ _ _ h)
  · exact f.trans (State.send_kept _ _ k)
  all_goals exact f

theorem State.dropReturn_kept (d : Drop) (h : Block.klc ∈ L) (k : Block.orders ∈ L) (m : Block.hlc ∈ L) :
    keptBut L s (s.dropReturn d) :=
  (((s.setDropRec_kept _ _ h).trans (State.raise_kept _ _ m)).trans (State.send_kept _ _ k)).trans
    (State.pushTender_kept _ _ h)

theorem State.takeAnswer_kept (v : Visit) (a : Answer) (h : Block.klc ∈ L) (k : Block.orders ∈ L) (m : Block.hlc ∈ L) :
    keptBut L s (s.takeAnswer v a) := by
  refine (keptBut.trans ?_ (State.settleAnswer_kept _ _ _ h k)).trans (State.takeInbound_kept _ _ _ h k)
  unfold State.returnIfAway
  split
  · exact s.dropReturn_kept _ h k m
  · exact s.dropReturn_kept _ h k m
  all_goals exact .refl L s

theorem State.miss_kept (v : Visit) (h : Block.klc ∈ L) (k : Block.orders ∈ L) (m : Block.hlc ∈ L) :
    keptBut L s (s.miss v) := by
  refine (s.setDropRec_kept _ _ h).trans (.ite (fun _ => ?_) (fun _ => .refl L _))
  exact ((State.setDropRec_kept _ _ _ h).trans (State.send_kept _ _ k)).trans (State.raise_kept _ _ m)

/-! ## The kiosk lines (R170) -/

theorem linesKept.refl (s : State) : linesKept s s := ⟨rfl, rfl⟩

theorem linesKept.trans {s t u : State} (h : linesKept s t) (k : linesKept t u) : linesKept s u :=
  ⟨k.1.trans h.1, k.2.trans h.2⟩

theorem linesKept.ite {c : Prop} [Decidable c] {s t u : State} (h : c → linesKept s t) (k : ¬c → linesKept s u) :
    linesKept s (if c then t else u) := by
  split
  · exact h ‹_›
  · exact k ‹_›

theorem linesKept.foldl {α : Type} {f : State → α → State} (hf : ∀ s x, linesKept s (f s x)) (l : List α) :
    ∀ s, linesKept s (l.foldl f s) := by
  induction l with
  | nil => exact fun s => .refl s
  | cons x l ih => exact fun s => (hf s x).trans (ih (f s x))

theorem keptBut.linesKept {L : List Block} {s t : State} (h : keptBut L s t) (hk : Block.klc ∉ L) : linesKept s t := by
  have e : t.klc = s.klc := h .klc hk
  exact ⟨by rw [e], by rw [e]⟩

theorem State.place_lines (d : Drop) (i : SlotId) (f : OutFrame) : linesKept s (s.place d i f) := ⟨rfl, rfl⟩

theorem State.pushBasket_lines (d : Drop) (r : PushReason) : linesKept s (s.pushBasket d r) :=
  ((s.repriceForPush_kept (L := [.sbu, .hlc]) d (by simp) (by simp)).linesKept (by simp)).trans (State.place_lines _ _ _ _)

theorem State.closeForBasket_lines (n : Nat) (d : Drop) : linesKept s (State.closeForBasket n s d) :=
  .ite (fun _ => (((s.releaseLines_kept (L := [.sbu, .hlc]) _ (by simp) (by simp)).trans
    (State.setBasket_kept _ _ _ (by simp))).linesKept (by simp)).trans (State.pushBasket_lines _ _ _)) (fun _ => .refl s)

theorem State.enterClosing_lines (i : Fin 16) (sc : Screening) : linesKept s (s.enterClosing i sc) := by
  have e := (s.setScreening_kept (L := [.sbu, .hlc]) i (some { sc with state := .closing }) (by simp)).trans
    (State.raise_kept _ .screening (by simp))
  have f := fun t => linesKept.foldl (f := State.closeForBasket sc.number)
    (fun t d => t.closeForBasket_lines sc.number d) (List.finRange 16) t
  unfold State.enterClosing
  generalize List.finRange 16 = ds at *
  exact ((e.linesKept (by simp)).trans (f _)).trans
    ((State.closeTest_kept (L := [.sbu, .hlc]) _ i (by simp) (by simp)).linesKept (by simp))

theorem State.closeDue_lines (now : SiteTime) : linesKept s (s.closeDue now) := by
  refine linesKept.foldl (fun t i => ?_) _ s
  unfold State.closeIfDue
  split
  · exact .ite (fun _ => t.enterClosing_lines _ _) (fun _ => .refl t)
  · exact .refl t

theorem State.countHold_lines (d : Drop) : linesKept s (s.countHold d) := by
  unfold State.countHold
  simp only
  refine .ite (fun _ => .ite (fun _ => ?_) (fun _ => .ite (fun _ => ⟨rfl, rfl⟩) (fun _ => ⟨rfl, rfl⟩))) (fun _ => .refl s)
  exact (show linesKept s (s.setBasket _ _) from ⟨rfl, rfl⟩).trans (State.pushBasket_lines _ _ _)

theorem State.advanceClock_lines : linesKept s s.advanceClock := by
  have h : ∀ now, linesKept s ((s.setHlc { s.hlc with clock := now }).closeDue now) := fun now =>
    linesKept.trans (t := s.setHlc { s.hlc with clock := now }) ⟨rfl, rfl⟩ (State.closeDue_lines _ now)
  unfold State.advanceClock
  generalize nextTime s.hlc.clock = now
  have e := h now
  clear h
  dsimp only at e ⊢
  generalize State.closeDue _ _ = t at e ⊢
  split
  · exact .refl s
  · split
    · exact e
    · exact e

theorem State.second_lines : linesKept s s.second := by
  have h1 := s.advanceClock_lines
  have h2 := fun t => linesKept.foldl (f := State.countHold) (fun t d => t.countHold_lines d) (List.finRange 16) t
  have h3 := fun t => linesKept.foldl (f := fun u d => (State.countCardWait u d).countAuth d) (fun t d => by
    have a : ∀ t : State, linesKept t (t.countCardWait d) := by
      intro t; unfold State.countCardWait; split
      · exact .ite (fun _ => ⟨rfl, rfl⟩) (fun _ => ⟨rfl, rfl⟩)
      · exact .refl t
    have b : ∀ t : State, linesKept t (t.countAuth d) := by
      intro t; unfold State.countAuth; split
      · exact .ite (fun _ => ⟨rfl, rfl⟩) (fun _ => ⟨rfl, rfl⟩)
      · exact .refl t
    exact (a t).trans (b _)) (List.finRange 16) t
  have h4 : ∀ t : State, linesKept t t.countStore := fun t => .ite (fun _ => ⟨rfl, rfl⟩) (fun _ => .refl t)
  unfold State.second
  generalize List.finRange 16 = ds at *
  exact ((h1.trans (h2 _)).trans (h3 _)).trans (h4 _)

end Sys2Proof.Machine
end

