-- ==== Sys2Proof/Laws/Shared.lean ====
section
/-! SUPPORT. What shared operations answer: the closing test and the putting of a seat, whole repricing, the serving of a host
request, the fields of R192, which are read as they are written, the taking of a RESTART frame, and the search. -/

namespace Sys2Proof.Machine

/-! ## Seats (R13, R16) -/

/-- A screening after the closing test (R13). -/
def Screening.tested (sc : Screening) : Screening :=
  if sc.state = .closing ∧ sc.counts.held = 0 then { sc with state := .closed } else sc

theorem State.closeTest_screening (s : State) (i j : Fin 16) :
    (s.closeTest i).screening j = if j = i then (s.screening i).map Screening.tested else s.screening j := by
  unfold State.closeTest Screening.tested
  by_cases h : j = i
  · subst h
    cases e : s.screening j with
    | none => simp [e]
    | some sc => by_cases hc : sc.state = .closing ∧ sc.counts.held = 0 <;> simp [hc, e]
  · split
    · split <;> simp [h, State.setScreening_screening_ne]
    · simp [h]

theorem State.putSeat_screening (s : State) (number : Nat) (a : SeatAddr) (new : SeatState) (i j : Fin 16) (sc : Screening)
    (h : s.findScreening number = some (i, sc)) :
    (s.putSeat number a new).screening j = if j = i then some (sc.setSeat a new).tested else s.screening j := by
  unfold State.putSeat
  rw [h]
  simp only [State.closeTest_screening]
  by_cases e : j = i <;> simp [e, State.setScreening_screening_ne]

theorem State.putSeat_none (s : State) (number : Nat) (a : SeatAddr) (new : SeatState) (h : s.findScreening number = none) :
    s.putSeat number a new = s := by
  unfold State.putSeat; rw [h]

/-! ## Whole repricing (R37, R76, R78) -/

theorem State.findScreening_number {s : State} {n : Nat} {i : Fin 16} {sc : Screening}
    (h : s.findScreening n = some (i, sc)) : sc.number = n := by
  obtain ⟨j, -, e⟩ := List.exists_of_findSome?_eq_some h
  split at e
  · split at e
    · next c => cases e; simpa using c
    · cases e
  · cases e

theorem State.lineOutcome_eq_some (s : State) (l : BasketLine) (o : LineOutcome) :
    s.lineOutcome l = some o ↔ s.linePrice o l := by
  cases l with
  | void => simp [State.lineOutcome, State.lineToPrice, State.linePrice]
  | snack => simp [State.lineOutcome, State.lineToPrice, State.linePrice, Fau.priceLine]
  | seat n a k c m g =>
    simp only [State.lineOutcome, State.lineToPrice, State.linePrice, Option.map_map, Option.map_eq_some_iff, Prod.exists]
    refine exists_congr fun i => exists_congr fun sc => and_congr_right fun h => ?_
    obtain rfl := State.findScreening_number h
    exact Iff.rfl

theorem flagsWithLines_flags (f : PriceFlags) (os : List LineOutcome) :
    ((flagsWithLines f os).inexact = true ↔ f.inexact = true ∨ ∃ m n x, .priced m true n x ∈ os) ∧
    ((flagsWithLines f os).noFare = true ↔ f.noFare = true ∨ ∃ m e x, .priced m e true x ∈ os) ∧
    ((flagsWithLines f os).ceiling = true ↔ f.ceiling = true ∨ ∃ m e n, .priced m e n true ∈ os) ∧
    (flagsWithLines f os).floor = f.floor := by
  induction os generalizing f with
  | nil => simp [flagsWithLines]
  | cons o os ih =>
    obtain ⟨h1, h2, h3, h4⟩ := ih (flagsWithLine f o)
    simp only [flagsWithLines, List.foldl_cons] at *
    rw [h1, h2, h3, h4]
    cases o with
    | refused c => simp [flagsWithLine]
    | priced m e n x =>
      have he : (∃ a b c, LineOutcome.priced a true b c = .priced m e n x) ↔ e = true :=
        ⟨by rintro ⟨_, _, _, h⟩; cases h; rfl, by rintro rfl; exact ⟨_, _, _, rfl⟩⟩
      have hn : (∃ a b c, LineOutcome.priced a b true c = .priced m e n x) ↔ n = true :=
        ⟨by rintro ⟨_, _, _, h⟩; cases h; rfl, by rintro rfl; exact ⟨_, _, _, rfl⟩⟩
      have hx : (∃ a b c, LineOutcome.priced a b c true = .priced m e n x) ↔ x = true :=
        ⟨by rintro ⟨_, _, _, h⟩; cases h; rfl, by rintro rfl; exact ⟨_, _, _, rfl⟩⟩
      simp only [List.mem_cons, exists_or, he, hn, hx, flagsWithLine, Bool.or_eq_true, or_assoc, and_self]

theorem State.mem_lineOutcomes (s : State) (ls : List BasketLine) (o : LineOutcome) :
    o ∈ ls.filterMap s.lineOutcome ↔ ∃ l ∈ ls, s.linePrice o l := by
  simp only [List.mem_filterMap, State.lineOutcome_eq_some]

theorem State.pricedWhole_repriced (s : State) (b : Basket) : pricedWhole b s ((s.repricedBasket b).settled s.fau) := by
  refine ⟨(s.repricedBasket b).lines, by simp [State.repricedBasket], ?_, ?_, ?_⟩
  · intro k l h
    refine ⟨?_, ?_, ?_⟩
    · rintro rfl
      simp [State.repricedBasket, h, State.lineOutcome, State.lineToPrice, BasketLine.repriced]
    · intro m e n x hp
      rw [← State.lineOutcome_eq_some] at hp
      simp only [State.repricedBasket, List.getElem?_map, h, Option.map_some, hp]
      cases l <;> rfl
    · intro c hp
      rw [← State.lineOutcome_eq_some] at hp
      simp only [State.repricedBasket, List.getElem?_map, h, Option.map_some, hp]
      cases l <;> rfl
  · intro h
    have e : (s.repricedBasket b).hasLine = false := by
      simp only [Basket.hasLine, List.any_eq_false]
      intro l hl; rw [h l hl]; simp [BasketLine.live]
    rw [Basket.settled, e]; rfl
  · rintro ⟨l, hl, hv⟩
    have e : (s.repricedBasket b).hasLine = true := by
      simp only [Basket.hasLine, List.any_eq_true]
      exact ⟨l, hl, by cases l <;> simp_all [BasketLine.live]⟩
    obtain ⟨h1, h2, h3, h4⟩ := flagsWithLines_flags b.flags (b.lines.filterMap s.lineOutcome)
    simp only [Basket.settled, e, if_true, Basket.withTotals, flagsWithFloor]
    refine ⟨rfl, ?_, ?_, ?_, ?_⟩
    · refine h1.trans (or_congr_right ?_)
      simp only [State.mem_lineOutcomes]
      constructor
      · rintro ⟨x, y, z, l, m, h⟩; exact ⟨l, m, x, y, z, h⟩
      · rintro ⟨l, m, x, y, z, h⟩; exact ⟨x, y, z, l, m, h⟩
    · refine h2.trans (or_congr_right ?_)
      simp only [State.mem_lineOutcomes]
      constructor
      · rintro ⟨x, y, z, l, m, h⟩; exact ⟨l, m, x, y, z, h⟩
      · rintro ⟨l, m, x, y, z, h⟩; exact ⟨x, y, z, l, m, h⟩
    · refine h3.trans (or_congr_right ?_)
      simp only [State.mem_lineOutcomes]
      constructor
      · rintro ⟨x, y, z, l, m, h⟩; exact ⟨l, m, x, y, z, h⟩
      · rintro ⟨l, m, x, y, z, h⟩; exact ⟨x, y, z, l, m, h⟩
    · simp [State.repricedBasket, h4]
/-! ## Host requests (R180, R195) -/

variable {α : Type} (s : State) (h : HostTag) {allowed : PartState → Bool} (every : HostData) (act : α → State → State)

theorem State.serveWith_act (r : α) (ok : allowed s.hlc.partState = true) :
    s.serveWith h allowed (some r) every act = (act r s).done := by
  unfold State.serveWith; rw [if_pos ok]

theorem State.serveWith_wrong (ok : allowed s.hlc.partState = true) :
    s.serveWith h allowed none every act = (s.replyHost h .badValue every).done := by
  unfold State.serveWith; rw [if_pos ok]

theorem State.serveWith_early (body : Body α) (no : allowed s.hlc.partState = false) :
    s.serveWith h allowed body every act = (s.replyHost h (partStateCode s.hlc.partState) every).done := by
  unfold State.serveWith; simp [no]

/-! ## Fields read as they are written (R192) -/

theorem foldl_beBytes (n v acc : Nat) :
    (beBytes n v).foldl (fun acc b => acc * 256 + b.toNat) acc = acc * 256 ^ n + v % 256 ^ n := by
  induction n generalizing acc with
  | zero => simp [beBytes, Nat.mod_one]
  | succ n ih =>
    simp only [beBytes, List.foldl_cons, ih, BitVec.toNat_ofNat, Nat.shiftRight_eq_div_pow]
    have h : v % 256 ^ (n + 1) = v / 256 ^ n % 256 * 256 ^ n + v % 256 ^ n := by
      rw [Nat.pow_succ, Nat.mod_mul, Nat.mul_comm (256 ^ n), Nat.add_comm]
    rw [h, show 2 ^ (8 * n) = 256 ^ n by rw [Nat.pow_mul]]
    ring

theorem beValue_beBytes (n v : Nat) (h : v < 256 ^ n) : beValue (beBytes n v) = v := by
  simp [beValue, foldl_beBytes, Nat.mod_eq_of_lt h]

theorem labelAt_labelBytes (l : Text) (rest : List Byte) (hl : l.length = 1 ∨ l.length = 2)
    (hc : ∀ c ∈ l, isTextChar c = true) : labelAt (labelBytes l ++ rest) = l := by
  have small : ∀ c, isTextChar c = true → c % 256 = c ∧ c ≠ 32 := by
    intro c h; simp [isTextChar] at h; omega
  match l, hl with
  | [a], _ =>
    simp [labelAt, labelBytes, textBytes, (small a (hc a (by simp))).1]
  | [a, b], _ =>
    simp [labelAt, labelBytes, textBytes, (small a (hc a (by simp))).1, small b (hc b (by simp))]

theorem seatKindOfCode_seatKindCode (k : SeatKind) : seatKindOfCode (seatKindCode k) = some k := by cases k <;> rfl

theorem concessionOfCode_concessionCode (c : Concession) : concessionOfCode (concessionCode c) = some c := by cases c <;> rfl

theorem seatAddrAt_seatAddrBytes (a : SeatAddr) (rest : List Byte) (hr : a.row < 256) (hp : a.pos < 256) :
    seatAddrAt (seatAddrBytes a ++ rest) = a := by
  simp [seatAddrAt, seatAddrBytes, beBytes, beValue, Nat.mod_eq_of_lt hr, Nat.mod_eq_of_lt hp]

theorem siteTimeAt_siteTimeBytes (t : SiteTime) (hd : t.day < 65536) (hs : t.second < 16777216) :
    siteTimeAt (siteTimeBytes t) = t := by
  cases t
  simp [siteTimeAt, siteTimeBytes, beBytes, beValue, Nat.shiftRight_eq_div_pow] at *
  omega

/-! ## RESTART (R190) -/

/-- A RESTART leaves the same whether or not its frame has left the buffer. -/
@[simp] theorem State.takeFrame_restart (s : State) (f : HostFrame) (rest : List HostFrame) (h : HostTag) :
    (s.takeFrame f rest).restart h = s.restart h := rfl

/-- The taking of a RESTART frame is the RESTART. -/
theorem State.takeRequest_restart (s : State) (f : HostFrame) (rest : List HostFrame) (hf : s.hlc.frames = f :: rest)
    (hh : s.hlc.handling = none) (hr : s.hlc.replies.length < 4) (hk : f.kind = restartKind) (hb : f.body = []) :
    s.takeRequest = s.restart f.echo := by
  simp [State.takeRequest, State.routeFrame, hf, hh, hr, hk, hb]

/-! ## The search (R54 to R60) -/

theorem leastBy_mem {α : Type} (score : α → Nat) {l : List α} {x : α} (h : leastBy score l = some x) : x ∈ l := by
  induction l generalizing x with
  | nil => cases h
  | cons y l ih =>
    simp only [leastBy] at h
    cases e : leastBy score l with
    | none => simp [e] at h; simp [h]
    | some z =>
      simp only [e] at h
      split at h <;> cases h
      · exact List.mem_cons_of_mem _ (ih e)
      · simp

/-- The seats of a placement are FREE seats of the kind in rows of the layout, and the lone-seat rule allows them (R54, R57). -/
theorem findPlacement_seats {l : Layout} {sc : Screening} {k : SeatKind} {n : Nat} {range : Option (Nat × Nat)} {split : Bool}
    {p : Placement} (h : findPlacement l sc k n range split = some p) :
    (∀ a ∈ p.seats, a.row < l.rowCount ∧ l.seatKind a = some k ∧ sc.stateAt a = some .free) ∧ loneSeatDenial l sc p.seats = none := by
  have rows : ∀ r ∈ searchRows l range, r < l.rowCount := by
    intro r hr; simpa using (List.mem_filter.1 hr).1
  have run : ∀ m row r, r ∈ rowRuns l sc k m row → row < l.rowCount →
      r.row = row ∧ (∀ a ∈ runSeats r.row r.start m, a.row < l.rowCount ∧ l.seatKind a = some k ∧ sc.stateAt a = some .free) ∧
        loneSeatDenial l sc (runSeats r.row r.start m) = none := by
    intro m row r hr hrow
    simp only [rowRuns, List.mem_map, List.mem_filter] at hr
    obtain ⟨st, ⟨-, hc⟩, rfl⟩ := hr
    simp only [isCandidate, Bool.and_eq_true, List.all_eq_true, Option.isNone_iff_eq_none, beq_iff_eq] at hc
    refine ⟨rfl, fun a ha => ?_, hc.2⟩
    have := hc.1 a ha
    refine ⟨?_, this.1, this.2⟩
    simp only [runSeats, List.mem_map] at ha
    obtain ⟨i, -, rfl⟩ := ha
    exact hrow
  have single : ∀ q, singlePlacement l sc k n range = some q → p = q →
      (∀ a ∈ p.seats, a.row < l.rowCount ∧ l.seatKind a = some k ∧ sc.stateAt a = some .free) ∧ loneSeatDenial l sc p.seats = none := by
    rintro q hq rfl
    simp only [singlePlacement, Option.map_eq_some_iff] at hq
    obtain ⟨r, hr, rfl⟩ := hq
    obtain ⟨row, hrow, hm⟩ := List.mem_flatMap.1 (leastBy_mem _ hr)
    exact (run n row r hm (rows row hrow)).2
  unfold findPlacement at h
  cases e : singlePlacement l sc k n range with
  | some q => rw [e] at h; cases h; exact single _ e rfl
  | none =>
    simp only [e] at h
    split at h
    · simp only [splitPlacement, Option.map_eq_some_iff] at h
      obtain ⟨q, hq, rfl⟩ := h
      obtain ⟨row, hrow, hm⟩ := List.mem_flatMap.1 (leastBy_mem _ hq)
      unfold rowPairs at hm
      split at hm
      · rename_i hc
        obtain ⟨u, hu, hm⟩ := List.mem_flatMap.1 hm
        obtain ⟨hm, hl⟩ := List.mem_filter.1 hm
        obtain ⟨w, hw, rfl⟩ := List.mem_map.1 hm
        obtain ⟨-, a1, -⟩ := run _ _ _ hu (rows row hrow)
        obtain ⟨-, b1, -⟩ := run _ _ _ hw (rows _ (by simpa using hc))
        refine ⟨fun a ha => ?_, by simpa using hl⟩
        rcases List.mem_append.1 ha with ha | ha
        · exact a1 a ha
        · exact b1 a ha
      · cases hm
    · cases h

/-- No seat check turns away what the search found (R29, R60). -/
theorem findPlacement_seatDenial {l : Layout} {sc : Screening} {k : SeatKind} {n : Nat} {range : Option (Nat × Nat)} {split : Bool}
    {p : Placement} (b : Basket) (h : findPlacement l sc k n range split = some p) (hk : k ≠ .companion) :
    seatDenial l sc b p.seats = none := by
  obtain ⟨hs, hl⟩ := findPlacement_seats h
  have h1 : firstMissing l p.seats = none := by
    simp only [firstMissing, List.find?_eq_none]
    intro a ha; simp [Layout.seatExists, hs a ha]
  have h2 : firstInState sc (fun st => st != .free) p.seats = none := by
    simp only [firstInState, List.findSome?_eq_none_iff]
    intro a ha; simp [(hs a ha).2.2]
  have h3 : companionDenial l (b.seatAddrs ++ p.seats) p.seats = none := by
    simp only [companionDenial, List.find?_eq_none]
    intro a ha; simp [(hs a ha).2.1, hk]
  simp only [seatDenial, h1, h2, h3, hl]

end Sys2Proof.Machine
end

