-- ==== Sys2Proof/Laws/Closing.lean ====
section
/-! SUPPORT. What the closing of screenings leaves (R9, R12, R13): `State.enterClosing_closed` for one screening, and
`State.closeDue_closed` for those that are due at a site time. -/
namespace Sys2Proof.Machine

/-! ## One slot of a screening number -/

/-- The number is that of the screening in one slot alone. -/
def State.soleSlot (s : State) (n : Nat) (i : Fin 16) : Prop :=
  (∃ y, s.screening i = some y ∧ y.number = n) ∧ ∀ j z, s.screening j = some z → z.number = n → j = i

theorem State.findScreening_slot {s : State} {n : Nat} {i : Fin 16} {x : Screening} (h : s.findScreening n = some (i, x)) :
    s.screening i = some x := by
  obtain ⟨j, -, e⟩ := List.exists_of_findSome?_eq_some h
  split at e
  · split at e
    · cases e; assumption
    · cases e
  · cases e

theorem State.soleSlot.find {s : State} {n : Nat} {i : Fin 16} (h : s.soleSlot n i) :
    ∃ y, s.screening i = some y ∧ y.number = n ∧ s.findScreening n = some (i, y) := by
  obtain ⟨⟨y, hy, hn⟩, hu⟩ := h
  refine ⟨y, hy, hn, ?_⟩
  cases e : s.findScreening n with
  | none =>
    have := List.findSome?_eq_none_iff.1 e i (List.mem_finRange i)
    simp [hy, hn] at this
  | some p =>
    obtain ⟨j, z⟩ := p
    have hz := State.findScreening_slot e
    have := hu j z hz (State.findScreening_number e)
    subst this
    rw [hy] at hz; cases hz; rfl

theorem State.numbersDistinct.sole {s : State} (h : s.numbersDistinct) {i : Fin 16} {x : Screening}
    (hx : s.screening i = some x) : s.soleSlot x.number i :=
  ⟨⟨x, hx, rfl⟩, fun j z hz e => h j i z x hz hx e⟩

/-! ## Seats that become FREE -/

theorem Screening.stateAt_setSeat (sc : Screening) (a b : SeatAddr) (new : SeatState) :
    (sc.setSeat a new).stateAt b = if b = a then (sc.stateAt a).map (fun _ => new) else sc.stateAt b := by
  unfold Screening.setSeat
  cases h : sc.stateAt a with
  | none => split <;> simp_all
  | some old =>
    simp only [Screening.stateAt] at *
    rw [List.find?_map]
    by_cases e : b = a
    · subst e
      simp only [if_true, Option.map_some, Option.map_map]
      have : ((fun r : SeatRecord => r.addr == b) ∘ fun r : SeatRecord => if r.addr == b then { r with state := new } else r) =
          fun r => r.addr == b := by
        funext r; simp only [Function.comp]; split <;> simp_all
      rw [this]
      cases hf : sc.seats.find? (fun r => r.addr == b) with
      | none => simp [hf] at h
      | some r => have := List.find?_some hf; simp_all
    · simp only [e, if_false, Option.map_map]
      have : ((fun r : SeatRecord => r.addr == b) ∘ fun r : SeatRecord => if r.addr == a then { r with state := new } else r) =
          fun r => r.addr == b := by
        funext r; simp only [Function.comp]; split <;> simp_all
      rw [this]
      cases hf : sc.seats.find? (fun r => r.addr == b) with
      | none => rfl
      | some r =>
        have := List.find?_some hf
        simp at this
        simp [this, e]

/-- One screening became another by seats becoming FREE, being in CLOSING, or in CLOSED with no held seat. -/
def freed (S : SeatAddr → Prop) (x y : Screening) : Prop :=
  y = { x with state := y.state, counts := y.counts, seats := y.seats } ∧
  (y.state = .closing ∨ y.state = .closed ∧ y.counts.held = 0) ∧
  ∀ a, (S a → y.stateAt a = (x.stateAt a).map fun _ => .free) ∧ (¬ S a → y.stateAt a = x.stateAt a)

theorem Screening.setSeat_form (sc : Screening) (a : SeatAddr) (new : SeatState) :
    sc.setSeat a new = { sc with counts := (sc.setSeat a new).counts, seats := (sc.setSeat a new).seats } := by
  unfold Screening.setSeat; split <;> rfl

theorem Screening.setSeat_held (sc : Screening) (a : SeatAddr) (h : sc.counts.held = 0) :
    (sc.setSeat a .free).counts.held = 0 := by
  unfold Screening.setSeat; split
  · exact h
  · rename_i old _; cases old <;> simp [SeatCounts.dec, SeatCounts.inc, h]

theorem Screening.tested_stateAt (sc : Screening) (a : SeatAddr) : sc.tested.stateAt a = sc.stateAt a := by
  unfold Screening.tested; split <;> rfl

theorem freed.refl (S : SeatAddr → Prop) (x : Screening) (h : x.state = .closing) (hS : ∀ a, ¬ S a) : freed S x x :=
  ⟨rfl, .inl h, fun a => ⟨fun k => absurd k (hS a), fun _ => rfl⟩⟩

theorem freed.congr {S T : SeatAddr → Prop} {x y : Screening} (h : freed S x y) (e : ∀ a, S a ↔ T a) : freed T x y :=
  ⟨h.1, h.2.1, fun a => by rw [← e]; exact h.2.2 a⟩

theorem freed.step {S : SeatAddr → Prop} {x y : Screening} (h : freed S x y) (b : SeatAddr) :
    freed (fun a => S a ∨ a = b) x (y.setSeat b .free).tested := by
  obtain ⟨hf, hs, ha⟩ := h
  have e := Screening.setSeat_form y b .free
  generalize hz : y.setSeat b .free = z at e
  have est : z.state = y.state := by rw [e]
  refine ⟨?_, ?_, ?_⟩
  · unfold Screening.tested
    split
    · rw [e, hf]
    · rw [e, hf]
  · unfold Screening.tested
    split
    · rename_i hc; exact .inr ⟨rfl, hc.2⟩
    · rename_i hc
      rcases hs with hs | ⟨hs, h0⟩
      · exact .inl (est.trans hs)
      · exact .inr ⟨est.trans hs, by rw [← hz]; exact Screening.setSeat_held y b h0⟩
  · intro a
    rw [Screening.tested_stateAt, ← hz, Screening.stateAt_setSeat]
    by_cases hab : a = b
    · subst hab
      simp only [if_true, or_true, not_true, false_imp_iff, and_true, true_imp_iff]
      by_cases hSa : S a
      · rw [(ha a).1 hSa]; simp [Function.comp_def]
      · rw [(ha a).2 hSa]
    · simp only [hab, if_false, or_false]; exact ha a

/-- The lines of a screening's seats are released. -/
theorem State.releaseLines_freed (n : Nat) (i : Fin 16) (x : Screening) (ls : List BasketLine)
    (hl : ∀ l ∈ ls, l.inScreening n = true) (S : SeatAddr → Prop) (t : State) (hs : t.soleSlot n i)
    (h : ∃ y, t.screening i = some y ∧ freed S x y) :
    (∀ j, j ≠ i → (t.releaseLines ls).screening j = t.screening j) ∧
    (∃ y, (t.releaseLines ls).screening i = some y ∧
      freed (fun a => S a ∨ ls.any (BasketLine.names n a) = true) x y) ∧ (t.releaseLines ls).soleSlot n i := by
  induction ls generalizing S t with
  | nil =>
    obtain ⟨y, hy, hf⟩ := h
    exact ⟨fun _ _ => rfl, ⟨y, hy, hf.congr (by simp)⟩, hs⟩
  | cons l ls ih =>
    obtain ⟨y, hy, hf⟩ := h
    obtain ⟨y', hy', hn, hfind⟩ := hs.find
    rw [hy] at hy'; cases hy'
    match l, hl l (by simp) with
    | .seat m b k c u g, hm =>
      simp only [BasketLine.inScreening, beq_iff_eq] at hm
      subst hm
      have hput := fun j => t.putSeat_screening m b .free i j y hfind
      have hi : (t.putSeat m b .free).screening i = some (y.setSeat b .free).tested := by simpa using hput i
      have hstep := hf.step b
      have hs' : (t.putSeat m b .free).soleSlot m i := by
        refine ⟨⟨_, hi, ?_⟩, fun j z hz hzn => ?_⟩
        · rw [hstep.1]; exact (by rw [hf.1] at hn; exact hn)
        · by_cases hj : j = i
          · exact hj
          · rw [hput j, if_neg hj] at hz; exact hs.2 j z hz hzn
      obtain ⟨h1, ⟨z, hz, hz'⟩, h3⟩ := ih (fun l' h' => hl l' (by simp [h'])) _ _ hs' ⟨_, hi, hstep⟩
      refine ⟨fun j hj => ?_, ⟨z, hz, hz'.congr fun a => ?_⟩, h3⟩
      · exact (h1 j hj).trans (by rw [hput j, if_neg hj])
      · simp only [List.any_cons, BasketLine.names, beq_self_eq_true, Bool.true_and, Bool.or_eq_true, beq_iff_eq]
        constructor
        · rintro ((h | h) | h)
          · exact .inl h
          · exact .inr (.inl h.symm)
          · exact .inr (.inr h)
        · rintro (h | h | h)
          · exact .inl (.inl h)
          · exact .inl (.inr h.symm)
          · exact .inr h

/-! ## One drop -/

theorem slotIndex_ne {i j : SlotId} (h : j ≠ i) : slotIndex j ≠ slotIndex i := by
  cases i <;> cases j <;> first | exact absurd rfl h | decide

theorem BasketLine.names_inScreening {n : Nat} {a : SeatAddr} {l : BasketLine} (h : l.names n a = true) :
    l.inScreening n = true := by
  cases l <;> simp [BasketLine.names] at h
  simp [BasketLine.inScreening, h.1]

theorem State.setBasket_self (s : State) (d : Drop) (b : Basket) (h : s.basket d = b) : s.setBasket d b = s := by
  subst h; unfold State.setBasket State.basket vput vget; simp

/-- Baskets and layouts are the same in two states. -/
def sameBaskets (s t : State) : Prop := (∀ d, t.basket d = s.basket d) ∧ ∀ j, t.layout j = s.layout j

theorem State.putSeat_sameBaskets (s : State) (n : Nat) (a : SeatAddr) (new : SeatState) : sameBaskets s (s.putSeat n a new) := by
  unfold State.putSeat State.closeTest
  split
  · split
    · split <;> exact ⟨fun _ => rfl, fun _ => rfl⟩
    · exact ⟨fun _ => rfl, fun _ => rfl⟩
  · exact ⟨fun _ => rfl, fun _ => rfl⟩

theorem State.releaseLines_sameBaskets (ls : List BasketLine) (s : State) : sameBaskets s (s.releaseLines ls) := by
  induction ls generalizing s with
  | nil => exact ⟨fun _ => rfl, fun _ => rfl⟩
  | cons l ls ih =>
    have h : sameBaskets s (s.releaseLine l) := by
      cases l
      · exact s.putSeat_sameBaskets _ _ _
      · exact ⟨fun _ => rfl, fun _ => rfl⟩
      · exact ⟨fun _ => rfl, fun _ => rfl⟩
    have k := ih (s.releaseLine l)
    exact ⟨fun d => (k.1 d).trans (h.1 d), fun j => (k.2 j).trans (h.2 j)⟩

/-- Releasing lines that name no seat changes nothing. -/
theorem State.releaseLines_noSeat (ls : List BasketLine) (s : State) (h : ∀ l ∈ ls, l.isSeat = false) : s.releaseLines ls = s := by
  induction ls generalizing s with
  | nil => rfl
  | cons l ls ih =>
    have e : s.releaseLine l = s := by
      have := h l (by simp)
      cases l <;> simp_all [State.releaseLine, BasketLine.isSeat]
    change (s.releaseLine l).releaseLines ls = s
    rw [e]; exact ih s fun x hx => h x (by simp [hx])

theorem pricedWhole_congr {b : Basket} {s t : State} {c : Basket} (hf : t.fau = s.fau) (hl : ∀ l ∈ b.lines, l.isSeat = false)
    (h : pricedWhole b t c) : pricedWhole b s c := by
  have key : ∀ l ∈ b.lines, ∀ o, t.linePrice o l ↔ s.linePrice o l := by
    intro l m o
    have := hl l m
    cases l with
    | seat => simp [BasketLine.isSeat] at this
    | snack => simp only [State.linePrice, hf]
    | void => simp only [State.linePrice]
  obtain ⟨ls, h1, h2, h3, h4⟩ := h
  rw [hf] at h3 h4
  refine ⟨ls, h1, ?_, h3, ?_⟩
  · intro k l hk
    have m := List.mem_of_getElem? hk
    obtain ⟨a1, a2, a3⟩ := h2 k l hk
    rw [hf] at a2
    exact ⟨a1, fun m' e n x q => a2 m' e n x ((key l m _).2 q), fun c q => a3 c ((key l m _).2 q)⟩
  · intro hx
    obtain ⟨g1, g2, g3, g4, g5⟩ := h4 hx
    refine ⟨g1, g2.trans (or_congr_right ?_), g3.trans (or_congr_right ?_), g4.trans (or_congr_right ?_), g5⟩
    · refine exists_congr fun l => and_congr_right fun m => ?_
      simp only [key l m]
    · refine exists_congr fun l => and_congr_right fun m => ?_
      simp only [key l m]
    · refine exists_congr fun l => and_congr_right fun m => ?_
      simp only [key l m]

/-- What the closing of screening `n` leaves of one basket and its drop's slots. -/
def closedFor (n : Nat) (s : State) (d : Drop) (u : State) : Prop :=
  let hit := (s.basket d).state = .opened ∧ (s.basket d).lines.any (BasketLine.inScreening n) = true
  (¬ hit → u.basket d = s.basket d ∧ u.dropRec d = s.dropRec d) ∧
    (hit → pushed d .screeningClosed u ∧
      u.dropRec d = { s.dropRec d with slots := (u.dropRec d).slots } ∧ (∀ j, j ≠ .pushBasket → u.slot d j = s.slot d j) ∧
      ∃ c : Basket, linesNow ((s.basket d).lines.map fun l => if l.isSeat then .void else l) s.fau (s.basket d) c ∧
        (c.state = .opened → c.generation ≠ s.fau.generation → pricedWhole c s (u.basket d)) ∧
        (c.state ≠ .opened ∨ c.generation = s.fau.generation → u.basket d = c))

theorem Basket.settled_linesNow (b : Basket) (f : Fau) (ls : List BasketLine) :
    linesNow ls f b (Basket.settled { b with lines := ls } f) := by
  constructor
  · intro h
    have e : ({ b with lines := ls } : Basket).hasLine = false := by
      simp only [Basket.hasLine, List.any_eq_false]
      intro l hl; rw [h l hl]; simp [BasketLine.live]
    rw [Basket.settled, e]; rfl
  · rintro ⟨l, hl, hv⟩
    have e : ({ b with lines := ls } : Basket).hasLine = true := by
      simp only [Basket.hasLine, List.any_eq_true]
      exact ⟨l, hl, by cases l <;> simp_all [BasketLine.live]⟩
    simp only [Basket.settled, e, if_true, Basket.withTotals, flagsWithFloor]

/-- A basket whose SEAT lines are tagged VOID has none left. -/
theorem linesNow_noSeat {ls : List BasketLine} {f : Fau} {b c : Basket}
    (h : linesNow (ls.map fun l => if l.isSeat then .void else l) f b c) : ∀ l ∈ c.lines, l.isSeat = false := by
  intro l m
  by_cases hall : ∀ y ∈ (ls.map fun l => if l.isSeat then BasketLine.void else l), y = .void
  · rw [h.1 hall] at m; simp [Basket.cleared, Basket.reset] at m
  · push Not at hall
    rw [h.2 hall] at m
    simp only [List.mem_map] at m
    obtain ⟨z, -, rfl⟩ := m
    split
    · rfl
    · rename_i q; simpa using q

theorem State.closeForBasket_closed (n : Nat) (i : Fin 16) (x : Screening) (S : SeatAddr → Prop) (t : State) (d : Drop)
    (hs : t.soleSlot n i) (h : ∃ y, t.screening i = some y ∧ freed S x y)
    (law : ∀ l ∈ (t.basket d).lines, l.isSeat = true → l.screening = (t.basket d).bound) :
    let u := State.closeForBasket n t d
    closedFor n t d u ∧ u.fau = t.fau ∧ (∀ e, e ≠ d → u.basket e = t.basket e ∧ u.dropRec e = t.dropRec e) ∧
    (∀ j, u.layout j = t.layout j) ∧ (∀ j, j ≠ i → u.screening j = t.screening j) ∧ u.soleSlot n i ∧
    ∃ y, u.screening i = some y ∧ freed (fun a => S a ∨ ((t.basket d).state = .opened ∧
      (t.basket d).lines.any (BasketLine.names n a) = true)) x y := by
  intro u
  by_cases hit : (t.basket d).state = .opened ∧ (t.basket d).lines.any (BasketLine.inScreening n) = true
  · have hall : ∀ l ∈ (t.basket d).lines, l.isSeat = true → l.inScreening n = true := by
      intro l m hseat
      obtain ⟨l', m', hin⟩ := List.any_eq_true.1 hit.2
      have e' := law l' m' (by cases l' <;> simp_all [BasketLine.inScreening, BasketLine.isSeat])
      have e := law l m hseat
      rw [← e'] at e
      cases l' <;> simp [BasketLine.inScreening] at hin
      cases l <;> simp [BasketLine.isSeat] at hseat
      simp only [BasketLine.screening, Option.some.injEq] at e
      simp [BasketLine.inScreening, e, hin]
    have hvoid : voidLinesOf n (t.basket d).lines = (t.basket d).lines.map fun l => if l.isSeat then .void else l := by
      unfold voidLinesOf
      refine List.map_congr_left fun l m => ?_
      by_cases hl : l.isSeat = true
      · rw [if_pos (hall l m hl), if_pos hl]
      · have : l.inScreening n = false := by cases l <;> simp_all [BasketLine.inScreening, BasketLine.isSeat]
        rw [this, if_neg hl]; rfl
    set t1 := t.releaseLines ((t.basket d).lines.filter (BasketLine.inScreening n)) with ht1
    have k1 := State.releaseLines_kept (L := [.sbu, .hlc]) (s := t)
      ((t.basket d).lines.filter (BasketLine.inScreening n)) (by simp) (by simp)
    rw [← ht1] at k1
    have f1 : t1.fau = t.fau := k1 .fau (by decide)
    have g1 : t1.klc = t.klc := k1 .klc (by decide)
    have b1 := State.releaseLines_sameBaskets ((t.basket d).lines.filter (BasketLine.inScreening n)) t
    rw [← ht1] at b1
    obtain ⟨r1, r2, r3⟩ := State.releaseLines_freed n i x ((t.basket d).lines.filter (BasketLine.inScreening n))
      (by intro l hl; exact (List.mem_filter.1 hl).2) S t hs h
    rw [← ht1] at r1 r2 r3
    set c := Basket.settled { t.basket d with lines := voidLinesOf n (t.basket d).lines } t.fau with hc
    set t2 := t1.setBasket d c with ht2
    have hu : u = t2.pushBasket d .screeningClosed := by
      show State.closeForBasket n t d = _
      unfold State.closeForBasket
      rw [if_pos hit]
    have hln : linesNow ((t.basket d).lines.map fun l => if l.isSeat then .void else l) t.fau (t.basket d) c := by
      rw [← hvoid, hc]; exact Basket.settled_linesNow _ _ _
    have hcl := linesNow_noSeat hln
    have hgone : t2.releaseLines (c.lines.filter fun l => refusedOutcome (t2.lineOutcome l)) = t2 :=
      State.releaseLines_noSeat _ _ fun l m => hcl l (List.mem_of_mem_filter m)
    have hb2 : t2.basket d = c := by simp [ht2]
    -- the state before the push is placed
    set v := t2.repriceForPush d with hv
    have hvform : v = t2.setBasket d (v.basket d) ∧
        (c.state = .opened → c.generation ≠ t.fau.generation → pricedWhole c t (v.basket d)) ∧
        (c.state ≠ .opened ∨ c.generation = t.fau.generation → v.basket d = c) := by
      by_cases hst : c.state = .opened ∧ c.generation ≠ t.fau.generation
      · have hv2 : v = t2.reprice d := by
          rw [hv]; unfold State.repriceForPush
          rw [if_pos]; rw [hb2]; exact ⟨hst.1, by rw [ht2]; simpa [f1] using hst.2⟩
        have hre : t2.reprice d = t2.setBasket d ((t2.repricedBasket c).settled t2.fau) := by
          unfold State.reprice
          simp only [hb2, hgone]
        rw [hv2, hre]
        refine ⟨by simp, fun _ _ => ?_, fun h => ?_⟩
        · simp only [State.setBasket_basket_same]
          exact pricedWhole_congr (by rw [ht2]; simp [f1]) hcl (t2.pricedWhole_repriced c)
        · rcases h with h | h
          · exact absurd hst.1 h
          · exact absurd h hst.2
      · have hv2 : v = t2 := by
          rw [hv]; unfold State.repriceForPush
          rw [if_neg]; rw [hb2]; intro q; exact hst ⟨q.1, by have := q.2; rw [ht2] at this; simpa [f1] using this⟩
        rw [hv2, hb2]
        refine ⟨(State.setBasket_self t2 d c hb2).symm, fun h1 h2 => absurd ⟨h1, h2⟩ hst, fun _ => rfl⟩
    obtain ⟨hv1, hv2, hv3⟩ := hvform
    have hu' : u = v.place d .pushBasket (.basketPush
        { reason := .screeningClosed, basket := basketRecord (v.basket d) v.fau.generation }) := hu
    have vfau : v.fau = t.fau := by rw [hv1, ht2]; simp [f1]
    have vdrop : ∀ e, v.dropRec e = t.dropRec e := by
      intro e; rw [hv1]; show t1.dropRec e = _; unfold State.dropRec; rw [g1]
    refine ⟨⟨fun q => absurd hit q, fun _ => ⟨?_, ?_, ?_, c, hln, ?_, ?_⟩⟩, ?_, ?_, ?_, ?_, ?_, ?_⟩
    · unfold pushed State.waits; rw [hu']; simp
    · rw [hu', State.place_dropRec, if_pos rfl, vdrop]; rfl
    · intro j hj
      rw [hu']; unfold State.slot
      rw [State.place_dropRec, if_pos rfl, vdrop]
      unfold DropRecord.setSlot
      rw [vget_vput_ne]
      exact slotIndex_ne hj
    · rw [hu']; simpa using hv2
    · rw [hu']; simpa using hv3
    · rw [hu']; simpa using vfau
    · intro e he
      rw [hu']
      refine ⟨?_, by rw [State.place_dropRec, if_neg he, vdrop]⟩
      rw [State.place_basket, hv1, State.setBasket_basket_ne _ _ _ he, ht2, State.setBasket_basket_ne _ _ _ he, b1.1 e]
    · intro j; rw [hu', State.place_layout, hv1, ht2]; simpa using b1.2 j
    · intro j hj; rw [hu', State.place_screening, hv1, ht2]; simpa using r1 j hj
    · have e : ∀ j, u.screening j = t1.screening j := by
        intro j; rw [hu', State.place_screening, hv1]; rfl
      unfold State.soleSlot at *; simpa [e] using r3
    · have e : u.screening i = t1.screening i := by rw [hu', State.place_screening, hv1]; rfl
      rw [e]
      obtain ⟨y, hy, hf⟩ := r2
      refine ⟨y, hy, hf.congr fun a => or_congr_right ?_⟩
      rw [List.any_filter]
      simp only [hit.1, true_and, List.any_eq_true, Bool.and_eq_true]
      refine exists_congr fun l => and_congr_right fun m => ⟨fun q => q.2, fun q => ⟨BasketLine.names_inScreening q, q⟩⟩
  · have hu : u = t := by
      show State.closeForBasket n t d = t
      unfold State.closeForBasket; rw [if_neg hit]
    rw [hu]
    refine ⟨⟨fun _ => ⟨rfl, rfl⟩, fun q => absurd q hit⟩, rfl, fun _ _ => ⟨rfl, rfl⟩, fun _ => rfl, fun _ _ => rfl, hs, ?_⟩
    obtain ⟨y, hy, hf⟩ := h
    refine ⟨y, hy, hf.congr fun a => ⟨.inl, ?_⟩⟩
    rintro (q | ⟨q1, q2⟩)
    · exact q
    · refine absurd ⟨q1, ?_⟩ hit
      obtain ⟨l, m, e⟩ := List.any_eq_true.1 q2
      exact List.any_eq_true.2 ⟨l, m, BasketLine.names_inScreening e⟩

/-! ## All drops -/

theorem closedFor.congr {n : Nat} {s t : State} {d : Drop} {u v : State} (hb : t.basket d = s.basket d)
    (hd : t.dropRec d = s.dropRec d) (hf : t.fau = s.fau) (kb : v.basket d = u.basket d) (kd : v.dropRec d = u.dropRec d)
    (kf : v.fau = u.fau) (h : closedFor n t d u) : closedFor n s d v := by
  have ks : ∀ j, v.slot d j = u.slot d j := fun j => by unfold State.slot; rw [kd]
  have hs : ∀ j, t.slot d j = s.slot d j := fun j => by unfold State.slot; rw [hd]
  unfold closedFor pushed State.waits at *
  simp only [hb, hd, hf, hs] at h
  simp only [kb, kd, kf, ks]
  refine ⟨h.1, fun q => ?_⟩
  obtain ⟨h1, h2, h3, c, h4, h5, h6⟩ := h.2 q
  exact ⟨h1, h2, h3, c, h4, fun a b => pricedWhole_congr hf (linesNow_noSeat h4) (h5 a b), h6⟩

/-- What the closing of screening `n` leaves after some drops. -/
theorem State.closeForBaskets_closed (n : Nat) (i : Fin 16) (x : Screening) (ds : List Drop) (nd : ds.Nodup)
    (S : SeatAddr → Prop) (t : State) (hs : t.soleSlot n i) (h : ∃ y, t.screening i = some y ∧ freed S x y)
    (law : ∀ d ∈ ds, ∀ l ∈ (t.basket d).lines, l.isSeat = true → l.screening = (t.basket d).bound) :
    let u := ds.foldl (State.closeForBasket n) t
    (∀ d ∈ ds, closedFor n t d u) ∧ u.fau = t.fau ∧
    (∀ e, e ∉ ds → u.basket e = t.basket e ∧ u.dropRec e = t.dropRec e) ∧
    (∀ j, u.layout j = t.layout j) ∧ (∀ j, j ≠ i → u.screening j = t.screening j) ∧ u.soleSlot n i ∧
    ∃ y, u.screening i = some y ∧ freed (fun a => S a ∨ ∃ d ∈ ds, (t.basket d).state = .opened ∧
      (t.basket d).lines.any (BasketLine.names n a) = true) x y := by
  induction ds generalizing S t with
  | nil =>
    obtain ⟨y, hy, hf⟩ := h
    exact ⟨by simp, rfl, fun _ _ => ⟨rfl, rfl⟩, fun _ => rfl, fun _ _ => rfl, hs, y, hy, hf.congr (by simp)⟩
  | cons d ds ih =>
    have nd' := List.nodup_cons.1 nd
    obtain ⟨a1, a2, a3, a4, a5, a6, a7⟩ := State.closeForBasket_closed n i x S t d hs h (law d (by simp))
    have blaw : ∀ e ∈ ds, ∀ l ∈ ((State.closeForBasket n t d).basket e).lines, l.isSeat = true →
        l.screening = ((State.closeForBasket n t d).basket e).bound := by
      intro e me
      rw [(a3 e fun q => nd'.1 (q ▸ me)).1]
      exact law e (by simp [me])
    obtain ⟨b1, b2, b3, b4, b5, b6, y, hy, hf⟩ := ih nd'.2 _ (State.closeForBasket n t d) a6 a7 blaw
    refine ⟨?_, b2.trans a2, ?_, fun j => (b4 j).trans (a4 j), fun j hj => (b5 j hj).trans (a5 j hj), b6, y, hy, hf.congr fun a => ?_⟩
    · intro e m
      rcases List.mem_cons.1 m with rfl | m
      · exact a1.congr rfl rfl rfl (b3 e nd'.1).1 (b3 e nd'.1).2 b2
      · have he : e ≠ d := fun q => nd'.1 (q ▸ m)
        exact (b1 e m).congr (a3 e he).1 (a3 e he).2 a2 rfl rfl rfl
    · intro e m
      simp only [List.mem_cons, not_or] at m
      exact ⟨(b3 e m.2).1.trans (a3 e m.1).1, (b3 e m.2).2.trans (a3 e m.1).2⟩
    · simp only [List.mem_cons, exists_eq_or_imp, or_assoc]
      refine or_congr_right (or_congr_right (exists_congr fun e => and_congr_right fun m => ?_))
      have he : e ≠ d := fun q => nd'.1 (q ▸ m)
      rw [(a3 e he).1]

/-- Every SEAT line names the bound screening of its basket (R23, R25). -/
def State.seatsBound (s : State) : Prop := ∀ d, ∀ l ∈ (s.basket d).lines, l.isSeat = true → l.screening = (s.basket d).bound

theorem State.basketLaw.seatsBound {s : State} (h : s.basketLaw) : s.seatsBound := fun d => (h d).2.2.2.2.2.1

/-- What the closing of one screening leaves (R12, R13, R37). -/
theorem State.enterClosing_closed (s : State) (i : Fin 16) (sc : Screening) (hx : s.screening i = some sc)
    (nd : s.numbersDistinct) (law : s.seatsBound) :
    screeningsClosed (· = i) s (s.enterClosing i sc) := by
  set x : Screening := { sc with state := .closing } with hxd
  set t := (s.setScreening i (some x)).raise .screening with ht
  have sx : t.screening i = some x := by simp [ht]
  have so : ∀ j, j ≠ i → t.screening j = s.screening j := fun j hj => State.setScreening_screening_ne _ i _ hj
  have sb : ∀ d, t.basket d = s.basket d := fun d => rfl
  have sole : t.soleSlot sc.number i := by
    refine ⟨⟨x, sx, rfl⟩, fun j z hz e => ?_⟩
    by_cases hj : j = i
    · exact hj
    · rw [so j hj] at hz; exact nd j i z sc hz hx e
  obtain ⟨a1, a2, a3, a4, a5, a6, y, hy, hf⟩ := State.closeForBaskets_closed sc.number i x (List.finRange 16) (List.nodup_finRange 16)
    (fun _ => False) t sole ⟨x, sx, freed.refl _ x rfl (by simp)⟩ (fun d _ => by rw [sb]; exact law d)
  have hu : s.enterClosing i sc = ((List.finRange 16).foldl (State.closeForBasket sc.number) t).closeTest i := rfl
  rw [hu]
  generalize hw : (List.finRange 16).foldl (State.closeForBasket sc.number) t = w at *
  have cs := w.closeTest_screening i
  have cb : ∀ d, (w.closeTest i).basket d = w.basket d ∧ (w.closeTest i).dropRec d = w.dropRec d := by
    intro d; unfold State.closeTest; split
    · split <;> exact ⟨rfl, rfl⟩
    · exact ⟨rfl, rfl⟩
  have cf : (w.closeTest i).fau = w.fau := by
    unfold State.closeTest; split
    · split <;> rfl
    · rfl
  have cl : ∀ j, (w.closeTest i).layout j = w.layout j := by
    intro j; unfold State.closeTest; split
    · split <;> rfl
    · rfl
  refine ⟨fun j hj => ?_, fun j z hz hj => ?_, fun j z hz hj => ?_, fun j => (cl j).trans (a4 j), fun d => ?_⟩
  · have hji : j ≠ i := fun q => by rw [q, hx] at hj; cases hj
    rw [cs, if_neg hji, a5 j hji, so j hji, hj]
  · rw [cs, if_neg hj, a5 j hj, so j hj, hz]
  · subst hj
    rw [hx] at hz; cases hz
    rw [cs, if_pos rfl, hy]
    refine ⟨_, rfl, ?_, fun a => ?_⟩
    · obtain ⟨f1, f2, -⟩ := hf
      unfold Screening.tested
      rcases f2 with f2 | ⟨f2, f3⟩
      · by_cases h0 : y.counts.held = 0
        · rw [if_pos ⟨f2, h0⟩, if_pos h0, f1]
        · rw [if_neg fun q => h0 q.2, if_neg h0, ← f2, f1]
      · rw [if_neg (by rw [f2]; simp), if_pos f3, ← f2, f1]
    · rw [Screening.tested_stateAt]
      obtain ⟨g1, g2⟩ := hf.2.2 a
      simp only [false_or, List.mem_finRange, true_and, sb] at g1 g2
      refine ⟨g1, fun q => g2 ?_⟩
      rintro ⟨d, d1, d2⟩
      rw [q d d1] at d2; cases d2
  · have k := (a1 d (List.mem_finRange d)).congr (s := s) (t := t) rfl rfl rfl (cb d).1 (cb d).2 cf
    have e : ((s.basket d).state = .opened ∧ ∃ j z, j = i ∧ s.screening j = some z ∧
        (s.basket d).lines.any (BasketLine.inScreening z.number) = true) ↔
        ((s.basket d).state = .opened ∧ (s.basket d).lines.any (BasketLine.inScreening sc.number) = true) := by
      refine and_congr_right fun _ => ⟨?_, fun q => ⟨i, sc, rfl, hx, q⟩⟩
      rintro ⟨j, z, rfl, hz, q⟩
      rw [hx] at hz; cases hz; exact q
    exact ⟨fun q => k.1 fun r => q (e.2 r), fun q => k.2 (e.1 q)⟩

/-! ## One closing after another -/

/-- Whole pricing makes no SEAT line. -/
theorem pricedWhole_noSeat {b : Basket} {s : State} {c : Basket} (h : pricedWhole b s c) (hb : ∀ l ∈ b.lines, l.isSeat = false) :
    ∀ l ∈ c.lines, l.isSeat = false := by
  obtain ⟨ls, h1, h2, h3, h4⟩ := h
  intro l m
  by_cases hv : ∀ y ∈ ls, y = .void
  · rw [h3 hv] at m; simp [Basket.cleared, Basket.reset] at m
  · push Not at hv
    rw [(h4 hv).1] at m
    obtain ⟨k, hk, rfl⟩ := List.getElem_of_mem m
    have hk' : k < b.lines.length := h1 ▸ hk
    have g := h2 k _ (List.getElem?_eq_getElem hk')
    have hn := hb _ (List.getElem_mem hk')
    generalize b.lines[k] = z at g hn
    have eq : ∀ w, ls[k]? = some w → w.isSeat = false → ls[k].isSeat = false := by
      intro w e; rw [List.getElem?_eq_getElem hk] at e; cases e; exact id
    cases z with
    | seat => simp [BasketLine.isSeat] at hn
    | void => exact eq _ (g.1 rfl) rfl
    | snack item a n =>
      cases ho : s.fau.priceSnack item with
      | priced m' e n' x => exact eq _ (g.2.1 m' e n' x ho) rfl
      | refused code => exact eq _ (g.2.2 code ho) rfl

/-- A basket that a closing hits has no SEAT line left. -/
theorem screeningsClosed.basket {P : Fin 16 → Prop} {s u : State} (h : screeningsClosed P s u) (d : Drop) :
    u.basket d = s.basket d ∧ u.dropRec d = s.dropRec d ∨ ∀ l ∈ (u.basket d).lines, l.isSeat = false := by
  have k := h.2.2.2.2 d
  by_cases hit : (s.basket d).state = .opened ∧
      ∃ i sc, P i ∧ s.screening i = some sc ∧ (s.basket d).lines.any (BasketLine.inScreening sc.number) = true
  · obtain ⟨-, -, -, c, c1, c2, c3⟩ := k.2 hit
    by_cases q : c.state = .opened ∧ c.generation ≠ s.fau.generation
    · exact .inr (pricedWhole_noSeat (c2 q.1 q.2) (linesNow_noSeat c1))
    · rw [c3 (by by_cases q1 : c.state = .opened; exact .inr (by_contra fun w => q ⟨q1, w⟩); exact .inl q1)]
      exact .inr (linesNow_noSeat c1)
  · exact .inl (k.1 hit)

theorem screeningsClosed.seatsBound {P : Fin 16 → Prop} {s u : State} (h : screeningsClosed P s u) (b : s.seatsBound) :
    u.seatsBound := by
  intro d l m hl
  rcases h.basket d with ⟨e, -⟩ | e
  · rw [e] at m ⊢; exact b d l m hl
  · rw [e l m] at hl; cases hl

/-- The screening in a slot, a closing before or after. -/
theorem screeningsClosed.number {P : Fin 16 → Prop} {s u : State} (h : screeningsClosed P s u) (i : Fin 16) :
    (u.screening i).map (·.number) = (s.screening i).map (·.number) := by
  cases e : s.screening i with
  | none => rw [h.1 i e]
  | some sc =>
    by_cases q : P i
    · obtain ⟨y, hy, hf, -⟩ := h.2.2.1 i sc e q
      rw [hy, hf]
      rfl
    · rw [h.2.1 i sc e q]

theorem screeningsClosed.distinct {P : Fin 16 → Prop} {s u : State} (h : screeningsClosed P s u) (b : s.numbersDistinct) :
    u.numbersDistinct := by
  intro i j x y hx hy e
  have h1 := h.number i; have h2 := h.number j
  rw [hx] at h1; rw [hy] at h2
  cases g1 : s.screening i with
  | none => simp [g1] at h1
  | some z1 =>
    cases g2 : s.screening j with
    | none => simp [g2] at h2
    | some z2 =>
      simp [g1] at h1; simp [g2] at h2
      exact b i j z1 z2 g1 g2 (by rw [← h1, ← h2, e])

theorem BasketLine.any_inScreening_seat {ls : List BasketLine} {n : Nat} (h : ls.any (BasketLine.inScreening n) = true) :
    ∃ l ∈ ls, l.isSeat = true := by
  obtain ⟨l, m, q⟩ := List.any_eq_true.1 h
  exact ⟨l, m, by cases l <;> simp_all [BasketLine.inScreening, BasketLine.isSeat]⟩

/-- Two closings, one after the other, are one closing of both. -/
theorem screeningsClosed.trans {P : Fin 16 → Prop} {i : Fin 16} {s t u : State} (h : screeningsClosed P s t)
    (k : screeningsClosed (· = i) t u) (hf : t.fau = s.fau) (kf : u.fau = t.fau) (hi : ¬ P i)
    (nd : s.numbersDistinct) (law : s.seatsBound) :
    screeningsClosed (fun j => P j ∨ j = i) s u := by
  have onlyOne : ∀ d n m, (s.basket d).lines.any (BasketLine.inScreening n) = true →
      (s.basket d).lines.any (BasketLine.inScreening m) = true → n = m := by
    intro d n m h1 h2
    obtain ⟨l1, m1, q1⟩ := List.any_eq_true.1 h1
    obtain ⟨l2, m2, q2⟩ := List.any_eq_true.1 h2
    cases l1 <;> simp [BasketLine.inScreening] at q1
    cases l2 <;> simp [BasketLine.inScreening] at q2
    have := (law d _ m1 rfl).trans (law d _ m2 rfl).symm
    simp [BasketLine.screening] at this
    omega
  refine ⟨fun j e => k.1 j (h.1 j e), fun j sc e q => ?_, fun j sc e q => ?_, fun j => (k.2.2.2.1 j).trans (h.2.2.2.1 j), fun d => ?_⟩
  · rw [not_or] at q
    exact k.2.1 j sc (h.2.1 j sc e q.1) q.2
  · by_cases hj : j = i
    · subst hj
      have ej := h.2.1 j sc e hi
      obtain ⟨y, hy, hyf, hs⟩ := k.2.2.1 j sc ej rfl
      refine ⟨y, hy, hyf, fun a => ?_⟩
      have same : ∀ d, (s.basket d).lines.any (BasketLine.names sc.number a) = true → (s.basket d).state = .opened →
          t.basket d = s.basket d := by
        intro d hn ho
        refine ((h.2.2.2.2 d).1 ?_).1
        rintro ⟨-, j', sc', hp, he, hin⟩
        have hin' : (s.basket d).lines.any (BasketLine.inScreening sc.number) = true := by
          obtain ⟨l, m, q⟩ := List.any_eq_true.1 hn
          exact List.any_eq_true.2 ⟨l, m, BasketLine.names_inScreening q⟩
        have := nd j' j sc' sc he e (onlyOne d _ _ hin hin')
        exact hi (this ▸ hp)
      constructor
      · rintro ⟨d, d1, d2⟩
        exact (hs a).1 ⟨d, by rw [same d d2 d1]; exact ⟨d1, d2⟩⟩
      · intro q
        refine (hs a).2 fun d hd => ?_
        rcases h.basket d with ⟨eb, -⟩ | eb
        · rw [eb] at hd ⊢; exact q d hd
        · rw [List.any_eq_false]
          intro l m w
          have g := eb l m
          clear * - g w
          cases l <;> simp [BasketLine.names, BasketLine.isSeat] at g w
    · have hp := q.resolve_right hj
      obtain ⟨y, hy, r⟩ := h.2.2.1 j sc e hp
      exact ⟨y, k.2.1 j y hy hj, r⟩
  · intro hit
    obtain ⟨kn, kh⟩ := k.2.2.2.2 d
    obtain ⟨hn, hh⟩ := h.2.2.2.2 d
    by_cases h1 : (s.basket d).state = .opened ∧ ∃ j sc, P j ∧ s.screening j = some sc ∧
        (s.basket d).lines.any (BasketLine.inScreening sc.number) = true
    · obtain ⟨p1, p2, p3, c, p4, p5, p6⟩ := hh h1
      have ns : ∀ l ∈ (t.basket d).lines, l.isSeat = false := by
        by_cases q : c.state = .opened ∧ c.generation ≠ s.fau.generation
        · exact pricedWhole_noSeat (p5 q.1 q.2) (linesNow_noSeat p4)
        · rw [p6 (by by_cases q1 : c.state = .opened; exact .inr (by_contra fun w => q ⟨q1, w⟩); exact .inl q1)]
          exact linesNow_noSeat p4
      obtain ⟨e1, e2⟩ := kn (by
        rintro ⟨-, j, z, -, -, w⟩
        obtain ⟨l, m, q⟩ := BasketLine.any_inScreening_seat w
        rw [ns l m] at q; cases q)
      have es : ∀ j, u.slot d j = t.slot d j := fun j => by unfold State.slot; rw [e2]
      have hhit : hit := by
        obtain ⟨j, z, a, b⟩ := h1.2
        exact ⟨h1.1, j, z, .inl a, b⟩
      refine ⟨fun q => absurd hhit q, fun _ => ⟨?_, by rw [e2]; exact p2, fun j hj => (es j).trans (p3 j hj), c, p4, ?_, ?_⟩⟩
      · unfold pushed State.waits at *; rw [es, e1, kf]; exact p1
      · rw [e1]; exact p5
      · rw [e1]; exact p6
    · obtain ⟨e1, e2⟩ := hn h1
      have es : ∀ j, t.slot d j = s.slot d j := fun j => by unfold State.slot; rw [e2]
      rw [e1, e2, hf] at kh
      rw [e1, e2] at kn
      have iff : hit ↔ ((s.basket d).state = .opened ∧ ∃ j sc, j = i ∧ t.screening j = some sc ∧
          (s.basket d).lines.any (BasketLine.inScreening sc.number) = true) := by
        refine and_congr_right fun ho => ⟨?_, ?_⟩
        · rintro ⟨j, z, a | rfl, b, c⟩
          · exact absurd ⟨ho, j, z, a, b, c⟩ h1
          · exact ⟨j, z, rfl, h.2.1 j z b hi, c⟩
        · rintro ⟨j, z, rfl, b, c⟩
          refine ⟨j, z, .inr rfl, ?_, c⟩
          cases g : s.screening j with
          | none => rw [h.1 j g] at b; cases b
          | some w => rw [h.2.1 j w g hi] at b; exact b
      refine ⟨fun q => kn fun r => q (iff.2 r), fun q => ?_⟩
      obtain ⟨p1, p2, p3, c, p4, p5, p6⟩ := kh (iff.1 q)
      exact ⟨p1, p2, fun j hj => (p3 j hj).trans (es j), c, p4, fun a b => pricedWhole_congr hf (linesNow_noSeat p4) (p5 a b), p6⟩

theorem State.enterClosing_fau (s : State) (i : Fin 16) (sc : Screening) : (s.enterClosing i sc).fau = s.fau :=
  s.enterClosing_kept (L := [.sbu, .klc, .hlc]) i sc (by simp) (by simp) (by simp) .fau (by decide)

/-- Which ON_SALE screenings are due at a site time (R9). -/
def State.dueAt (s : State) (now : SiteTime) (i : Fin 16) : Prop :=
  ∃ sc, s.screening i = some sc ∧ sc.state = .onSale ∧ siteSeconds sc.closeTime ≤ siteSeconds now

theorem screeningsClosed.congr {P Q : Fin 16 → Prop} {s u : State} (h : screeningsClosed P s u) (e : ∀ i, P i ↔ Q i) :
    screeningsClosed Q s u := by
  have : P = Q := funext fun i => propext (e i)
  exact this ▸ h

/-- The closings read seats, prices and slots only. -/
theorem screeningsClosed.blocks {P : Fin 16 → Prop} {s t u v : State} (h : screeningsClosed P t u) (e1 : t.sbu = s.sbu)
    (e2 : t.fau = s.fau) (e3 : t.klc = s.klc) (k1 : v.sbu = u.sbu) (k2 : v.fau = u.fau) (k3 : v.klc = u.klc) :
    screeningsClosed P s v := by
  have s1 : s.screening = t.screening := by funext j; unfold State.screening; rw [e1]
  have s2 : s.basket = t.basket := by funext j; unfold State.basket; rw [e1]
  have s3 : s.layout = t.layout := by funext j; unfold State.layout; rw [e1]
  have s4 : s.dropRec = t.dropRec := by funext j; unfold State.dropRec; rw [e3]
  have v1 : v.screening = u.screening := by funext j; unfold State.screening; rw [k1]
  have v2 : v.basket = u.basket := by funext j; unfold State.basket; rw [k1]
  have v3 : v.layout = u.layout := by funext j; unfold State.layout; rw [k1]
  have v4 : v.dropRec = u.dropRec := by funext j; unfold State.dropRec; rw [k3]
  unfold screeningsClosed pushed State.waits State.slot at *
  rw [s1, s2, s3, s4, v1, v2, v3, v4, k2, ← e2]
  refine ⟨h.1, h.2.1, h.2.2.1, h.2.2.2.1, fun d => ⟨(h.2.2.2.2 d).1, fun q => ?_⟩⟩
  obtain ⟨p1, p2, p3, c, p4, p5, p6⟩ := (h.2.2.2.2 d).2 q
  exact ⟨p1, p2, p3, c, p4, fun a b => pricedWhole_congr e2 (linesNow_noSeat p4) (p5 a b), p6⟩

theorem screeningsClosed.none (s : State) : screeningsClosed (fun _ => False) s s :=
  ⟨fun _ h => h, fun _ _ h _ => h, fun _ _ _ h => h.elim, fun _ => rfl,
    fun _ => ⟨fun _ => ⟨rfl, rfl⟩, fun h => h.2.elim fun _ q => q.elim fun _ r => r.1.elim⟩⟩

/-- The closings of a site time, over some slots (R9, R12). -/
theorem State.closeDue_slots (now : SiteTime) (s : State) (nd : s.numbersDistinct) (law : s.seatsBound) (is : List (Fin 16))
    (dup : is.Nodup) (P : Fin 16 → Prop) (hP : ∀ i ∈ is, ¬ P i) (t : State) (h : screeningsClosed P s t) (hf : t.fau = s.fau) :
    screeningsClosed (fun i => P i ∨ i ∈ is ∧ s.dueAt now i) s (is.foldl (State.closeIfDue now) t) ∧
      (is.foldl (State.closeIfDue now) t).fau = s.fau := by
  induction is generalizing P t with
  | nil => exact ⟨h.congr (by simp), hf⟩
  | cons i is ih =>
    have dup' := List.nodup_cons.1 dup
    have hi := hP i (by simp)
    have sc : t.screening i = s.screening i := by
      cases e : s.screening i with
      | none => exact h.1 i e
      | some z => exact h.2.1 i z e hi
    by_cases due : s.dueAt now i
    · obtain ⟨z, z1, z2, z3⟩ := due
      have ht : t.closeIfDue now i = t.enterClosing i z := by
        unfold State.closeIfDue
        rw [sc, z1]
        simp [z2, notLater, z3]
      have k := t.enterClosing_closed i z (sc.trans z1) (h.distinct nd) (h.seatsBound law)
      have kf := t.enterClosing_fau i z
      obtain ⟨r1, r2⟩ := ih dup'.2 (fun j => P j ∨ j = i) (by
        intro j m
        rw [not_or]
        exact ⟨hP j (by simp [m]), fun q => dup'.1 (q ▸ m)⟩) _ (h.trans k hf kf hi nd law) (kf.trans hf)
      rw [List.foldl_cons, ht]
      refine ⟨r1.congr fun j => ?_, r2⟩
      simp only [List.mem_cons]
      constructor
      · rintro ((a | rfl) | a)
        · exact .inl a
        · exact .inr ⟨.inl rfl, z, z1, z2, z3⟩
        · exact .inr ⟨.inr a.1, a.2⟩
      · rintro (a | ⟨a | a, b⟩)
        · exact .inl (.inl a)
        · exact .inl (.inr a)
        · exact .inr ⟨a, b⟩
    · have ht : t.closeIfDue now i = t := by
        unfold State.closeIfDue
        rw [sc]
        cases e : s.screening i with
        | none => rfl
        | some z =>
          refine if_neg fun q => due ⟨z, e, q.1, ?_⟩
          simpa [notLater] using q.2
      obtain ⟨r1, r2⟩ := ih dup'.2 P (fun j m => hP j (by simp [m])) t h hf
      rw [List.foldl_cons, ht]
      refine ⟨r1.congr fun j => or_congr_right ?_, r2⟩
      simp only [List.mem_cons]
      constructor
      · rintro ⟨a, b⟩; exact ⟨.inr a, b⟩
      · rintro ⟨rfl | a, b⟩
        · exact absurd b due
        · exact ⟨a, b⟩

/-- What the closings of a site time leave (R9, R12). -/
theorem State.closeDue_closed (s : State) (now : SiteTime) (nd : s.numbersDistinct) (law : s.basketLaw) :
    screeningsClosed (s.dueAt now) s (s.closeDue now) :=
  (State.closeDue_slots now s nd law.seatsBound (List.finRange 16) (List.nodup_finRange 16) _ (by simp) s
    (screeningsClosed.none s) rfl).1.congr
    (by simp)

end Sys2Proof.Machine
end

