-- ==== Sys2Proof/Tests/Slice0.lean ====
section
/-! SUPPORT. Tests: ill-formed commands that WellFormed refuses, values that the spec's worked examples give, and for each
statement of Certificates/Slice0/Obligations.lean that has hypotheses a state and operands that meet them. -/

namespace Sys2Proof.Tests

set_option Elab.async false

open Sys2Proof Sys2Proof.Machine

/-! ## A state to test on -/

def tag : HostTag := { tag := 7#16, kind := 1#8 }

/-- An auditorium of one row: two STANDARD seats, an aisle, a WHEELCHAIR and a COMPANION seat. -/
def layoutA : Layout :=
  { state := .ready, rowCount := 1, ideal := 0, centre := 4
    rows := [{ label := [65], kinds := [.standard, .standard, .aisle, .wheelchair, .companion] }], sellable := some 4 }

/-- Screening 7 on it, its first seat HELD for drop 0. -/
def screening7 : Screening :=
  { number := 7, layout := 0, startDay := 1, startMinute := 600, lateSale := 15, band := 0, surcharge := 0, gapGuard := false
    withdrawn := false, state := .onSale, counts := { free := 3, held := 1, sold := 0, blocked := 0 }
    seats := [⟨⟨0, 0⟩, .held 0 0⟩, ⟨⟨0, 1⟩, .free⟩, ⟨⟨0, 3⟩, .free⟩, ⟨⟨0, 4⟩, .free⟩] }

def seatLine : BasketLine := .seat 7 ⟨0, 0⟩ .standard .adult 1000 0
def snackLine : BasketLine := .snack 3 450 0

/-- An OPEN basket with a seat line and a snack line. -/
def basket5 : Basket :=
  { Basket.reset with
    serial := 5, state := .opened, bound := some 7, lines := [seatLine, snackLine], countdown := 200
    totals := { noTotals with seatSum := 1000, snackSum := 450, gross := 1450 } }

/-- The basket frozen. -/
def frozen5 : Basket := { basket5 with state := .tender, frozen := some 1450, saved := some 200 }

def record (k : DropKind) : DropRecord := { DropRecord.reset with kind := k, state := .online }

def quietStore : Store :=
  { mode := .guarding, op := .idle, written := some { sale := 356, voucher := 356 }, writing := none, tries := none
    pendingNeed := false, voucherCounter := some 100, failure := none, bus := none }

/-- A READY part: drop 0 a kiosk with that basket, drop 8 a counter. -/
def demo : State :=
  { State.reset with
    sbu := { layouts := vput Sbu.reset.layouts 0 layoutA, screenings := vput Sbu.reset.screenings 2 (some screening7)
             baskets := vput Sbu.reset.baskets 0 basket5 }
    fau := { Fau.reset with
             tariff := vput Fau.reset.tariff 0 (Vector.replicate 24 (some 1000))
             catalogue := vput Fau.reset.catalogue 3 { valid := some { price := 450, combo := true }, minutes := 60 } }
    jnu := { Jnu.reset true with saleCounter := some 100, store := quietStore }
    vcu := { Vcu.reset with counter := some 100, guardMark := some 356, guardOn := true }
    klc := { Klc.reset with drops := vput (vput Klc.reset.drops 0 (record .kiosk)) 8 (record .counter) }
    hlc := { Hlc.reset Config.resetStraps with partState := .ready } }

def demoFree : Screening := { screening7 with counts := { free := 4, held := 0, sold := 0, blocked := 0 }
                                              seats := screening7.seats.map fun r => { r with state := .free } }

theorem demo_screening (i : Fin 16) : demo.screening i = if i = 2 then some screening7 else none := by
  revert i; decide +kernel

theorem demo_bySlot {P : Fin 16 → Screening → Prop} (h : P 2 screening7) (i : Fin 16) (sc : Screening)
    (e : demo.screening i = some sc) : P i sc := by
  rw [demo_screening] at e
  split at e
  · rename_i hi; subst hi; cases e; exact h
  · cases e

/-! ## What WellFormed refuses -/

def record5 : SaleRecord :=
  { sale := 100, drop := 0, serial := 5, screening := none, time := { day := 1, second := 0 }, seats := []
    snacks := [{ item := 3, serial := 100, amount := 450 }], totals := noTotals, flags := noFlags, withdrawn := false
    payment := .none }

def issue5 : IssueOrder :=
  { sale := 100, time := { day := 1, second := 0 }, screening := none
    lines := [{ item := 3, serial := 100, amount := 450, minutes := 60 }] }

def receiptOf (index : Nat) : PrintItem :=
  .receipt { sale := 100, index := index, lines := [], gross := 0, seatTax := 0, snackTax := 0, approval := none, codes := [] }

theorem test_wellFormed_takes_the_good_ones :
    wellFormed (.saleRecord record5) = true ∧ wellFormed (.issueOrder issue5) = true
      ∧ wellFormed (.printOrder 0 [receiptOf 1]) = true := by decide +kernel

theorem test_wellFormed_refuses_sale_0 : wellFormed (.journalReturn 0) = false := by decide
theorem test_wellFormed_refuses_serial_0 : wellFormed (.attempt 0 0) = false := by decide
theorem test_wellFormed_refuses_reference_256 : wellFormed (.journalGrantRequest 0 256) = false := by decide
theorem test_wellFormed_refuses_run_of_9 : wellFormed (.voucherReturn 1 9) = false := by decide
theorem test_wellFormed_refuses_run_past_the_end : wellFormed (.voucherReturn 99999999 2) = false := by decide
theorem test_wellFormed_refuses_mark_0 : wellFormed (.voucherMarkUpdate 0) = false := by decide
theorem test_wellFormed_refuses_report_above_the_end : wellFormed (.voucherCounterReport 100000001) = false := by decide
theorem test_wellFormed_refuses_start_without_mark : wellFormed (.voucherCounterStart 1 0) = false := by decide
theorem test_wellFormed_refuses_base_at_the_end : wellFormed (.voucherBaseSet 100000000) = false := by decide
theorem test_wellFormed_refuses_eleven_lines :
    wellFormed (.tenderStart 0 { serial := 5, frozen := 0, seats := 8, snacks := 3, attempts := 0 }) = false := by decide
theorem test_wellFormed_refuses_fourth_attempt :
    wellFormed (.tenderStart 0 { serial := 5, frozen := 0, seats := 1, snacks := 0, attempts := 3 }) = false := by decide
theorem test_wellFormed_refuses_print_grant_of_10 : wellFormed (.reservationGrant 0 1 (.print 10)) = false := by decide
theorem test_wellFormed_refuses_print_request_of_0 : wellFormed (.printGrantRequest 0 1 0) = false := by decide
theorem test_wellFormed_refuses_voucher_request_of_9 : wellFormed (.voucherGrantRequest 0 1 9) = false := by decide
theorem test_wellFormed_refuses_code_of_another_owner :
    wellFormed (.reservationRefusal 0 1 .journal .printFull) = false := by decide
theorem test_wellFormed_refuses_short_approval :
    wellFormed (.commit 0 { serial := 5, sale := 1, payment := .card [65] 0, firstVoucher := none }) = false := by decide
theorem test_wellFormed_refuses_voucher_0 :
    wellFormed (.commit 0 { serial := 5, sale := 1, payment := .none, firstVoucher := some 0 }) = false := by decide
theorem test_wellFormed_refuses_order_of_11 :
    wellFormed (.priceOrder { kept := [], lines := List.replicate 11 (.snack 0), mode := .allOrNothing }) = false := by decide
theorem test_wellFormed_refuses_record_of_no_day :
    wellFormed (.saleRecord { record5 with time := { day := 1, second := 86400 } }) = false := by decide
theorem test_wellFormed_refuses_record_of_no_line : wellFormed (.saleRecord { record5 with snacks := [] }) = false := by decide
theorem test_wellFormed_refuses_screening_without_seat :
    wellFormed (.saleRecord { record5 with screening := some 7 }) = false := by decide
theorem test_wellFormed_refuses_void_without_sale :
    wellFormed (.timeoutVoidOrder { sale := 0, drop := 0, serial := 5, frozen := 0, time := { day := 0, second := 0 } }) =
      false := by decide
theorem test_wellFormed_refuses_gap_in_serials :
    wellFormed (.issueOrder { issue5 with lines := issue5.lines ++ [{ item := 3, serial := 102, amount := 0, minutes := 60 }] }) =
      false := by decide
theorem test_wellFormed_refuses_item_32 :
    wellFormed (.issueOrder { issue5 with lines := [{ item := 32, serial := 100, amount := 0, minutes := 60 }] }) =
      false := by decide
theorem test_wellFormed_refuses_issue_of_nothing : wellFormed (.issueOrder { issue5 with lines := [] }) = false := by decide
theorem test_wellFormed_refuses_index_out_of_order :
    wellFormed (.printOrder 0 [receiptOf 2, receiptOf 1]) = false := by decide
theorem test_wellFormed_refuses_code_of_9 : wellFormed (.redeem 8 (some (List.replicate 9 48))) = false := by decide
theorem test_wellFormed_refuses_answer_of_11 : wellFormed (.storeReadTryEnd (some (List.replicate 11 0))) = false := by decide
theorem test_wellFormed_refuses_11_acknowledged : wellFormed (.storeWriteTryEnd 11) = false := by decide

/-! ## Values of the spec's worked examples -/

/-- The codes of serials 12,345 and 5,530 (07 "Worked example: two codes"). -/
theorem test_voucher_codes :
    voucherCode 12345 = [0, 0, 0, 1, 2, 3, 4, 5, 2, 0] ∧ voucherCode 5530 = [0, 0, 0, 0, 5, 5, 3, 0, 9, 5] := by decide

/-- Remainder 1 is not enough: serial 0 with check digits 01 (07, after R138). -/
theorem test_code_of_remainder_1_is_not_wellFormed :
    wellFormedCode [48, 48, 48, 48, 48, 48, 48, 48, 48, 49] = false ∧ checkDigits 0 = 98 := by decide

/-- The pricing state of 04 "Worked case: an evening basket". -/
def evening : Fau :=
  { Fau.reset with
    tariff := vput Fau.reset.tariff 2 (vput (vput (Vector.replicate 24 none) 0 (some 1150)) 1 (some 850))
    dayparts := #v[some ⟨0, 9000⟩, some ⟨720, 10000⟩, some ⟨1080, 11000⟩, none]
    overlays := vput (vput Fau.reset.overlays 1
        (some { band := none, kind := none, concession := some .member, screening := some 909, action := .replace 500 })) 3
        (some { band := some 2, kind := none, concession := none, screening := none, action := .scale 9000 })
    catalogue := vput (vput Fau.reset.catalogue 2 { valid := some { price := 890, combo := true }, minutes := 30 }) 7
        { valid := some { price := 450, combo := false }, minutes := 30 }
    settings := { PricingSettings.reset with rebate := 150, seatTax := 700, snackTax := 1900 } }

def evening731 (k : SeatKind) (c : Concession) : SeatQuery :=
  { screening := 731, band := 2, surcharge := 200, minute := 1200, kind := k, concession := c }

/-- ADULT, CHILD, and a WHEELCHAIR seat for a SENIOR, whose entry is missing (04, first and fourth worked cases). -/
theorem test_evening_prices :
    evening.priceSeat (evening731 .standard .adult) = .priced 1338 true false false
      ∧ evening.priceSeat (evening731 .standard .child) = .priced 1042 true false false
      ∧ evening.priceSeat (evening731 .wheelchair .senior) = .priced 1190 false true false := by decide +kernel

/-- The premiere's line over the ceiling (04, third worked case). -/
theorem test_premiere_ceiling :
    ({ evening with settings := { evening.settings with lineCeiling := 8000 } }).capLine
      { fare := 2400, overlayFactor := 25000, daypartFactor := 12500, quotient := 7500, remainder := 0, rounded := 7500
        surcharged := 9000 } false = .priced 8000 false false true := by decide +kernel

/-- The totals of the evening basket, of the basket under the floor, and the half-way tax (04, worked cases). -/
theorem test_evening_totals :
    (evening.totals [.seat 1338, .seat 1042, .snack 7 450, .snack 2 890]).1 =
        { seatSum := 2380, snackSum := 1340, rebate := 150, gross := 3570, seatTax := 156, snackTax := 190 }
      ∧ ({ evening with settings := { evening.settings with rebate := 1000 } }).totals [.seat 1338, .snack 2 890] =
        ({ seatSum := 1338, snackSum := 890, rebate := 1000, gross := 1338, seatTax := 88, snackTax := 0 }, true)
      ∧ containedTax 2403 2000 = 401 := by decide +kernel

/-- Rows A to E of 03 "Worked example: a search over four rows". -/
def rowsAtoE : Layout :=
  { state := .ready, rowCount := 5, ideal := 3, centre := 11
    rows := [65, 66, 67, 68, 69].map fun c =>
      { label := [c], kinds := List.replicate 5 .standard ++ [.aisle] ++ List.replicate 6 .standard }
    sellable := some 55 }

/-- The seats that stand FREE in that example: C 7 and 8, D 0, 1, 4, 6, 7, 8, 10 and 11, E 0 and 1. -/
def fourRows : Screening :=
  { screening7 with
    gapGuard := true
    seats := rowsAtoE.seatAddrs.map fun a =>
      ⟨a, if [(2, 7), (2, 8), (3, 0), (3, 1), (3, 4), (3, 6), (3, 7), (3, 8), (3, 10), (3, 11), (4, 0), (4, 1)].contains (a.row, a.pos)
        then .free else .sold 1 .house⟩ }

/-- Two seats are C 7 and 8 at score 8; four seats split into C 7 and 8 with D 0 and 1 at score 24 (03, both examples). -/
theorem test_search_examples :
    findPlacement rowsAtoE fourRows .standard 2 (some (1, 4)) false =
        some { split := false, score := 8, seats := [⟨2, 7⟩, ⟨2, 8⟩] }
      ∧ findPlacement rowsAtoE fourRows .standard 4 (some (1, 4)) true =
        some { split := true, score := 24, seats := [⟨2, 7⟩, ⟨2, 8⟩, ⟨3, 0⟩, ⟨3, 1⟩] } := by decide +kernel

/-- A segment of positions 10 to 16 of a row, F F F F S F S (02 "Worked example: the lone-seat rule in one segment"). -/
def rowF : Layout :=
  { state := .ready, rowCount := 1, ideal := 0, centre := 0
    rows := [{ label := [70], kinds := List.replicate 10 .aisle ++ List.replicate 7 .standard }], sellable := some 7 }
def segmentF : Screening :=
  { screening7 with
    gapGuard := true
    seats := rowF.seatAddrs.map fun a => ⟨a, if a.pos = 14 ∨ a.pos = 16 then .sold 1 .house else .free⟩ }

theorem test_lone_seats :
    loneSeatDenial rowF segmentF [⟨0, 11⟩, ⟨0, 12⟩] = some ⟨0, 10⟩ ∧ loneSeatDenial rowF segmentF [⟨0, 10⟩, ⟨0, 11⟩] = none
      ∧ loneSeatDenial rowF segmentF [⟨0, 12⟩, ⟨0, 13⟩] = none ∧ loneSeatDenial rowF segmentF [⟨0, 15⟩] = none := by
  decide +kernel

/-- The need of 06 "Worked example: marks through a start-up and a failed write": none at 18,300, and 18,624 and 5,788 at
18,368. -/
def eveningCounters (sale : Nat) : Jnu :=
  { Jnu.reset true with
    saleCounter := some sale
    store := { quietStore with written := some { sale := 18432, voucher := 5760 }, voucherCounter := some 5532 } }

theorem test_store_need :
    (eveningCounters 18300).needTest = eveningCounters 18300
      ∧ (eveningCounters 18368).needTest.store.writing = some { sale := 18624, voucher := 5788 } := by decide +kernel

/-- Journal grants of 06 "Worked example: the last places in the journal": 61 records and 2 reservations leave one place. -/
def fullJournal (reserved : List Nat) : State :=
  demo.setJnu { eveningCounters 18302 with
    journal := (List.range 61).map fun k => .timeoutVoid { sale := 18239 + k, drop := 0, serial := 1, frozen := 0,
                                                           time := { day := 0, second := 0 } }
    reservations := reserved }

/-- The state a command answers; the state itself where it would stop. -/
def after (c : Instr) (s : State) : State :=
  match exec c s with
  | .next t => t
  | _ => s

/-- Whether an outcome is a next state. -/
def isNext : Result → Bool
  | .next _ => true
  | _ => false

theorem next_of {r : Result} (h : isNext r = true) : ∃ t, r = .next t := by
  cases r with
  | next t => exact ⟨t, rfl⟩
  | _ => cases h

theorem exec_after {c : Instr} {s : State} (h : isNext (exec c s) = true) : exec c s = .next (after c s) := by
  unfold after
  cases e : exec c s with
  | next t => rfl
  | _ => rw [e] at h; cases h

theorem test_last_journal_place :
    (after (.journalGrantRequest 6 1) (fullJournal [18300, 18301])).orders = [.reservationGrant 6 1 (.journal 18302)]
      ∧ (after (.journalGrantRequest 9 1) (fullJournal [18300, 18301, 18302])).orders =
        [.reservationRefusal 9 1 .journal .journalFull] := by decide +kernel

/-- The voucher grants of 07 "Worked example: grants at the limits". -/
theorem test_voucher_limits :
    let s := demo.setVcu { Vcu.reset with counter := some 5787, guardMark := some 5788, guardOn := true }
    (after (.voucherGrantRequest 11 1 2) s).orders = [.reservationRefusal 11 1 .voucher .counterLimit]
      ∧ (after (.voucherGrantRequest 5 1 1) s).orders =
        [.reservationGrant 5 1 (.voucher 5787 1), .voucherCounterReport 5788] := by decide +kernel

/-- Three rows of 01 "Worked example: loading a small layout": 25 seats, and seat numbers that pass over the aisle. -/
def layout5 : Layout :=
  { state := .ready, rowCount := 3, ideal := 1, centre := 9
    rows := [⟨[65], [.wheelchair, .companion, .standard, .standard, .aisle, .standard, .standard, .standard]⟩,
             ⟨[66], List.replicate 4 .standard ++ [.aisle] ++ List.replicate 5 .standard⟩,
             ⟨[67], List.replicate 4 .premium ++ [.aisle] ++ List.replicate 5 .premium⟩]
    sellable := some 25 }

theorem test_layout_counts : layout5.countSeats = 25 ∧ layout5.seatNumber ⟨0, 5⟩ = 5 ∧ layout5.seatExists ⟨0, 4⟩ = false := by
  decide +kernel

/-- The check values of the two CRCs over the characters 1 to 9, with the parameters of R193 (the common check values of these
two codes, not the spec's). -/
theorem test_crc_check_values :
    crc16 (List.map (BitVec.ofNat 8) [49, 50, 51, 52, 53, 54, 55, 56, 57]) = 0x29B1#16
      ∧ crc8 (List.map (BitVec.ofNat 8) [49, 50, 51, 52, 53, 54, 55, 56, 57]) = 0xF4#8 := by decide +kernel

/-- A seat address is two bytes and a site time five, high byte first: row 23 position 39, and the close time of the screening of
R6, day 813 and second 300 (R192). -/
theorem test_addresses_and_times :
    seatAddrBytes ⟨23, 39⟩ = [23#8, 39#8] ∧ seatAddrAt [23#8, 39#8] = ⟨23, 39⟩
      ∧ siteTimeBytes { day := 813, second := 300 } = [3#8, 45#8, 0#8, 1#8, 44#8]
      ∧ setClockBody [3#8, 45#8, 0#8, 1#8, 44#8] = some { day := 813, second := 300 } ∧ setClockBody [3#8, 45#8] = none := by
  decide +kernel

/-- Row A is padded with a space and row BB is not, and a label is read without its padding (R192). -/
theorem test_labels :
    labelBytes [65] = [65#8, 32#8] ∧ labelBytes [66, 66] = [66#8, 66#8] ∧ labelAt [65#8, 32#8] = [65]
      ∧ labelAt [66#8, 66#8] = [66, 66] := by decide +kernel

/-- A list body is cut at its fixed part, and one that is a byte short is not taken (R195). -/
theorem test_list_body :
    let cut := listBody 2 2 seatAddrAt (fun bs => beValue (bs.drop 1)) fun _ seats => seats
    cut [0#8, 2#8, 1#8, 5#8, 2#8, 6#8] = some [⟨1, 5⟩, ⟨2, 6⟩] ∧ cut [0#8, 2#8, 1#8, 5#8, 2#8] = none := by decide +kernel

/-- A write carries ten bytes to address 0 (R200). -/
theorem test_write_on_the_bus :
    (quietStore.beginWrite { sale := 356, voucher := 356 }).bus =
      some (.write 0 (storeRecordBytes { sale := 356, voucher := 356 }))
      ∧ (storeRecordBytes { sale := 356, voucher := 356 }).take 9 = [0, 0, 0, 1, 100, 0, 0, 1, 100] := by decide +kernel

/-- An erased store does not read (R200). -/
theorem test_erased_store_does_not_read : readMarks (List.replicate 10 255#8) = none := by decide +kernel

/-! ## What meets the hypotheses of the statements -/

theorem demo_basketLaw : demo.basketLaw := by
  unfold State.basketLaw Basket.lawful; decide +kernel

theorem demo_seatLaw : demo.seatLaw := by
  refine ⟨by decide +kernel, fun i sc h => ?_⟩
  refine demo_bySlot (P := fun _ sc => sc.counted ∧ (demo.layout sc.layout).state = .ready
    ∧ sc.seats.map (·.addr) = (demo.layout sc.layout).seatAddrs) ?_ i sc h
  unfold Screening.counted
  decide +kernel

theorem demo_numbersDistinct : demo.numbersDistinct := by
  intro i j x y hx hy _
  rw [demo_screening] at hx hy
  split at hx
  · split at hy
    · rename_i a b; rw [a, b]
    · cases hy
  · cases hx

theorem demo_lines (d : Drop) (h : d ≠ 0) : (demo.basket d).lines = [] := by
  revert d; decide +kernel

theorem demo_holdLaw : demo.holdLaw := by
  refine ⟨demo_numbersDistinct, ?_, ?_, ?_⟩
  · intro i sc h hs
    exact demo_bySlot (P := fun _ sc => sc.state = .loaded ∨ sc.state = .closed → ∀ r ∈ sc.seats, r.state.isHeld = false)
      (fun hs => by revert hs; decide) i sc h hs
  · intro i sc a d k h ha
    refine demo_bySlot (P := fun _ sc => sc.stateAt a = some (.held d k) →
      ∃ l, (demo.basket d).lines[k]? = some l ∧ l.names sc.number a = true) (fun ha => ?_) i sc h ha
    have e : screening7.stateAt a = some (.held d k) → a = ⟨0, 0⟩ ∧ d = 0 ∧ k = 0 := by
      simp only [Screening.stateAt, screening7, List.find?]
      intro ha
      split at ha <;> rename_i h0
      · simp at ha h0; exact ⟨h0.symm, ha.1.symm, ha.2.symm⟩
      · repeat' split at ha
        all_goals simp at ha
    obtain ⟨rfl, rfl, rfl⟩ := e ha
    exact ⟨seatLine, by decide +kernel, by decide⟩
  · intro d k n a l hl hn
    by_cases hd : d = 0
    · subst hd
      have e : (demo.basket 0).lines = [seatLine, snackLine] := by decide +kernel
      rw [e] at hl
      match k with
      | 0 =>
        simp at hl; subst hl
        simp [BasketLine.names, seatLine] at hn
        obtain ⟨rfl, rfl⟩ := hn
        exact ⟨2, screening7, by decide +kernel, by decide, by decide +kernel⟩
      | 1 => simp at hl; subst hl; simp [BasketLine.names, snackLine] at hn
      | k + 2 => simp at hl
    · rw [demo_lines d hd] at hl; simp at hl

theorem demo_kioskReady : demo.kioskReady 0 := by unfold State.kioskReady; decide +kernel
theorem demo_openFor : demo.openFor 0 5 := ⟨demo_kioskReady, by decide +kernel⟩
theorem demo_lawful : (demo.basket 0).lawful := demo_basketLaw 0
theorem demo_accepts : (demo.basket 0).accepts 5 := .inr (by decide +kernel)

/-- The state with drop 0's session in a state, its tender begun for basket 5 with sale number 99, its second attempt. -/
def inSession (x : SessionState) (phase : Option Phase) : State :=
  (demo.setBasket 0 frozen5).setSession 0
    { Session.reset with
      state := x, reference := 255, phase := phase, attempt := some 2, journalGrant := some 99, voucherGrant := some (99, 1)
      start := some { serial := 5, frozen := 1450, seats := 1, snacks := 1, attempts := 1 }
      cardWait := if x = .cardWait then some 1 else none
      authWait := if x = .authPending then some 1 else none
      token := some { scheme := 1, bytes := Vector.replicate 16 0#8 } }

/-- The state with drop 0's reader slot in a state. -/
def withReader (x : ReaderState) (o : Outstanding) (t : Option SlotTimer) : State :=
  (inSession .cardWait none).setReader 0
    { ReaderSlot.reset with
      state := x, outstanding := o, timer := t, contacts := { detect1 := true, detect2 := true, sense1 := true, sense2 := false } }

theorem witness_StepRunsTheFrontCommand :
    ({ demo with pending := [.hostRequestTake, .clockSecond] } : State).pending = .hostRequestTake :: [.clockSecond]
      ∧ demo.pending = [] ∧ (demo.send [.storeRetry]).orders = [.storeRetry] ∧ demo.orders = [] := by decide +kernel

/-- A journal, a voucher table and a queue at their bounds, at a step that takes a return. -/
def fullTables : State :=
  { demo with
    jnu := { demo.jnu with reservations := List.range 64 }
    vcu := { demo.vcu with reservations := List.replicate 128 { drop := 0, first := 1, count := 8 } }
    pru := { demo.pru with reservations := [{ drop := 0, reference := 1, count := 9 }, { drop := 0, reference := 2, count := 7 }] }
    pending := [.printReturn 0 1] }

theorem witness_StepKeepsTableLaws :
    fullTables.journalLaw ∧ fullTables.voucherLaw ∧ fullTables.queueLaw ∧ ∃ t, step fullTables = .next t := by
  refine ⟨?_, ?_, ?_, next_of (by decide +kernel)⟩
  · unfold State.journalLaw; decide +kernel
  · unfold State.voucherLaw; decide +kernel
  · unfold State.queueLaw; decide +kernel

theorem witness_StepKeepsLinkLaws :
    (demo.send [.storeRetry]).linkLaw ∧ (demo.send [.storeRetry]).transmitLaw ∧ ∃ t, step (demo.send [.storeRetry]) = .next t := by
  refine ⟨?_, ?_, next_of (by decide +kernel)⟩
  · unfold State.linkLaw; decide +kernel
  · unfold State.transmitLaw; decide +kernel

theorem witness_StepKeepsBasketLaw : demo.basketLaw ∧ ∃ t, step demo = .next t :=
  ⟨demo_basketLaw, next_of (by decide +kernel)⟩

theorem witness_StepKeepsSeatAndHoldLaws :
    demo.basketLaw ∧ demo.seatLaw ∧ demo.holdLaw ∧ ∃ t, step demo = .next t :=
  ⟨demo_basketLaw, demo_seatLaw, demo_holdLaw, next_of (by decide +kernel)⟩

/-- A line with a visit under way to drop 0. -/
def visiting (sent : SentFrame) (discard : Bool) : State :=
  demo.setLine .a { round := 7, next := 8, idle := false
                    visit := some { drop := 0, sent := sent, busyMark := none, discard := discard, addr := 257#9, bytes := [] } }

theorem witness_StepKeepsReaderAndDropLaws :
    (visiting .poll false).readerLaw ∧ (visiting .poll false).dropLaw ∧ (visiting .poll false).lineLaw
      ∧ ∃ t, step (visiting .poll false) = .next t := by
  refine ⟨?_, ⟨by decide +kernel, ?_⟩, by unfold State.lineLaw KioskLine.lawful; decide +kernel,
    next_of (by decide +kernel)⟩
  · have e : ∀ d, (visiting .poll false).reader d = ReaderSlot.reset := by decide +kernel
    intro d; rw [e]; simp [ReaderSlot.lawful, ReaderSlot.reset]
  · intro l v h
    cases l
    · have e : ((visiting .poll false).line .a).visit =
        some { drop := 0, sent := .poll, busyMark := none, discard := false, addr := 257#9, bytes := [] } := by decide +kernel
      rw [e] at h; cases h; decide +kernel
    · have e : ((visiting .poll false).line .b).visit = none := by decide +kernel
      rw [e] at h; cases h

theorem witness_ReaderEmptiesOnlyThroughPowerDown :
    let i := Instr.readFailed 0 (some ())
    ∃ t, exec i (withReader .ready .none none) = .next t ∧ ((withReader .ready .none none).reader 0).state = .ready
      ∧ i ≠ .dropOfflineTdu 0 ∧ (∀ k, i ≠ .dropKindChangeTdu 0 k) ∧ (∀ h, i ≠ .dropReset h (some (0 : Drop).val))
      ∧ ¬ (withReader .ready .none none).restartsBy i ∧ (∀ x, i ≠ .powerOnReset x) ∧ (∀ x, i ≠ .pinReset x)
      ∧ (t.reader 0).state = .poweringDown :=
  ⟨_, exec_after (by decide +kernel), by decide +kernel, nofun, nofun, nofun,
    by simp [State.restartsBy], nofun, nofun, by decide +kernel⟩

/-- Voucher 7 VOID, and voucher 8 ISSUED and valid to the second. -/
def voucherOf (serial : Nat) (st : VoucherState) : VoucherEntry :=
  { serial := serial, item := 3, amount := 450, sale := 90, screening := none, validUntil := { day := 0, second := 0 }, state := st }

def twoVouchers : State :=
  demo.setVcu { demo.vcu with used := [voucherOf 7 .voided, voucherOf 8 .issued], reservations := [{ drop := 0, first := 99, count := 2 }] }

theorem witness_ServedOrVoidVoucherStaysAsItIs :
    twoVouchers.voucherLaw ∧ ∃ t, exec (.voucherReturn 99 2) twoVouchers = .next t
      ∧ voucherOf 7 .voided ∈ twoVouchers.vcu.used ∧ voucherOf 7 .voided ∈ t.vcu.used := by
  refine ⟨?_, _, exec_after (by decide +kernel), by decide +kernel, by decide +kernel⟩
  unfold State.voucherLaw; decide +kernel

/-- Voucher 8 is swept at the whole minute at which its retention of 120 minutes is over, at a second and at a SET_CLOCK (R146). -/
theorem witness_SweptVoucher :
    let s := twoVouchers.setHlc { twoVouchers.hlc with clock := { day := 0, second := 7259 } }
    voucherOf 8 .issued ∈ s.vcu.used ∧ (∀ f ∈ (after .clockSecond s).vcu.used, f.serial ≠ 8)
      ∧ (∀ f ∈ (after (.setClock tag (some { day := 0, second := 7260 })) s).vcu.used, f.serial ≠ 8)
      ∧ voucherOf 8 .issued ∈ (after (.setClock tag (some { day := 0, second := 7200 })) s).vcu.used := by decide +kernel

theorem witness_RestartKeepsCountersAndKinds :
    (∃ t, exec (.restart tag) demo = .next t) ∧ demo.hlc.partState = .ready ∧ demo.jnu.saleCounter.isSome = true
      ∧ ((after (.restart tag) demo).dropRec 0).state = .probing ∧ (demo.dropRec 0).state ≠ .unused :=
  ⟨next_of (by decide +kernel), by decide +kernel⟩

theorem witness_FrameAndRecordRoundTrips :
    (List.replicate 1024 90#8).length ≤ 1024 ∧ marksInRange { sale := 4294967296, voucher := 100000000 } = true
      ∧ marksInRange { sale := 1, voucher := 1 } = true := by decide +kernel

theorem witness_VoucherCodeOfSerial : (0 : Nat) ≤ 99999999 ∧ (99999999 : Nat) ≤ 99999999 := by decide

theorem witness_DropResetActsOnOneDropOrRefuses :
    (inSession .authPending none).hlc.partState = .ready ∧ (inSession .authPending none).dropEnabled 0 = true
      ∧ ((inSession .authPending none).session 0).state = .authPending ∧ demo.hlc.partState = .ready
      ∧ demo.dropEnabled 15 = true ∧ (demo.session 15).state = .idle ∧ (demo.basket 15).state = .idle
      ∧ (demo.basket 0).state ≠ .idle ∧ demo.dropEnabled 16 = false := by decide +kernel

/-- A session that ends at the reset, of a TENDER basket, with its card under power. -/
theorem witness_DropResetEndsASession :
    (withReader .ready .none none).hlc.partState = .ready ∧ (withReader .ready .none none).dropEnabled (0 : Drop).val = true
      ∧ ((withReader .ready .none none).session 0).state = .cardWait ∧ (withReader .ready .none none).numbersDistinct
      ∧ ((withReader .ready .none none).reader 0).state.powered = true ∧ ((withReader .ready .none none).basket 0).state = .tender
      ∧ (withReader .ready .none none).allReturns 0 = [.journalReturn 99, .voucherReturn 99 1] :=
  ⟨by decide +kernel, by decide +kernel, by decide +kernel, demo_numbersDistinct, by decide +kernel, by decide +kernel,
    by decide +kernel⟩

/-- The host link with this much in its receive buffer. -/
def received (bytes : List Byte) (frames : List HostFrame) : State :=
  demo.setHlc { demo.hlc with bytes := bytes, frames := frames }

theorem witness_HostByteEntersTheBuffer :
    2048 ≤ (received (List.replicate 2047 0#8 ++ [90#8]) []).hlc.occupancy
      ∧ (received [90#8, 4#8] []).hlc.occupancy < 2048
      ∧ 0 < (scanHost 4 ((received [90#8, 4#8] []).hlc.bytes ++ [1#8])).2.2 := by decide +kernel

theorem witness_RequestsAreTakenAndRouted :
    let s := received [] [{ tag := 9#16, kind := 127#8, body := [] }]
    let r := received [] [{ tag := 9#16, kind := 127#8, body := [0#8] }]
    let u := received [] [{ tag := 9#16, kind := 200#8, body := [] }]
    s.hlc.frames.length = 1 ∧ s.hlc.handling = none ∧ s.hlc.replies.length < 4 ∧ s.restartsBy .hostRequestTake ∧ r.hlc.frames.length = 1
      ∧ u.hlc.frames.length = 1 ∧ requestOf 200#8 = none ∧ demo.hlc.frames = [] :=
  ⟨by decide +kernel, by decide +kernel, by decide +kernel,
    .inr ⟨rfl, by decide +kernel, by decide +kernel, _, _, rfl, by decide, by decide⟩, by decide +kernel⟩

/-- A RESTART frame resets the part in the step that takes it, so a clock second that waits behind it counts from the reset clock
(R190). -/
theorem test_restartFrameActsWhenTaken :
    let r := received [] [{ tag := 9#16, kind := 127#8, body := [] }, { tag := 10#16, kind := 127#8, body := [] }]
    let s := r.setHlc { r.hlc with clock := { day := 1, second := 50 } }
    let t := after .hostRequestTake s
    s.hlc.clock ≠ { day := 0, second := 0 } ∧ t.hlc.clock = { day := 0, second := 0 } ∧ t.hlc.frames = [] ∧ t.hlc.handling = none
      ∧ (after .clockSecond t).hlc.clock = { day := 0, second := 1 } := by decide +kernel

theorem witness_TransmitterChoosesNextFrame :
    (demo.replyHost tag .ok .none).hlc.replies = [{ request := tag, code := .ok, data := .none }]
      ∧ (demo.raise .journal).hlc.replies = [] ∧ (demo.raise .journal).hlc.conditions.raised .journal = true
      ∧ levelOf (demo.raise .journal).hlc.levels .journal = .value 2 ∧ highest demo.hlc.due = none := by decide +kernel

/-- Two conditions of level 1 and two of level 3: PRINTER goes before STORE, drop 3 before drop 12. -/
theorem witness_TransmitterTies :
    let t := (demo.raise .store).raise .printer
    let u := (demo.raise (.auth 12)).raise (.auth 3)
    highest t.hlc.due = some (.printer, 1) ∧ Condition.printer.rank ≤ Condition.store.rank
      ∧ highest u.hlc.due = some (.auth 3, 3) ∧ (Condition.auth 3).rank ≤ (Condition.auth 12).rank := by decide +kernel

theorem witness_StatusAndNoticeLevels :
    demo.hlc.partState = .ready ∧ levelsOk { defaultLevels with store := .value 3, journal := .off } = true
      ∧ levelsOk { defaultLevels with store := .value 4 } = false := by decide

/-- Every setting of SET_SITE at its least value. -/
def siteLeast : SiteReq :=
  { rounding := some .down, noFareMasked := some false, ceilingMasked := some true, lineCeiling := 1, houseFare := 0, rebate := 0
    seatTax := 0, snackTax := 0, printLater := some true, backlog := 2, retention := 10, hold := 60, cardWait := 20
    authTimeout := 15 }

theorem witness_SetSiteStoresAndClamps :
    demo.hlc.partState ≠ .starting ∧ clampedFields siteLeast = [] ∧ clampedFields { siteLeast with backlog := 1 } = [.backlog]
      ∧ siteLeast.rounding = some .down ∧ siteLeast.printLater = some true := by decide

/-- The demo with another basket at drop 0. -/
def withBasket (b : Basket) : State := demo.setBasket 0 b

/-- The demo at a site time. -/
def atTime (t : SiteTime) : State := demo.setHlc { demo.hlc with clock := t }

theorem witness_SetClockStepsTheSite :
    (atTime { day := 1, second := 301 }).hlc.partState ≠ .starting
      ∧ siteSeconds { day := 1, second := 0 } + 300 < siteSeconds (atTime { day := 1, second := 301 }).hlc.clock
      ∧ siteSeconds (atTime { day := 1, second := 300 }).hlc.clock ≤ siteSeconds { day := 1, second := 0 } + 300
      ∧ (atTime { day := 1, second := 300 }).hlc.partState ≠ .starting := by decide +kernel

theorem witness_ClockSecondCounts :
    siteSeconds demo.hlc.clock < siteSeconds lastTime ∧ (atTime lastTime).hlc.clock = lastTime
      ∧ ((inSession .cardWait none).session 0).cardWait = some 1 ∧ ((inSession .authPending none).session 0).authWait = some 1
      ∧ ((inSession .cardWait none).basket 0).state ≠ .opened
      ∧ (∀ i sc, demo.screening i = some sc → sc.state = .onSale →
        siteSeconds sc.closeTime ≤ siteSeconds (nextTime demo.hlc.clock) →
        (demo.basket 0).lines.any (BasketLine.inScreening sc.number) = false)
      ∧ (demo.basket 0).state = .opened ∧ 0 < (demo.basket 0).countdown ∧ (demo.basket 0).generation = demo.fau.generation := by
  refine ⟨by decide +kernel, by decide +kernel, by decide +kernel, by decide +kernel, by decide +kernel, ?_, by decide +kernel⟩
  exact demo_bySlot (P := fun _ sc => sc.state = .onSale → siteSeconds sc.closeTime ≤ siteSeconds (nextTime demo.hlc.clock) →
    (demo.basket 0).lines.any (BasketLine.inScreening sc.number) = false) (by decide +kernel)

/-- A part whose prices have moved: no fare for a seat, which is not masked, and snacks as they were. -/
def repriced : State :=
  demo.setFau { demo.fau with tariff := Fau.reset.tariff, settings := { PricingSettings.reset with noFareMasked := false }
                              generation := 1 }

theorem repriced_refuses : repriced.linePrice (.refused .noFare) seatLine := ⟨2, screening7, by decide +kernel⟩
theorem repriced_keeps : repriced.linePrice (.priced 450 false false false) snackLine := by
  show repriced.fau.priceSnack 3 = _; decide +kernel

/-- An OPEN basket of an old generation with its warning to come, and one of snacks alone at the second that closes screening 7. -/
theorem witness_ClockSecondWarnsAndCloses :
    ((withBasket { basket5 with countdown := 31, generation := 9 }).basket 0).countdown = 31
      ∧ ((withBasket { basket5 with countdown := 31, generation := 9 }).basket 0).generation ≠ demo.fau.generation
      ∧ basket5.generation ≠ repriced.fau.generation ∧ repriced.findScreening 7 = some (2, screening7)
      ∧ basket5.warned = false ∧ ((withBasket { basket5 with countdown := 1 }).basket 0).countdown = 1
      ∧ siteSeconds screening7.closeTime ≤ siteSeconds (nextTime (atTime { day := 1, second := 36899 }).hlc.clock)
      ∧ [snackLine].any (BasketLine.inScreening screening7.number) = false := by decide +kernel

/-- At that second screening 7 is due, of the two laws that the closing asks for, and the minute is whole. -/
theorem witness_ClockSecondClosesAndSweeps :
    let s := atTime { day := 1, second := 36899 }
    s.numbersDistinct ∧ s.basketLaw ∧ s.screening 2 = some screening7 ∧ screening7.state = .onSale
      ∧ siteSeconds screening7.closeTime ≤ siteSeconds (after .clockSecond s).hlc.clock
      ∧ (after .clockSecond s).hlc.clock.second % 60 = 0 ∧ (s.basket 0).state = .opened
      ∧ (s.basket 0).lines.any (BasketLine.names 7 ⟨0, 0⟩) = true
      ∧ ((after .clockSecond s).screening 2).map (·.stateAt ⟨0, 0⟩) = some (some .free) :=
  ⟨demo_numbersDistinct, demo_basketLaw, by decide +kernel, by decide +kernel, by decide +kernel, by decide +kernel,
    by decide +kernel, by decide +kernel, by decide +kernel⟩

theorem witness_SetClockCloses :
    demo.numbersDistinct ∧ demo.basketLaw ∧ demo.screening 2 = some screening7 ∧ screening7.state = .onSale
      ∧ siteSeconds screening7.closeTime ≤ siteSeconds { day := 1, second := 36900 }
      ∧ siteSeconds demo.hlc.clock ≤ siteSeconds { day := 1, second := 36900 } + 300
      ∧ ((after (.setClock tag (some { day := 1, second := 36900 })) demo).screening 2).map (·.state) = some .closed :=
  ⟨demo_numbersDistinct, demo_basketLaw, by decide +kernel, by decide +kernel, by decide +kernel, by decide +kernel,
    by decide +kernel⟩

/-- A layout of one more row to come, loading at index 7. -/
def loading : State := demo.setLayout 7 { layoutA with state := .loading, rowCount := 2, sellable := none }

theorem witness_LayoutsLoadRowByRow :
    (∃ j sc, demo.screening j = some sc ∧ sc.layout = 0) ∧ (∀ j sc, demo.screening j = some sc → sc.layout ≠ 7)
      ∧ (loading.layout 7).state = .loading ∧ (loading.layout 7).rows.length = 1 ∧ kindsOfCodes [0, 4, 3] = some [.standard, .aisle, .companion]
      ∧ labelOk [66] = true ∧ (∀ x ∈ (loading.layout 7).rows, x.label ≠ [66]) ∧ loading.hlc.partState = .ready := by
  refine ⟨⟨2, screening7, by decide +kernel, by decide⟩, ?_, by decide +kernel⟩
  exact demo_bySlot (P := fun _ sc => sc.layout ≠ 7) (by decide)

/-- Twelve rows of 40 seats: one seat more is above 480 (R5). -/
theorem witness_LayoutAbove480 :
    ((List.replicate 12 ({ label := [65], kinds := List.replicate 40 .standard } : LayoutRow)).map rowSeatCount).sum = 480
      ∧ 480 < 480 + rowSeatCount { label := [66], kinds := [.standard] }
      ∧ (((loading.layout 7).rows ++ [({ label := [66], kinds := [.standard] } : LayoutRow)]).map rowSeatCount).sum = 5 := by decide +kernel

/-- Screening 7 in another state. -/
def screeningIn (x : ScreeningState) : State := demo.setScreening 2 (some { demoFree with state := x })

def load9 : ScreeningLoadReq :=
  { number := 9, layout := 0, startDay := 1, startMinute := 1439, lateSale := 15, band := 7, surcharge := 0, gapGuard := some true }

theorem witness_ScreeningsLoadAndMove :
    screeningFieldsOk load9 = true ∧ (demo.layout 0).state = .ready
      ∧ (∀ j sc, demo.screening j = some sc → sc.number ≠ load9.number) ∧ demo.screening 0 = none
      ∧ (∀ j : Fin 16, j < 0 → demo.screening j ≠ none)
      ∧ (∀ x, (screeningIn x).findScreening 7 = some (2, { demoFree with state := x })
        ∧ siteSeconds (screeningIn x).hlc.clock < siteSeconds { demoFree with state := x }.closeTime) := by
  refine ⟨by decide +kernel, by decide +kernel, ?_, by decide +kernel, by decide +kernel, ?_⟩
  · exact demo_bySlot (P := fun _ sc => sc.number ≠ load9.number) (by decide)
  · intro x; cases x <;> decide +kernel

theorem witness_ScreeningsClose :
    demo.numbersDistinct ∧ demo.basketLaw ∧ demo.findScreening screening7.number = some (2, screening7)
      ∧ screening7.state = .onSale ∧ (demo.basket 0).lines.any (BasketLine.inScreening 7) = true :=
  ⟨demo_numbersDistinct, demo_basketLaw, by decide +kernel, by decide, by decide +kernel⟩

theorem witness_SeatBlockAndUnblock :
    seatListOk [⟨0, 1⟩, ⟨0, 2⟩] = true ∧ demo.findScreening 7 = some (2, screening7) ∧ noRepeats [⟨0, 1⟩, ⟨0, 3⟩] = true
      ∧ (demo.layout 0).seatExists ⟨0, 1⟩ = true ∧ screening7.stateAt ⟨0, 1⟩ = some .free
      ∧ (demo.layout 0).seatExists ⟨0, 2⟩ = false := by decide +kernel

/-- Screening 7 with its first seat sold. -/
def soldOne : Screening := demoFree.setSeat ⟨0, 0⟩ (.sold 90 .kiosk)

theorem witness_SeatSellAndRefund :
    noRepeats [⟨0, 1⟩] = true ∧ screening7.state = .onSale ∧ (screening7.stateAt ⟨0, 1⟩) = some .free
      ∧ SeatState.taken .free = false ∧ screening7.stateAt ⟨0, 0⟩ = some (.held 0 0) ∧ SeatState.taken (.held 0 0) = true
      ∧ (demo.setScreening 2 (some soldOne)).findScreening 7 = some (2, soldOne)
      ∧ soldOne.stateAt ⟨0, 0⟩ = some (.sold 90 .kiosk) ∧ SeatState.isSold (.sold 90 .kiosk) = true
      ∧ soldOne.stateAt ⟨0, 1⟩ = some .free ∧ SeatState.isSold .free = false
      ∧ demo.findScreening 7 = some (2, screening7) ∧ (demo.layout 0).seatExists ⟨0, 1⟩ = true := by decide +kernel

theorem witness_QueriesAndPriceOrdersChangeNothing :
    demo.findScreening 7 = some (2, screening7)
      ∧ quoteLine { band := 7, kind := 3, concession := 5, minute := 1439, surcharge := 5000, screening := 65535 } =
        some { screening := 65535, band := 7, surcharge := 5000, minute := 1439, kind := .companion, concession := .companion }
      ∧ [ToPrice.snack 3, .snack 4] = [.snack 3] ++ .snack 4 :: []
      ∧ demo.fau.priceLine (.snack 3) = .priced 450 false false false ∧ demo.fau.priceLine (.snack 4) = .refused .noItem
      ∧ (State.reset.fau.answer { kept := [.seat 1000], lines := [], mode := .voidRefused }) =
        .priced [] { noTotals with seatSum := 1000, gross := 1000 } false 0 := by decide +kernel

theorem witness_PricingLoadsMoveTheGeneration :
    (∀ e ∈ (Vector.replicate 24 (some 50000)).toList, ∀ v, e = some v → v ≤ 50000)
      ∧ daypartsOk #v[some ⟨0, 40000⟩, none, some ⟨1439, 0⟩, none] = true
      ∧ overlayOk { band := none, kind := some 3, concession := some 5, screening := none, action := .scale 40000 } = true
      ∧ catalogueOk [{ item := 31, contents := some { price := 50000, combo := true, minutes := 720 } },
          { item := 0, contents := none }] = true := by
  refine ⟨?_, by decide +kernel⟩
  simp

theorem witness_PricingRefusals :
    vget (vput (Vector.replicate 24 (some 50000)) 23 (some 50001)) 23 = some 50001
      ∧ (∀ j : Fin 24, j < 23 → vget (vput (Vector.replicate 24 (some 50000)) 23 (some 50001)) j = some 50000)
      ∧ daypartsOk #v[some ⟨0, 40001⟩, none, none, none] = false
      ∧ overlayOk { band := some 8, kind := none, concession := none, screening := none, action := .scale 1 } = false
      ∧ catalogueOk [] = false
      ∧ quoteLine { band := 8, kind := 0, concession := 0, minute := 0, surcharge := 0, screening := 1 } = none := by
  decide +kernel

/-- The evening's first matching overlay scales, its dayparts at minute 1,200, an entry it lacks, and a price above the ceiling. -/
theorem witness_PriceStages :
    (∀ o, vget evening.overlays 3 = some o → o.covers (evening731 .standard .adult) = true)
      ∧ (evening.lookup (evening731 .standard .adult)).fare = some 1150
      ∧ (evening.lookup (evening731 .wheelchair .senior)).fare = none ∧ evening.settings.noFareMasked = true
      ∧ (evening.stages (evening731 .standard .adult) 1150 9000).surcharged ≤ evening.settings.lineCeiling
      ∧ evening.settings.lineCeiling < (evening.stages (evening731 .standard .adult) 60000 10000).surcharged
      ∧ vget evening.dayparts 2 = some ⟨1080, 11000⟩ ∧ (evening.daypartFactor 1200) = 11000
      ∧ (∀ j, vget Fau.reset.overlays j = none) ∧ (∀ k, vget Fau.reset.dayparts k = none) := by decide +kernel

theorem witness_PricesAndTotals :
    demo.fau.priceSeat (seatQueryOf screening7 .standard .adult) = .priced 1000 false false false
      ∧ vget evening.overlays 1 =
        some { band := none, kind := none, concession := some .member, screening := some 909, action := .replace 500 }
      ∧ evening.lookup { evening731 .standard .member with screening := 909 } = { overlay := some 1, fare := some 500, factor := 10000 }
      ∧ vget evening.overlays 0 = none := by decide +kernel

theorem witness_BasketRequestsAreGated :
    basketGate (.undo 0 (some 6)) = some (0, 6, false, false) ∧ basketGate (.view 0 (some 5)) = some (0, 5, false, true)
      ∧ (demo.dropRec 8).kind ≠ .kiosk ∧ State.reset.hlc.partState ≠ .ready ∧ (demo.dropRec 0).kind = .kiosk
      ∧ demo.hlc.partState = .ready ∧ ((withBasket Basket.reset).basket 0).state = .idle
      ∧ (demo.basket 0).state ≠ .idle ∧ (demo.basket 0).serial ≠ 6 ∧ ((withBasket frozen5).basket 0).state = .tender
      ∧ ((withBasket frozen5).basket 0).serial = 5 := by decide +kernel

def select1 (seats : List SeatChoice) : SelectReq := { serial := 5, screening := 7, seats := seats }

theorem demo_price : demo.fau.priceSeat (seatQueryOf screening7 .standard .child) = .priced 1000 false false false := by
  decide +kernel

theorem demo_holdable : demo.holdable 0 screening7 [(⟨0, 1⟩, .child)] := by
  refine ⟨by decide, .inr (by decide +kernel), by decide +kernel, by decide +kernel, by decide +kernel, by decide +kernel,
    by decide +kernel, ?_⟩
  intro x hx k hk c
  simp only [List.mem_singleton] at hx
  subst hx
  have e : (demo.layout screening7.layout).seatKind ⟨0, 1⟩ = some .standard := by decide +kernel
  rw [e] at hk
  cases hk
  rw [demo_price]
  nofun

theorem witness_SelectHoldsOrRefuses :
    demo.kioskReady 0 ∧ (demo.basket 0).lawful ∧ (demo.basket 0).accepts 5
      ∧ selectSeats (select1 [⟨⟨0, 1⟩, 1⟩]) = some [(⟨0, 1⟩, .child)] ∧ demo.findScreening 7 = some (2, screening7)
      ∧ demo.holdable 0 screening7 [(⟨0, 1⟩, .child)] :=
  ⟨demo_kioskReady, demo_lawful, demo_accepts, by decide +kernel, by decide +kernel, demo_holdable⟩

theorem witness_SelectRefusals :
    selectSeats (select1 []) = none ∧ demo.findScreening 8 = none
      ∧ (screeningIn .loaded).findScreening 7 = some (2, { demoFree with state := .loaded })
      ∧ ((withBasket { basket5 with bound := some 8 }).basket 0).bound = some 8
      ∧ 8 < (demo.basket 0).seatCount + (List.replicate 8 (⟨0, 1⟩ : SeatAddr)).length
      ∧ firstMissing (demo.layout 0) [⟨0, 1⟩, ⟨0, 2⟩] = some ⟨0, 2⟩
      ∧ firstInState screening7 (fun x => x != .free) [⟨0, 0⟩] = some (⟨0, 0⟩, .held 0 0) := by decide +kernel

/-- A part that has no fare for a CHILD and does not mask it. -/
def noFares : Fau := { Fau.reset with settings := { PricingSettings.reset with noFareMasked := false } }

theorem witness_SelectLastChecks :
    companionDenial (demo.layout 0) ((demo.basket 0).seatAddrs ++ [⟨0, 4⟩]) [⟨0, 4⟩] = some ⟨0, 4⟩
      ∧ companionDenial (demo.layout 0) ((demo.basket 0).seatAddrs ++ [⟨0, 3⟩, ⟨0, 4⟩]) [⟨0, 3⟩, ⟨0, 4⟩] = none
      ∧ loneSeatDenial rowF segmentF [⟨0, 11⟩, ⟨0, 12⟩] = some ⟨0, 10⟩ ∧ segmentF.gapGuard = true
      ∧ screening7.gapGuard = false ∧ noFares.priceSeat (seatQueryOf screening7 .standard .child) = .refused .noFare := by
  decide +kernel

theorem witness_SearchFindsTheLeastRun :
    (1 : Nat) ≤ 2 ∧ (findPlacement rowsAtoE fourRows .standard 2 (some (1, 4)) false).map (·.split) = some false
      ∧ (findPlacement rowsAtoE fourRows .standard 4 (some (1, 4)) true).map (·.split) = some true
      ∧ findPlacement rowsAtoE fourRows .premium 2 none true = none := by decide +kernel

def best1 : BestReq := { serial := 5, screening := 7, count := 1, kind := 0, concessions := [1], range := some (0, 23), split := false }

theorem witness_BestHoldsThePlacement :
    demo.kioskReady 0 ∧ (demo.basket 0).lawful ∧ (demo.basket 0).accepts 5
      ∧ bestForm best1 = some { kind := .standard, concessions := [.child] } ∧ demo.findScreening 7 = some (2, screening7)
      ∧ findPlacement (demo.layout 0) screening7 .standard 1 (some (0, 23)) false =
        some { split := false, score := 2, seats := [⟨0, 1⟩] }
      ∧ demo.holdable 0 screening7 ([⟨0, 1⟩].zip [.child])
      ∧ findPlacement (demo.layout 0) screening7 .standard 2 none false = none ∧ screening7.state = .onSale
      ∧ (demo.basket 0).bound = some 7 ∧ (demo.basket 0).lines.length + 2 ≤ 10 ∧ (demo.basket 0).seatCount + 2 ≤ 8 :=
  ⟨demo_kioskReady, demo_lawful, demo_accepts, by decide +kernel, by decide +kernel, by decide +kernel, demo_holdable,
    by decide +kernel, by decide +kernel, by decide +kernel, by decide +kernel, by decide +kernel⟩

/-- What refuses a BEST, a price last: the seat found has no fare. -/
theorem witness_BestRefusals :
    bestForm { best1 with count := 0 } = none ∧ bestForm { best1 with kind := 2 } = none ∧ demo.findScreening 8 = none
      ∧ (screeningIn .loaded).findScreening 7 = some (2, { demoFree with state := .loaded })
      ∧ (screeningIn .closing).findScreening 7 = some (2, { demoFree with state := .closing })
      ∧ ((withBasket { basket5 with bound := some 8 }).basket 0).bound = some 8
      ∧ 8 < (demo.basket 0).seatCount + 8 ∧ ((demo.setFau noFares).basket 0).accepts 5 ∧ (demo.setFau noFares).kioskReady 0
      ∧ [((⟨0, 1⟩ : SeatAddr), Concession.child)] = [] ++ (⟨0, 1⟩, .child) :: []
      ∧ (demo.layout 0).seatKind ⟨0, 1⟩ = some .standard
      ∧ noFares.priceSeat (seatQueryOf screening7 .standard .child) = .refused .noFare :=
  ⟨by decide, by decide, by decide +kernel, by decide +kernel, by decide +kernel, by decide +kernel, by decide +kernel,
    .inr (by decide +kernel), demo_kioskReady, by decide, by decide +kernel, by decide +kernel⟩

theorem witness_SnackExtendAndView :
    demo.kioskReady 0 ∧ (demo.basket 0).lawful ∧ (demo.basket 0).accepts 5
      ∧ ((3 : Nat) ≤ 31 ∧ (demo.basket 0).lines.length < 10 ∧ (demo.basket 0).snackCount < 8
        ∧ demo.fau.itemPrice 3 = some { price := 450, combo := true })
      ∧ demo.fau.itemPrice 31 = none ∧ (31 : Nat) < 32
      ∧ 8 ≤ ((withBasket { basket5 with lines := List.replicate 8 snackLine }).basket 0).snackCount
      ∧ demo.openFor 0 5 ∧ (demo.basket 0).extensions < 2
      ∧ 2 ≤ ((withBasket { basket5 with extensions := 2 }).basket 0).extensions ∧ (demo.basket 0).state ≠ .idle :=
  ⟨demo_kioskReady, demo_lawful, demo_accepts, by decide +kernel, by decide +kernel, by decide, by decide +kernel, demo_openFor,
    by decide +kernel, by decide +kernel, by decide +kernel⟩

theorem witness_UndoVoidLineAndClearReleaseSeats :
    demo.openFor 0 5 ∧ demo.numbersDistinct ∧ (demo.basket 0).lines = [seatLine] ++ snackLine :: [] ∧ snackLine ≠ .void
      ∧ (demo.basket 0).lines[0]? = some seatLine ∧ (demo.basket 0).lines[9]? = none := by
  refine ⟨demo_openFor, demo_numbersDistinct, ?_⟩
  decide +kernel

/-- A basket whose only seat is a COMPANION seat. -/
def lonelyCompanion : Basket := { basket5 with lines := [.seat 7 ⟨0, 4⟩ .companion .companion 0 0] }

theorem witness_TenderFreezesTheBasket :
    demo.openFor 0 5 ∧ 3 ≤ ((withBasket { basket5 with attempts := 3 }).basket 0).attempts
      ∧ demo.boundScreening (demo.basket 0) = some (2, screening7) ∧ (demo.basket 0).attempts < 3
      ∧ (demo.setScreening 2 (some { screening7 with withdrawn := true })).boundScreening basket5 =
        some (2, { screening7 with withdrawn := true })
      ∧ companionSlot (demo.layout 0) lonelyCompanion = some 0 ∧ demo.tenderDenial (demo.basket 0) = none
      ∧ (demo.basket 0).generation = demo.fau.generation
      ∧ repriced.openFor 0 5 ∧ repriced.tenderDenial basket5 = none ∧ repriced.basket 0 = basket5
      ∧ basket5.generation ≠ repriced.fau.generation ∧ repriced.numbersDistinct
      ∧ (∃ l ∈ basket5.lines, ∃ code, repriced.linePrice (.refused code) l)
      ∧ basket5.generation ≠ (demo.setFau { demo.fau with generation := 1 }).fau.generation
      ∧ (demo.setFau { demo.fau with generation := 1 }).repriceVoids 0 = false :=
  ⟨demo_openFor, by decide +kernel, by decide +kernel, by decide +kernel, by decide +kernel, by decide +kernel,
    by decide +kernel, by decide +kernel, demo_openFor, by decide +kernel, by decide +kernel, by decide +kernel,
    demo_numbersDistinct, ⟨seatLine, by decide +kernel, _, repriced_refuses⟩, by decide +kernel, by decide +kernel⟩

theorem inSession_numbersDistinct (x : SessionState) (p : Option Phase) : (inSession x p).numbersDistinct := demo_numbersDistinct

theorem witness_TenderOrdersAndExpiry :
    ((inSession .cardWait none).basket 0).state = .tender ∧ ((inSession .cardWait none).basket 0).serial = 5
      ∧ (inSession .cardWait none).numbersDistinct ∧ (demo.basket 0).state ≠ .tender
      ∧ (repriced.setBasket 0 frozen5).basket 0 = frozen5 ∧ frozen5.generation ≠ repriced.fau.generation
      ∧ (repriced.setBasket 0 frozen5).numbersDistinct
      ∧ ((withBasket { basket5 with countdown := 0 }).basket 0).state = .opened
      ∧ ((withBasket { basket5 with countdown := 0 }).basket 0).countdown = 0
      ∧ (withBasket { basket5 with countdown := 0 }).numbersDistinct ∧ (demo.basket 0).countdown ≠ 0 :=
  ⟨by decide +kernel, by decide +kernel, inSession_numbersDistinct _ _, by decide +kernel, by decide +kernel, by decide +kernel,
    demo_numbersDistinct, by decide +kernel, by decide +kernel, demo_numbersDistinct, by decide +kernel⟩

theorem witness_CommitSellsTheBasket :
    ((inSession .committing none).basket 0).state = .tender ∧ ((inSession .committing none).basket 0).serial = 5
      ∧ (inSession .committing none).numbersDistinct ∧ (demo.basket 0).state ≠ .tender :=
  ⟨by decide +kernel, by decide +kernel, inSession_numbersDistinct _ _, by decide +kernel⟩

/-- The lines of that basket as its orders list them, with its screening, and a basket of snacks alone. -/
theorem witness_CommitOrders :
    let s := inSession .committing none
    s.boundScreening (s.basket 0) = some (2, screening7) ∧ (s.basket 0).snackCount = 1
      ∧ ((s.basket 0).lines.filter BasketLine.isSeat)[0]? = some seatLine
      ∧ ((s.basket 0).lines.filter BasketLine.isSnack)[0]? = some snackLine
      ∧ ((s.basket 0).lines.filter BasketLine.live)[1]? = some snackLine
      ∧ ((s.basket 0).lines.filter BasketLine.live)[0]? = some seatLine
      ∧ ((withBasket { frozen5 with lines := [snackLine], bound := none }).basket 0).bound = none := by decide +kernel

theorem witness_ReservationProtocol :
    (demo.session 0).state = .idle ∧ ((inSession .reserving (some .print)).session 0).state = .reserving
      ∧ ((inSession .reserving (some .print)).session 0).reference = 255
      ∧ ((inSession .reserving (some .print)).session 0).start =
        some { serial := 5, frozen := 1450, seats := 1, snacks := 1, attempts := 1 }
      ∧ ((inSession .reserving (some .journal)).session 0).phase = some .journal
      ∧ ((inSession .reserving (some .voucher)).session 0).phase = some .voucher
      ∧ ((inSession .reserving (some .print)).session 0).phase = some .print
      ∧ ((inSession .reserving (some .print)).session 0).phase ≠ some (grantPhase (.journal 1)) := by decide +kernel

theorem inSession_kioskReady : (inSession .cardWait none).kioskReady 0 ∧ (inSession .committing none).kioskReady 0 := by
  unfold State.kioskReady; decide +kernel

theorem witness_SessionsEndWithoutASale :
    (((inSession .reserving (some .voucher)).session 0).state = .reserving
        ∧ ((inSession .reserving (some .voucher)).session 0).reference = 255
        ∧ ((inSession .reserving (some .voucher)).session 0).phase = some .voucher)
      ∧ ((inSession .cardWait none).setSession 0 { (inSession .cardWait none).session 0 with cardWait := some 0 }).session 0 =
        { (inSession .cardWait none).session 0 with cardWait := some 0 }
      ∧ (inSession .cardWait none).kioskReady 0 ∧ ((inSession .cardWait none).session 0).serial = 5
      ∧ (demo.session 0).state = .idle ∧ ((inSession .committing none).session 0).state = .committing
      ∧ ((inSession .authPending none).session 0).journalGrant = some 99
      ∧ ({ (inSession .authPending none).session 0 with authWait := some 0 } : Session).state = .authPending :=
  ⟨by decide +kernel, by decide +kernel, inSession_kioskReady.1, by decide +kernel, by decide +kernel, by decide +kernel,
    by decide +kernel, by decide +kernel⟩

def result99 (outcome amount : Nat) : AuthResultReq :=
  { sale := 99, outcome := outcome, amount := amount, approval := List.replicate 6 48 }

theorem witness_AuthorisationAndConfirmation :
    authFieldsOk (result99 1 1450) = true ∧ authFieldsOk (result99 2 0) = true ∧ authFieldsOk (result99 3 0) = false
      ∧ ((inSession .authPending none).session 0).state = .authPending
      ∧ ((inSession .authPending none).session 0).journalGrant = some 99
      ∧ (∀ e, ((inSession .authPending none).session e).state = .authPending →
        ((inSession .authPending none).session e).journalGrant = some 99 → e = 0)
      ∧ ((inSession .authPending none).session 0).token = some { scheme := 1, bytes := Vector.replicate 16 0#8 }
      ∧ ((inSession .authPending none).session 0).frozen = 1450 ∧ (1451 : Nat) ≠ 1450
      ∧ (∀ d, (demo.session d).state = .authPending → (demo.session d).journalGrant ≠ some 99)
      ∧ (∀ d, (demo.session d).lastTimedOut ≠ 99) ∧ ((inSession .cardRead none).session 0).state = .cardRead
      ∧ ((inSession .committing none).session 0).serial = 5 := by decide +kernel

theorem witness_ReaderReportsMoveTheCard :
    ((withReader .ready .none none).dropRec 0).kind = .kiosk ∧ ((withReader .ready .none none).reader 0).state = .ready
      ∧ ((withReader .ready .none none).session 0).state = .cardWait
      ∧ ((withReader .poweringUp .on (some ⟨.acknowledge, 500⟩)).reader 0).outstanding = .on
      ∧ ((withReader .poweringUp .on (some ⟨.acknowledge, 500⟩)).reader 0).removalPending = false
      ∧ ((withReader .poweringDown .off (some ⟨.acknowledge, 500⟩)).reader 0).outstanding = .off
      ∧ (demo.dropRec 8).kind ≠ .kiosk := by decide +kernel

/-- A kiosk drop's slot in each of the states that CONTACTS moves. -/
theorem witness_ContactsInEveryState (x : ReaderState) :
    ((withReader x .none none).dropRec 0).kind = .kiosk ∧ ((withReader x .none none).reader 0).state = x := by
  cases x <;> decide +kernel

theorem witness_ContactsMoveTheSlot :
    ((withReader .settling .none (some ⟨.settle, 100⟩)).dropRec 0).kind = .kiosk
      ∧ ((withReader .poweringUp .none (some ⟨.delay, 40⟩)).reader 0).timing .delay = true
      ∧ ((withReader .poweringUp .on (some ⟨.acknowledge, 500⟩)).reader 0).timing .delay = false
      ∧ bothMade { allOpen with detect1 := true, detect2 := true } = true ∧ noneMade allOpen = true
      ∧ (bothMade { allOpen with detect1 := true } = false ∧ noneMade { allOpen with detect1 := true } = false)
      ∧ ((withReader .ready .none none).reader 0).state.powered = true
      ∧ ((withReader .poweringDown .off (some ⟨.acknowledge, 500⟩)).reader 0).state = .poweringDown
      ∧ ((withReader .settling .none (some ⟨.settle, 100⟩)).reader 0).contacts =
        { allOpen with detect1 := true, detect2 := true, sense1 := true } := by decide +kernel

theorem witness_ReaderTimersMoveTheSlot :
    ((withReader .partialIn .none (some ⟨.partialIn, 2000⟩)).reader 0).timing .partialIn = true
      ∧ ((withReader .settling .none (some ⟨.settle, 100⟩)).reader 0).timing .settle = true
      ∧ ((withReader .settling .none (some ⟨.settle, 100⟩)).session 0).state = .cardWait
      ∧ (((withReader .settling .none (some ⟨.settle, 100⟩)).reader 0).classify .only3V).state = .classified
      ∧ ((withReader .poweringUp .on (some ⟨.acknowledge, 500⟩)).reader 0).timing .acknowledge = true
      ∧ ((withReader .poweringUp .none (some ⟨.delay, 40⟩)).reader 0).timing .delay = true
      ∧ ((withReader .poweringDown .off (some ⟨.acknowledge, 500⟩)).reader 0).timing .acknowledge = true
      ∧ ((withReader .poweringDown .none (some ⟨.delay, 40⟩)).reader 0).timing .delay = true
      ∧ ((withReader .poweringDown .none (some ⟨.delay, 40⟩)).reader 0).spent = false
      ∧ bothMade ((withReader .poweringDown .none (some ⟨.delay, 40⟩)).reader 0).contacts = true
      ∧ ((withReader .poweringUp .none (some ⟨.delay, 40⟩)).reader 0).timing .acknowledge = false
      ∧ ((withReader .poweringDown .off (some ⟨.acknowledge, 500⟩)).reader 0).timing .delay = false
      ∧ ((withReader .poweringDown .off (some ⟨.acknowledge, 500⟩)).reader 0).state ≠ .poweringUp := by decide +kernel

theorem witness_DropEventsReachTheOwners :
    ((inSession .cardRead none).dropRec 0).kind = .kiosk ∧ ((inSession .cardRead none).session 0).state = .cardRead
      ∧ (repriced.dropRec 0).kind = .kiosk ∧ (repriced.basket 0).state = .opened
      ∧ (repriced.basket 0).generation ≠ repriced.fau.generation
      ∧ (demo.setQueue 0 [receiptOf 1]).queue 0 = receiptOf 1 :: [] ∧ (demo.dropRec 8).kind ≠ .kiosk
      ∧ ((withReader .classified .none none).reader 0).state ≠ .empty ∧ (demo.reader 0).state = .empty
      ∧ ((inSession .reserving (some .print)).session 0).state = .reserving
      ∧ ((inSession .authPending none).session 0).state = .authPending := by decide +kernel

theorem witness_JournalGrantsSaleNumbers :
    64 ≤ fullTables.jnu.journal.length + fullTables.jnu.reservations.length
      ∧ demo.jnu.journal.length + demo.jnu.reservations.length < 64 ∧ demo.jnu.saleCounter = some 100
      ∧ demo.jnu.store.mode = .guarding ∧ demo.jnu.store.written = some { sale := 356, voucher := 356 } ∧ (100 : Nat) < 356
      ∧ (demo.setJnu { demo.jnu with saleCounter := none }).jnu.saleCounter = none
      ∧ demo.jnu.store.voucherCounter = some 100 ∧ 64 < 356 - (100 + 1)
      ∧ (demo.setJnu { demo.jnu with saleCounter := some 291 }).jnu.saleCounter = some 291 ∧ 356 - (291 + 1) ≤ 64
      ∧ (demo.setJnu { demo.jnu with saleCounter := some 356 }).jnu.saleCounter = some 356
      ∧ (demo.setJnu { demo.jnu with saleCounter := some 4294967296 }).jnu.saleCounter = some 4294967296 := by decide +kernel

def void99 : TimeoutVoid := { sale := 99, drop := 0, serial := 5, frozen := 1450, time := { day := 0, second := 0 } }

/-- A journal of one record. -/
def oneRecord : State := demo.setJnu { demo.jnu with journal := [.timeoutVoid void99] }

theorem witness_JournalKeepsRecordsUntilTaken :
    (∀ q ∈ demo.jnu.journal, recordSale q ≠ recordSale (.timeoutVoid void99))
      ∧ demo.jnu.journal.length + demo.jnu.reservations.length < 64
      ∧ (∃ q ∈ oneRecord.jnu.journal, recordSale q = recordSale (.timeoutVoid void99))
      ∧ oneRecord.hlc.partState = .ready ∧ oneRecord.jnu.journal = .timeoutVoid void99 :: [] ∧ demo.jnu.journal = []
      ∧ recordSale (.timeoutVoid void99) ≠ 100 := by decide +kernel

/-- The store at its third try of a read or a write. -/
def storeAt (op : StoreOp) (writing : Option Marks) : State :=
  demo.setJnu { demo.jnu with store := { quietStore with op := op, writing := writing, tries := some 3 } }

theorem witness_StoreReadsAndWrites :
    State.reset.jnu.store.op = .reading ∧ State.reset.jnu.store.tries = some 1 ∧ State.reset.jnu.store.mode = .guarding
      ∧ readMarks (storeRecordBytes { sale := 18176, voucher := 5504 }) = some { sale := 18176, voucher := 5504 }
      ∧ (some (List.replicate 10 255#8)).bind readMarks = none
      ∧ (storeAt .reading none).jnu.store.tries = some 3 ∧ demo.jnu.store.op ≠ .reading
      ∧ (storeAt .writing (some { sale := 400, voucher := 400 })).jnu.store.op = .writing
      ∧ (storeAt .writing (some { sale := 400, voucher := 400 })).jnu.store.writing = some { sale := 400, voucher := 400 }
      ∧ ({ quietStore with op := .writing, writing := some { sale := 400, voucher := 400 }, pendingNeed := true } :
        Store).pendingNeed = true ∧ demo.jnu.store.op ≠ .writing
      ∧ (storeAt .retryWait none).jnu.store.op = .retryWait
      ∧ Jnu.need { (storeAt .retryWait none).jnu with saleCounter := some 292 } = some { sale := 548, voucher := 356 }
      ∧ (storeAt .retryWait none).jnu.need = none := by decide +kernel

theorem witness_CountersAskForWrites :
    (eveningCounters 18368).saleCounter = some 18368 ∧ (eveningCounters 18368).store.voucherCounter = some 5532
      ∧ (eveningCounters 18368).store.written = some { sale := 18432, voucher := 5760 }
      ∧ ({ quietStore with mode := .seeding, written := none } : Store).mode ≠ .absent ∧ (Store.reset false).mode = .absent
      ∧ (eveningCounters 18368).store.mode ≠ .absent ∧ 18432 - 18368 ≤ 64 ∧ 64 < 18432 - 18367 ∧ 64 < 5760 - 5532
      ∧ ({ State.reset with hlc := { State.reset.hlc with partState := .needCounters } } : State).hlc.partState = .needCounters
      ∧ demo.hlc.partState = .ready ∧ demo.jnu.store.written = some { sale := min (100 + 256) 4294967296, voucher := min (100 + 256) 100000000 }
      ∧ ({ sale := min (4294967296 + 256) 4294967296, voucher := min (100000000 + 256) 100000000 } : Marks) =
        { sale := 4294967296, voucher := 100000000 } := by decide +kernel

theorem witness_VoucherGrantsRuns :
    demo.vcu.counter = some 100 ∧ 1024 < fullTables.vcu.used.length + fullTables.vcu.reservedCount + 1
      ∧ demo.vcu.used.length + demo.vcu.reservedCount + 8 ≤ 1024 ∧ demo.vcu.guardOn = true ∧ demo.vcu.guardMark = some 356
      ∧ 100 + 8 ≤ 356 ∧ 356 < 349 + 8 ∧ 100000000 < 99999993 + 8
      ∧ twoVouchers.vcu.reservations = [] ++ { drop := 0, first := 99, count := 2 } :: []
      ∧ (∀ x ∈ twoVouchers.vcu.reservations, x.first ≠ 100) := by decide +kernel

theorem witness_IssueOrderMakesVouchers :
    (issue5.lines.map (·.serial)).Nodup ∧ (∀ l ∈ issue5.lines, ∀ e ∈ twoVouchers.vcu.used, e.serial ≠ l.serial)
      ∧ twoVouchers.vcu.used.length + (after (.issueOrder issue5) twoVouchers).vcu.reservedCount + issue5.lines.length ≤ 1024 := by
  decide +kernel

/-- Lines 7 to 9, of which the first two serials are in use; and a table with one entry free, which the first of two lines takes. -/
theorem witness_IssueLineByLine :
    let o : IssueOrder := { issue5 with lines := [7, 8, 9].map fun n => { item := 3, serial := n, amount := 450, minutes := 60 } }
    let s := demo.setVcu { demo.vcu with
      used := [voucherOf 7 .voided], reservations := List.replicate 127 { drop := 0, first := 200, count := 8 } ++
        [{ drop := 0, first := 300, count := 6 }] }
    (after (.issueOrder o) twoVouchers).vcu.used.map (·.serial) = [7, 8, 9]
      ∧ (after (.issueOrder o) s).vcu.used.map (·.serial) = [7, 8] := by decide +kernel

/-- The characters of a voucher's code. -/
def codeText (serial : Nat) : Text := (voucherCode serial).map (· + 48)

theorem witness_RedeemAndCheckJudgeAlike :
    (twoVouchers.dropRec 0).kind ≠ .counter ∧ (twoVouchers.dropRec 8).kind = .counter ∧ twoVouchers.hlc.partState = .ready
      ∧ wellFormedCode [] = false ∧ wellFormedCode (codeText 9) = true
      ∧ (∀ e ∈ twoVouchers.vcu.used, e.serial ≠ digitsValue ((codeText 9).take 8))
      ∧ twoVouchers.vcu.find (digitsValue ((codeText 7).take 8)) = some (voucherOf 7 .voided)
      ∧ twoVouchers.vcu.find (digitsValue ((codeText 8).take 8)) = some (voucherOf 8 .issued)
      ∧ siteSeconds twoVouchers.hlc.clock ≤ siteSeconds (voucherOf 8 .issued).validUntil := by decide +kernel

theorem witness_HostVoidsAndQueriesVouchers :
    twoVouchers.hlc.partState = .ready ∧ twoVouchers.vcu.find 8 = some (voucherOf 8 .issued)
      ∧ twoVouchers.vcu.find 7 = some (voucherOf 7 .voided) ∧ (voucherOf 7 .voided).state ≠ .issued
      ∧ (∀ e ∈ twoVouchers.vcu.used, e.serial ≠ 100)
      ∧ (∀ r ∈ twoVouchers.vcu.reservations, 101 < r.first ∨ r.first + r.count ≤ 101)
      ∧ twoVouchers.vcu.reservations = [{ drop := 0, first := 99, count := 2 }] := by decide +kernel

/-- A printer in a state with an item in its queue and a slot reserved. -/
def printing (x : PrinterState) (retries : Nat) : State :=
  { demo with
    pru := { demo.pru with
             queues := vput demo.pru.queues 0 [receiptOf 1]
             reservations := [{ drop := 0, reference := 1, count := 2 }]
             printers := vput demo.pru.printers 0 { state := x, paperLow := false, retries := retries, headSent := x == .busy } } }

theorem witness_PrintGrantsAndOrders :
    demo.pru.printLater = false ∧ (demo.printer 0).state = .offline ∧ ((printing .busy 0).printer 0).state = .busy
      ∧ 16 < (printing .busy 0).queuePlaces 0 + 14 ∧ (printing .busy 0).queuePlaces 0 + 13 ≤ 16
      ∧ (printing .ready 0).pru.reservations = [] ++ { drop := 0, reference := 1, count := 2 } :: []
      ∧ (∀ x ∈ (printing .ready 0).pru.reservations, x.drop ≠ 0 ∨ x.reference ≠ 2) ∧ (printing .ready 0).queueLaw
      ∧ [receiptOf 1, receiptOf 2].length ≤ 2 := by
  unfold State.queueLaw; decide +kernel

/-- A drop with no reservation and 15 items takes the first of two. -/
theorem witness_PrintOrderUnreserved :
    let s := demo.setQueue 0 (List.replicate 15 (receiptOf 1))
    (∀ r ∈ s.pru.reservations, r.drop ≠ 0) ∧ (s.queue 0).length = 15
      ∧ (after (.printOrder 0 [receiptOf 2, receiptOf 3]) s).queue 0 = s.queue 0 ++ [receiptOf 2] := by decide +kernel

theorem witness_PrinterReportsMoveTheQueue :
    (demo.dropRec 8).kind ≠ .kiosk ∧ ((printing .busy 1).dropRec 0).kind = .kiosk ∧ (printing .busy 1).queue 0 = receiptOf 1 :: []
      ∧ itemTag (receiptOf 1) = { sale := 100, index := 1 } ∧ ((printing .busy 1).printer 0).headSent = true
      ∧ ((printing .busy 1).printer 0).retries < 2 ∧ 2 ≤ ((printing .busy 2).printer 0).retries
      ∧ itemTag (receiptOf 1) ≠ { sale := 100, index := 2 } ∧ ((printing .offline 0).printer 0).state = .offline
      ∧ ((printing .paused 0).printer 0).state = .paused ∧ ((printing .fault 3).printer 0).state = .fault
      ∧ ((printing .paused 0).setPrinter 0 { (printing .paused 0).printer 0 with headSent := true }).queue 0 = [receiptOf 1]
      ∧ ((printing .paused 0).setQueue 0 []).queue 0 = []
      ∧ (((printing .paused 0).setQueue 0 []).printer 0).state = .paused := by decide +kernel

/-- Two kiosk drops, the first with an item. -/
def twoKiosks : State := (printing .busy 0).setDropRec 1 (record .kiosk)

theorem witness_RedirectAndFlushEmptyAQueue :
    twoKiosks.hlc.partState = .ready ∧ (15 : Nat) < 16 ∧ (twoKiosks.dropRec 8).kind ≠ .kiosk ∧ (0 : Drop) ≠ 1
      ∧ (twoKiosks.dropRec 0).kind = .kiosk ∧ (twoKiosks.dropRec 1).kind = .kiosk
      ∧ twoKiosks.queuePlaces 1 + (twoKiosks.queue 0).length ≤ 16
      ∧ 16 < (twoKiosks.setQueue 1 (List.replicate 16 (receiptOf 1))).queuePlaces 1 +
        ((twoKiosks.setQueue 1 (List.replicate 16 (receiptOf 1))).queue 0).length := by decide +kernel

theorem witness_DropConfigSetsTheDrop :
    demo.hlc.partState ≠ .starting ∧ demo.dropEnabled 15 = true ∧ (demo.dropRec 15).kind = .none
      ∧ (demo.basket 15).state = .idle ∧ (demo.session 15).state = .idle ∧ (demo.reader 15).state.powered = false
      ∧ demo.queue 15 = [] ∧ (∀ r ∈ demo.pru.reservations, r.drop ≠ 15) ∧ (demo.basket 0).state ≠ .idle
      ∧ ({ demo.hlc with straps := { demo.hlc.straps with bothLines := false } } : Hlc).straps.bothLines = false := by
  decide +kernel

theorem witness_VisitsGoRoundTheDrops :
    (demo.line .a).visit = none ∧ (demo.line .a).idle = false ∧ (demo.line .a).next ≤ (0 : Fin 8).val
      ∧ (demo.dropRec (dropAt .a 0)).due (demo.line .a).round = true ∧ (∀ i, (State.reset.dropRec (dropAt .b i)).state = .unused)
      ∧ ((demo.setLine .a { round := 7, next := 8, idle := true, visit := none }).line .a).idle = true
      ∧ ((visiting .poll false).line .a).visit ≠ none
      ∧ (record .kiosk).state = .online ∧ (record .kiosk).inDoubt = none ∧ ∀ i, vget (record .kiosk).slots i = none := by
  decide +kernel

/-- The frame of drop 0 in doubt whose slot was emptied, past the last drop of its round, and a line whose one drop is away. -/
theorem witness_VisitsOfTheNextRoundAndIdle :
    let past := demo.setLine .a { round := 6, next := 1, idle := false, visit := none }
    let away := (demo.setDropRec 0 { record .kiosk with state := .offline }).setLine .a
      { round := 1, next := 0, idle := false, visit := none }
    let late := (demo.setDropRec 0 { record .kiosk with state := .offline }).setLine .a
      { round := 1, next := 1, idle := false, visit := none }
    let r := { record .kiosk with inDoubt := some { slot := .reader, toggle := true, frame := .reader .off } }
    (∀ j : Fin 8, (past.line .a).next ≤ j.val → (past.dropRec (dropAt .a j)).due (past.line .a).round = false)
      ∧ (past.line .a).next ≠ 0 ∧ (past.dropRec (dropAt .a 0)).due 7 = true
      ∧ (away.dropRec (dropAt .a 0)).state ≠ .unused ∧ (away.line .a).next = 0
      ∧ (∀ j : Fin 8, (away.line .a).next ≤ j.val → (away.dropRec (dropAt .a j)).due (away.line .a).round = false)
      ∧ (late.line .a).next ≠ 0 ∧ (∀ j : Fin 8, (late.dropRec (dropAt .a j)).due 2 = false)
      ∧ r.state = .online ∧ vget r.slots (slotIndex .reader) = none := by decide +kernel

/-- A good answer of drop 0 that carries the message PRINTED's code and nothing more. -/
def goodOne : Answer :=
  { addr := 257#9, control := 0x10#8, length := 1#8, body := [16#8], crc := crc16 [1#8, 0x10#8, 1#8, 16#8] }

theorem witness_GoodAnswersSettleTheVisit :
    ((visiting .poll false).line .a).visit.map (·.discard) = some false ∧ dropLine 0 = .a ∧ answerGood 0 goodOne = true
      ∧ answerPresent goodOne = true ∧ ((visiting .poll false).dropRec 0).state = .online
      ∧ ((visiting .poll false).dropRec 0).inToggle ≠ some (answerToggle goodOne) ∧ isRequestCode 16 = false := by decide +kernel

/-- The same message as a request for a basket's view, taken toggle 1. -/
def viewAnswer : Answer :=
  { addr := 257#9, control := 0x50#8, length := 1#8, body := [7#8], crc := crc16 [1#8, 0x50#8, 1#8, 7#8] }

/-- A visit to drop 0 that sent the off command under toggle 1, one that polled for it in doubt, one that sent a reply while a
request is outstanding, and a SYNC to it away. -/
theorem witness_GoodAnswersOfEveryVisit :
    let sent : SentFrame := .body .reader true (.reader .off)
    let q : InDoubt := { slot := .reader, toggle := true, frame := .reader .off }
    let doubted := (visiting .pollInDoubt false).setDropRec 0 { record .kiosk with inDoubt := some q }
    let asked := (visiting (.body .reply true (.reply (bareReply .ok))) false).setDropRec 0
      { record .kiosk with requestOutstanding := true }
    let away := (visiting .sync false).setDropRec 0 { record .kiosk with state := .offline, inToggle := some false }
    answerGood 0 viewAnswer = true ∧ answerTaken viewAnswer = true ∧ isRequestCode 7 = true
      ∧ (((visiting sent false).line .a).visit.map (·.sent)) = some sent
      ∧ (doubted.dropRec 0).inDoubt = some q ∧ (doubted.dropRec 0).state = .online
      ∧ (asked.dropRec 0).requestOutstanding = true ∧ (asked.dropRec 0).inToggle ≠ some (answerToggle viewAnswer)
      ∧ (away.dropRec 0).state = .offline ∧ (away.line .a).visit.map (·.sent) = some .sync := by decide +kernel

theorem witness_MissesLoseADrop :
    ((visiting .sync true).line .a).visit.map (·.discard) = some true ∧ dropLine 0 = .a ∧ (demo.line .a).visit = none
      ∧ answerGood 0 { goodOne with length := 2#8 } = false
      ∧ ((visiting .poll false).line .a).visit.map (·.discard) = some false
      ∧ 2 ≤ (((visiting .poll false).setDropRec 0 { record .kiosk with misses := 2 }).dropRec 0).misses
      ∧ (((visiting .poll false).setDropRec 0 { record .kiosk with misses := 2 }).dropRec 0).state = .online := by decide +kernel

end Sys2Proof.Tests
end

section
/-! What R28 lets through, and what a reply to a basket request leaves as it was: shared by the proofs about baskets. -/

namespace Sys2Proof.Machine

/-! ## Taking a request (R28) -/

theorem State.kioskReady.isKiosk {s : State} {d : Drop} (h : s.kioskReady d) : s.isKiosk d = true := by
  simp [State.isKiosk, h.1]

theorem State.kioskReady.accept {s : State} {d : Drop} (h : s.kioskReady d) (c : Instr) : (s.accept c).kioskReady d := h

theorem State.openFor.accept {s : State} {d : Drop} {n : Nat} (h : s.openFor d n) (c : Instr) : (s.accept c).openFor d n := h

section
variable {α : Type} {s : State} {d : Drop} {r : α} {serialOf : α → Nat} {opens views : Bool} {act : α → State → State}

/-- A request that may open a basket acts on one that accepts its serial. -/
theorem State.basketRequest_accepts (ready : s.kioskReady d) (h : (s.basket d).accepts (serialOf r)) :
    s.basketRequest d (some r) serialOf true views act = act r s := by
  obtain idle | ⟨opened, serial⟩ := h
  · simp [State.basketRequest, ready.isKiosk, ready.2, idle]
  · simp [State.basketRequest, ready.isKiosk, ready.2, opened, serial]

/-- Every request with the serial of an OPEN basket acts on it. -/
theorem State.basketRequest_openFor (h : s.openFor d (serialOf r)) :
    s.basketRequest d (some r) serialOf opens views act = act r s := by
  obtain ⟨ready, opened, serial⟩ := h
  simp [State.basketRequest, ready.isKiosk, ready.2, opened, serial]

/-- A request that views acts on an OPEN basket and on one in TENDER. -/
theorem State.basketRequest_views (ready : s.kioskReady d) (used : (s.basket d).state ≠ .idle)
    (serial : (s.basket d).serial = serialOf r) :
    s.basketRequest d (some r) serialOf opens true act = act r s := by
  cases e : (s.basket d).state with
  | idle => exact absurd e used
  | opened => exact State.basketRequest_openFor ⟨ready, e, serial⟩
  | tender => simp [State.basketRequest, ready.isKiosk, ready.2, e, serial]

end

/-! ## Replies (R28, R168) -/

theorem State.place_slotsKeptBut (s : State) (d : Drop) (i : SlotId) (f : OutFrame) : slotsKeptBut d s (s.place d i f) := by
  refine ⟨fun e he => ?_, ?_, rfl, rfl⟩
  · rw [State.place_dropRec, if_neg he]
  · rw [State.place_dropRec, if_pos rfl]; rfl

theorem State.basketReply_replied (s : State) (d : Drop) (c : Code) (x : ReplyDetail) : replied d c x (s.basketReply d c x) :=
  s.place_slot_same d .reply _

/-- A request that writes its drop's basket and replies stays in the frame of that basket. -/
theorem State.setBasket_basketReply_frame (s : State) (c : Instr) (d : Drop) (b : Basket) (k : Code) (x : ReplyDetail) :
    basketFrame d s (((s.accept c).setBasket d b).basketReply d k x) := by
  refine ⟨fun e he => State.setBasket_basket_ne (s.accept c) d b he, ?_, fun _ => rfl, rfl, ?_⟩
  · exact State.place_slotsKeptBut ((s.accept c).setBasket d b) d .reply _
  · exact ((s.accept_kept c (by simp)).trans (State.setBasket_kept _ d b (by simp))).trans
      (State.basketReply_kept _ d k x (by simp))

/-! ## Opening a basket (R23, R24) -/

/-- An IDLE basket is a cleared one, so that opening it sets four fields; an OPEN one stays as it is. -/
theorem State.openedBasket_eq (s : State) {b : Basket} {n : Nat} (law : b.lawful) (h : b.accepts n) :
    s.openedBasket b =
      { b with state := .opened
               serial := if b.state = .idle then nextSerial b.serial else b.serial
               countdown := if b.state = .idle then s.hlc.hold else b.countdown
               generation := if b.state = .idle then s.fau.generation else b.generation } := by
  obtain ⟨cleared, -⟩ := law
  obtain idle | ⟨opened, -⟩ := h
  · rw [cleared idle]; rfl
  · cases b; cases opened; rfl

/-- Neither a frozen amount nor a saved countdown stands in a basket that takes requests. -/
theorem Basket.lawful.unfrozen {b : Basket} {n : Nat} (law : b.lawful) (h : b.accepts n) : b.frozen = none ∧ b.saved = none := by
  obtain ⟨-, -, -, -, -, -, -, frozen, saved⟩ := law
  have tender : b.state ≠ .tender := by obtain e | ⟨e, -⟩ := h <;> simp [e]
  constructor
  · simpa using mt frozen.1 tender
  · simpa using mt saved.1 tender

end Sys2Proof.Machine
end

section
/-! SNACK_ADD, EXTEND and VIEW past R28 (R30, R33, R34). -/

namespace Sys2Proof.Machine

/-! ## SNACK_ADD (R30) -/

/-- What an accepted SNACK_ADD makes of its drop's basket. -/
theorem State.basketWithSnack_eq (s : State) {b : Basket} {n : Nat} (law : b.lawful) (h : b.accepts n) (item price : Nat) :
    s.basketWithSnack b item price =
      let lines := b.lines ++ [.snack item price s.fau.generation]
      let totals := s.fau.totals (lines.filterMap BasketLine.kept)
      { b with state := .opened
               serial := if b.state = .idle then nextSerial b.serial else b.serial
               countdown := if b.state = .idle then s.hlc.hold else b.countdown
               generation := if b.state = .idle then s.fau.generation else b.generation
               lines := lines
               totals := totals.1
               flags := { b.flags with floor := b.flags.floor || totals.2 } } := by
  simp only [State.basketWithSnack, s.openedBasket_eq law h, Basket.withTotals, flagsWithFloor]

section
variable {s : State} {d : Drop} {r : SnackReq}

theorem exec_snackAdd_of_accepts {u : State} (ready : s.kioskReady d) (h : (s.basket d).accepts r.serial)
    (act : State.snackAdd d r (s.accept (.snackAdd d (some r))) = u) :
    exec (.snackAdd d (some r)) s = .next u.transmit :=
  congrArg State.done ((State.basketRequest_accepts (ready.accept _) h).trans act)

theorem State.snackAdd_badValue (code : 31 < r.item) : s.snackAdd d r = s.basketReply d .badValue .none := if_pos code

theorem State.snackAdd_full (code : r.item ≤ 31) (full : 10 ≤ (s.basket d).lines.length ∨ 8 ≤ (s.basket d).snackCount) :
    s.snackAdd d r = s.basketReply d .basketFull .none :=
  (if_neg (by omega)).trans (if_pos full)

theorem State.snackAdd_noItem (code : r.item ≤ 31) (lines : (s.basket d).lines.length < 10)
    (snacks : (s.basket d).snackCount < 8) (item : s.fau.itemPrice r.item = none) :
    s.snackAdd d r = s.basketReply d .noItem .none := by
  simp [State.snackAdd, Nat.not_lt.2 code, Nat.not_le.2 lines, Nat.not_le.2 snacks, item]

theorem State.snackAdd_ok {p : ItemPrice} (code : r.item ≤ 31) (lines : (s.basket d).lines.length < 10)
    (snacks : (s.basket d).snackCount < 8) (item : s.fau.itemPrice r.item = some p) :
    s.snackAdd d r = (s.setBasket d (s.basketWithSnack (s.basket d) r.item p.price)).basketReply d .ok .none := by
  simp [State.snackAdd, Nat.not_lt.2 code, Nat.not_le.2 lines, Nat.not_le.2 snacks, item]

end

/-! ## EXTEND and VIEW (R33, R34) -/

section
variable {s : State} {d : Drop} {n : Nat}

theorem exec_extend_of_openFor {u : State} (h : s.openFor d n) (act : State.extend d n (s.accept (.extend d (some n))) = u) :
    exec (.extend d (some n)) s = .next u.transmit :=
  congrArg State.done ((State.basketRequest_openFor (h.accept _)).trans act)

theorem State.extend_ok (left : (s.basket d).extensions < 2) :
    s.extend d n =
      (s.setBasket d
        { s.basket d with countdown := extended (s.basket d).countdown s.hlc.hold
                          extensions := (s.basket d).extensions + 1, warned := false }).basketReply d .ok
        (.countdown (extended (s.basket d).countdown s.hlc.hold)) :=
  if_pos left

theorem State.extend_used (used : 2 ≤ (s.basket d).extensions) : s.extend d n = s.basketReply d .noExtension .none :=
  if_neg (Nat.not_lt.2 used)

theorem exec_view_of_used (ready : s.kioskReady d) (used : (s.basket d).state ≠ .idle) (serial : (s.basket d).serial = n) :
    exec (.view d (some n)) s = .next ((s.accept (.view d (some n))).basketReply d .ok .none).transmit :=
  congrArg State.done (State.basketRequest_views (ready.accept _) used serial)

end

/-! ## The statement -/

/-- Settles O34: past R28, SNACK_ADD and EXTEND go by their own checks, and the basket that SNACK_ADD writes is the lawful one before
it but for the fields that `State.basketWithSnack_eq` names. -/
theorem snackExtendAndView : Obligations.SnackExtendAndView := by
  refine ⟨fun d r s ready law acc => ?_, fun d n s h => ?_, fun d n s ready used serial => exec_view_of_used ready used serial⟩
  · refine ⟨fun p code lines snacks item => ?_,
      fun code => exec_snackAdd_of_accepts ready acc (State.snackAdd_badValue code),
      fun code full => exec_snackAdd_of_accepts ready acc (State.snackAdd_full code full),
      fun code lines snacks item => exec_snackAdd_of_accepts ready acc (State.snackAdd_noItem code lines snacks item)⟩
    let t := s.accept (.snackAdd d (some r))
    let u := (t.setBasket d (t.basketWithSnack (s.basket d) r.item p.price)).basketReply d .ok .none
    have basket : u.basket d = t.basketWithSnack (s.basket d) r.item p.price := t.setBasket_basket_same d _
    obtain ⟨frozen, saved⟩ := law.unfrozen acc
    refine ⟨u, exec_snackAdd_of_accepts ready acc (State.snackAdd_ok code lines snacks item), ?_⟩
    rw [basket, t.basketWithSnack_eq law acc]
    exact ⟨rfl, rfl, rfl, rfl, rfl, rfl, rfl, rfl, rfl, frozen, saved, ⟨rfl, rfl⟩, State.basketReply_replied _ d .ok .none,
      fun _ => rfl, rfl, rfl, s.setBasket_basketReply_frame _ d _ .ok .none⟩
  · exact ⟨fun left => exec_extend_of_openFor h (State.extend_ok left),
      fun used => exec_extend_of_openFor h (State.extend_used used)⟩

end Sys2Proof.Machine
end

section
/-! The journal's records and the host's two requests on them (R116 to R118, R120). -/

namespace Sys2Proof.Machine

/-! ## Raising a condition (R182) -/

@[simp] theorem State.raise_raised (s : State) (k : Condition) : (s.raise k).hlc.conditions.raised k = true := by
  cases k with
  | auth d => exact vget_vput_same s.hlc.conditions.auth d true
  | _ => rfl

theorem State.raise_hlcKept (s : State) (k : Condition) : hlcKept s (s.raise k) := rfl

theorem State.raiseIfRecords_of_empty {s : State} (h : s.jnu.journal = []) : s.raiseIfRecords = s := by
  simp [State.raiseIfRecords, h]

theorem State.raiseIfRecords_of_records {s : State} (h : s.jnu.journal ≠ []) : s.raiseIfRecords = s.raise .journal := by
  simp [State.raiseIfRecords, h]

/-! ## Taking a record (R116 to R118) -/

/-- The JNU with a record at the tail of the journal and its reservation, where there is one, consumed (R116). -/
def Jnu.append (j : Jnu) (r : JournalRecord) : Jnu :=
  { j with journal := j.journal ++ [r], reservations := j.reservations.erase (recordSale r) }

theorem Jnu.holds_iff {j : Jnu} {sale : Nat} : j.holds sale = true ↔ ∃ q ∈ j.journal, recordSale q = sale := by
  simp [Jnu.holds]

section
variable {s : State} {r : JournalRecord}

theorem State.takeRecord_of_new (new : ∀ q ∈ s.jnu.journal, recordSale q ≠ recordSale r)
    (place : recordSale r ∈ s.jnu.reservations ∨ s.jnu.places < 64) :
    s.takeRecord r = (s.setJnu (s.jnu.append r)).raise .journal := by
  have unheld : ¬ s.jnu.holds (recordSale r) = true := by simpa [Jnu.holds_iff] using new
  exact (if_neg unheld).trans (if_pos (by simpa using place))

theorem State.takeRecord_of_held (held : ∃ q ∈ s.jnu.journal, recordSale q = recordSale r) : s.takeRecord r = s :=
  if_pos (Jnu.holds_iff.2 held)

theorem State.takeRecord_of_full (unreserved : recordSale r ∉ s.jnu.reservations) (full : 64 ≤ s.jnu.places) :
    s.takeRecord r = s := by
  have noPlace : ¬ (s.jnu.reservations.contains (recordSale r) = true ∨ s.jnu.places < 64) := by
    simpa using ⟨unreserved, full⟩
  unfold State.takeRecord
  rw [if_neg noPlace, ite_self]

/-- The two commands that carry a record to the JNU are taken alike (R117). -/
theorem exec_of_record {c : Instr}
    (h : (∃ x, c = .saleRecord x ∧ r = .sale x) ∨ (∃ v, c = .timeoutVoidOrder v ∧ r = .timeoutVoid v)) :
    exec c s = .next ((s.accept c).takeRecord r).transmit := by
  obtain ⟨x, rfl, rfl⟩ | ⟨v, rfl, rfl⟩ := h <;> rfl

end

/-! ## JOURNAL_READ and JOURNAL_TAKE (R120) -/

section
variable {s : State} (h : HostTag)

theorem exec_journalRead_of_ready (ready : s.hlc.partState = .ready) :
    exec (.journalRead h (some ())) s = .next (State.journalRead h () (s.accept (.journalRead h (some ())))).transmit :=
  State.serveWith_act _ h .none _ () (by simp [ready, readyOnly])

theorem exec_journalTake_of_ready (sale : Nat) (ready : s.hlc.partState = .ready) :
    exec (.journalTake h (some sale)) s =
      .next (State.journalTake h sale (s.accept (.journalTake h (some sale)))).transmit :=
  State.serveWith_act _ h .none _ sale (by simp [ready, readyOnly])

theorem State.journalRead_of_empty (empty : s.jnu.journal = []) : State.journalRead h () s = s.replyHost h .empty .none := by
  simp only [State.journalRead, empty]

theorem State.journalRead_of_oldest {r : JournalRecord} {rest : List JournalRecord} (oldest : s.jnu.journal = r :: rest) :
    State.journalRead h () s = s.replyHost h .ok (.journal r (rest.length + 1) s.jnu.reservations.length) := by
  simp only [State.journalRead, oldest, List.length_cons]

theorem State.journalTake_of_empty (sale : Nat) (empty : s.jnu.journal = []) :
    State.journalTake h sale s = s.replyHost h .empty .none := by
  simp only [State.journalTake, empty]

theorem State.journalTake_of_other {sale : Nat} {r : JournalRecord} {rest : List JournalRecord}
    (oldest : s.jnu.journal = r :: rest) (other : recordSale r ≠ sale) :
    State.journalTake h sale s = s.replyHost h .notOldest (.oldest (recordSale r)) := by
  simp only [State.journalTake, oldest, if_neg other]

theorem State.journalTake_of_named {sale : Nat} {r : JournalRecord} {rest : List JournalRecord}
    (oldest : s.jnu.journal = r :: rest) (named : recordSale r = sale) :
    State.journalTake h sale s =
      (s.setJnu { s.jnu with journal := rest }).raiseIfRecords.replyHost h .ok (.left rest.length) := by
  simp only [State.journalTake, oldest, if_pos named]

end

/-! ## What replacing the JNU leaves, with JOURNAL raised or raised where records remain -/

theorem State.setJnu_raise_kept (s : State) (c : Instr) (j : Jnu) :
    keptBut [.jnu, .hlc, .orders] s (((s.accept c).setJnu j).raise .journal) :=
  ((s.accept_kept c (by simp)).trans (State.setJnu_kept _ j (by simp))).trans (State.raise_kept _ .journal (by simp))

/-- What JOURNAL_TAKE leaves before its reply. -/
theorem State.setJnu_raiseIfRecords (s : State) (c : Instr) (j : Jnu) :
    let u := ((s.accept c).setJnu j).raiseIfRecords
    u.jnu = j ∧ (j.journal ≠ [] → u.hlc.conditions.raised .journal = true) ∧ hlcKept s u ∧
      u.orders = s.orders.erase c ∧ keptBut [.jnu, .hlc, .orders] s u := by
  by_cases empty : j.journal = []
  · rw [State.raiseIfRecords_of_empty (s := (s.accept c).setJnu j) empty]
    exact ⟨rfl, absurd empty, rfl, rfl, (s.accept_kept c (by simp)).trans (State.setJnu_kept _ j (by simp))⟩
  · rw [State.raiseIfRecords_of_records (s := (s.accept c).setJnu j) empty]
    exact ⟨rfl, fun _ => State.raise_raised _ _, State.raise_hlcKept _ _, rfl, s.setJnu_raise_kept c j⟩

/-! ## The statement -/

/-- Settles O47: a record goes by whether the journal holds its number and whether it finds a place, and the host's two requests by
whether there is an oldest record and whether JOURNAL_TAKE names it. -/
theorem journalKeepsRecordsUntilTaken : Obligations.JournalKeepsRecordsUntilTaken := by
  refine ⟨fun s c r carries => ⟨fun new place => ?_, fun refused => ?_⟩, fun h sale s ready => ⟨fun empty => ?_, ?_⟩⟩
  · have taken : (s.accept c).takeRecord r = ((s.accept c).setJnu (s.jnu.append r)).raise .journal :=
      State.takeRecord_of_new (s := s.accept c) new place
    refine ⟨((s.accept c).setJnu (s.jnu.append r)).raise .journal, ?_, rfl, State.raise_raised _ _, State.raise_hlcKept _ _, rfl,
      s.setJnu_raise_kept c _⟩
    rw [exec_of_record carries, taken]
  · have discarded : (s.accept c).takeRecord r = s.accept c := by
      obtain held | ⟨unreserved, full⟩ := refused
      · exact State.takeRecord_of_held (s := s.accept c) held
      · exact State.takeRecord_of_full (s := s.accept c) unreserved full
    rw [exec_of_record carries, discarded]
  · constructor
    · rw [exec_journalRead_of_ready h ready, State.journalRead_of_empty h (s := s.accept _) empty]
    · rw [exec_journalTake_of_ready h sale ready, State.journalTake_of_empty h sale (s := s.accept _) empty]
  · intro r rest oldest
    refine ⟨?_, fun other => ?_, fun named => ⟨_, ?_, s.setJnu_raiseIfRecords (.journalTake h (some sale)) _⟩⟩
    · rw [exec_journalRead_of_ready h ready, State.journalRead_of_oldest h (s := s.accept _) oldest, State.accept_jnu]
    · rw [exec_journalTake_of_ready h sale ready, State.journalTake_of_other h (s := s.accept _) oldest other]
    · rw [exec_journalTake_of_ready h sale ready, State.journalTake_of_named h (s := s.accept _) oldest named, State.accept_jnu]

end Sys2Proof.Machine
end

section
/-! What lookups find in the voucher table and what its updates leave: shared by the proofs about vouchers (R131 to R145). -/

namespace Sys2Proof.Machine

variable {v : Vcu} {n : Nat}

/-! ## Entries (R131, R141, R144) -/

theorem Vcu.find_eq_none (absent : ∀ e ∈ v.used, e.serial ≠ n) : v.find n = none := by
  simpa [Vcu.find] using absent

theorem Vcu.setState_eq (st : VoucherState) :
    v.setState n st = { v with used := v.used.map fun x => if x.serial = n then { x with state := st } else x } := by
  simp only [Vcu.setState, beq_iff_eq]

/-! ## Reservations (R135, R145) -/

theorem Vcu.unreserve_of_first {xs ys : List VoucherReservation} {r : VoucherReservation}
    (split : v.reservations = xs ++ r :: ys) (before : ∀ x ∈ xs, x.first ≠ n) (named : r.first = n) :
    v.unreserve n = { v with reservations := xs ++ ys } := by
  have passed : ∀ x ∈ xs, ¬ (x.first == n) = true := by simpa using before
  have hit : (r.first == n) = true := by simpa using named
  rw [Vcu.unreserve, split, List.eraseP_append_right _ passed, List.eraseP_cons, hit, cond_true]

theorem Vcu.unreserve_of_absent (absent : ∀ x ∈ v.reservations, x.first ≠ n) : v.unreserve n = v := by
  have passed : ∀ x ∈ v.reservations, ¬ (x.first == n) = true := by simpa using absent
  rw [Vcu.unreserve, List.eraseP_of_forall_not passed]

theorem Vcu.reservationOf_eq_none (apart : ∀ r ∈ v.reservations, n < r.first ∨ r.first + r.count ≤ n) :
    v.reservationOf n = none := by
  have outside : ∀ r ∈ v.reservations, r.first ≤ n → r.first + r.count ≤ n := fun r mem low => by
    have := apart r mem
    omega
  simpa [Vcu.reservationOf] using outside

/-- The search finds some run that holds the serial, and no run but `r` does. -/
theorem Vcu.reservationOf_eq_some {r : VoucherReservation} (mem : r ∈ v.reservations) (low : r.first ≤ n)
    (high : n < r.first + r.count)
    (only : ∀ q ∈ v.reservations, q.first ≤ n → n < q.first + q.count → q = r) : v.reservationOf n = some r := by
  cases found : v.reservationOf n with
  | none =>
    have outside : ∀ q ∈ v.reservations, q.first ≤ n → q.first + q.count ≤ n := by
      simpa [Vcu.reservationOf] using found
    exact absurd (outside r mem low) (by omega)
  | some q =>
    obtain ⟨qLow, qHigh⟩ : q.first ≤ n ∧ n < q.first + q.count := by simpa using List.find?_some found
    rw [only q (List.mem_of_find?_eq_some found) qLow qHigh]

/-! ## The guard mark (R134) -/

theorem Vcu.guarded_iff {last : Nat} :
    v.guarded last = true ↔ v.guardOn = true ∧ ∀ m, v.guardMark = some m → m ≤ last := by
  cases mark : v.guardMark with
  | none => simp [Vcu.guarded, mark]
  | some m => simp [Vcu.guarded, mark]

end Sys2Proof.Machine
end

section
/-! Voucher grant requests, returns and the controller's orders (R132 to R135). -/

namespace Sys2Proof.Machine

/-! ## The checks of a grant request, in their order (R134) -/

section
variable {s : State} {d : Drop} {ref k n : Nat}

theorem State.voucherGrant_full (full : 1024 < s.vcu.places + k) :
    s.voucherGrant d ref k = s.send [.reservationRefusal d ref .voucher .vouchersFull] := if_pos full

theorem State.voucherGrant_counterEnd (room : s.vcu.places + k ≤ 1024) (counter : s.vcu.counter = some n)
    (past : 100000000 < n + k) : s.voucherGrant d ref k = s.send [.reservationRefusal d ref .voucher .counterEnd] := by
  have beyond : 99999999 < n + k - 1 := by omega
  simp only [State.voucherGrant, if_neg (Nat.not_lt.2 room), counter, if_pos beyond]

theorem State.voucherGrant_counterLimit (room : s.vcu.places + k ≤ 1024) (counter : s.vcu.counter = some n)
    (left : n + k ≤ 100000000) (guard : s.vcu.guarded (n + k - 1) = true) :
    s.voucherGrant d ref k = s.send [.reservationRefusal d ref .voucher .counterLimit] := by
  have within : ¬ 99999999 < n + k - 1 := by omega
  simp only [State.voucherGrant, if_neg (Nat.not_lt.2 room), counter, if_neg within, if_pos guard]

theorem State.voucherGrant_granted (room : s.vcu.places + k ≤ 1024) (counter : s.vcu.counter = some n)
    (left : n + k ≤ 100000000) (free : ¬ s.vcu.guarded (n + k - 1) = true) :
    s.voucherGrant d ref k =
      (s.setVcu { s.vcu with
          counter := some (n + k)
          reservations := s.vcu.reservations ++ [{ drop := d, first := n, count := k }] }).send
        [.reservationGrant d ref (.voucher n k), .voucherCounterReport (n + k)] := by
  have within : ¬ 99999999 < n + k - 1 := by omega
  simp only [State.voucherGrant, if_neg (Nat.not_lt.2 room), counter, if_neg within, if_neg free]

theorem exec_voucherGrantRequest {t : State}
    (act : (s.accept (.voucherGrantRequest d ref k)).voucherGrant d ref k = t) :
    exec (.voucherGrantRequest d ref k) s = .next t := congrArg Host.Outcome.next act

end

/-! ## The statement -/

/-- Settles O50: a grant request goes by the room, the serials left and the guard, a return by whether some reservation has that
first serial. -/
theorem voucherGrantsRuns : Obligations.VoucherGrantsRuns := by
  refine ⟨fun d ref k n s asked counter => ?_, fun first k s => ?_, fun n m s => ⟨rfl, rfl, rfl⟩⟩
  · refine ⟨fun full => ?_, fun room => ⟨fun past => ?_, fun left on below => ?_, fun left permit => ?_⟩⟩
    · exact exec_voucherGrantRequest (State.voucherGrant_full full)
    · exact exec_voucherGrantRequest (State.voucherGrant_counterEnd room counter past)
    · have guard : s.vcu.guarded (n + k - 1) = true :=
        Vcu.guarded_iff.2 ⟨on, fun m mark => Nat.le_pred_of_lt (below m mark)⟩
      exact exec_voucherGrantRequest (State.voucherGrant_counterLimit room counter left guard)
    · have free : ¬ s.vcu.guarded (n + k - 1) = true := by
        rw [Vcu.guarded_iff]
        rintro ⟨on, below⟩
        obtain off | ⟨m, mark, above⟩ := permit
        · simp [off] at on
        · have := below m mark
          omega
      exact exec_voucherGrantRequest (State.voucherGrant_granted room counter left free)
  · have kept : keptBut [.vcu, .orders] s ((s.accept (.voucherReturn first k)).setVcu (s.vcu.unreserve first)) :=
      (s.accept_kept _ (by simp)).trans (State.setVcu_kept _ _ (by simp))
    exact ⟨_, rfl, rfl, rfl,
      fun xs ys r split before named => congrArg Vcu.reservations (Vcu.unreserve_of_first split before named),
      Vcu.unreserve_of_absent, rfl, kept⟩

end Sys2Proof.Machine
end

section
/-! REDEEM and CHECK at a counter drop (R138 to R142). -/

namespace Sys2Proof.Machine

/-! ## The judgement of a code (R140) -/

section
variable {now : SiteTime} {e : VoucherEntry}

theorem judgeEntry_voided (st : e.state = .voided) : judgeEntry now e = .failed .void (.entry e.item e.screening) := by
  simp only [judgeEntry, st]

theorem judgeEntry_redeemed {w : SiteTime} {k : Drop} (st : e.state = .redeemed w k) :
    judgeEntry now e = .failed .already (.already e.item e.screening w k) := by
  simp only [judgeEntry, st]

theorem judgeEntry_expired (st : e.state = .issued) (late : siteSeconds e.validUntil < siteSeconds now) :
    judgeEntry now e = .failed .expired (.expired e.item e.screening e.validUntil) := by
  simp only [judgeEntry, st, if_pos late]

theorem judgeEntry_servable (st : e.state = .issued) (valid : siteSeconds now ≤ siteSeconds e.validUntil) :
    judgeEntry now e = .servable e := by
  simp only [judgeEntry, st, if_neg (Nat.not_lt.2 valid)]

variable {v : Vcu} {t : Text}

theorem Vcu.judge_badCode (bad : wellFormedCode t = false) : v.judge now t = .failed .badCode .none := by
  simp [Vcu.judge, bad]

theorem Vcu.judge_unknown (well : wellFormedCode t = true) (absent : ∀ e ∈ v.used, e.serial ≠ digitsValue (t.take 8)) :
    v.judge now t = .failed .unknown .none := by
  simp only [Vcu.judge, if_pos well, Vcu.find_eq_none absent]

theorem Vcu.judge_found (well : wellFormedCode t = true) (found : v.find (digitsValue (t.take 8)) = some e) :
    v.judge now t = judgeEntry now e := by
  simp only [Vcu.judge, if_pos well, found]

end

/-! ## The taking of a request (R139) and what follows each judgement (R141, R142) -/

section
variable {s : State} {d : Drop} {t : Text} {act : Text → State → State}

theorem State.counterRequest_wrongDrop (kind : (s.dropRec d).kind ≠ .counter) :
    s.counterRequest d (some t) act = s.replyDrop d (bareReply .wrongDrop) := if_pos kind

theorem State.counterRequest_act (kind : (s.dropRec d).kind = .counter) (ready : s.hlc.partState = .ready) :
    s.counterRequest d (some t) act = act t s := by
  simp only [State.counterRequest, kind, ready, ne_eq, not_true_eq_false, if_false]

theorem exec_redeem_of_counter (kind : (s.dropRec d).kind = .counter) (ready : s.hlc.partState = .ready) :
    exec (.redeem d (some t)) s = .next (State.redeem d t (s.accept (.redeem d (some t)))) :=
  congrArg Host.Outcome.next (State.counterRequest_act (s := s.accept (.redeem d (some t))) kind ready)

theorem exec_check_of_counter (kind : (s.dropRec d).kind = .counter) (ready : s.hlc.partState = .ready) :
    exec (.check d (some t)) s = .next (State.check d t (s.accept (.check d (some t)))) :=
  congrArg Host.Outcome.next (State.counterRequest_act (s := s.accept (.check d (some t))) kind ready)

section
variable {c : Code} {x : VoucherDetail} (failed : s.vcu.judge s.hlc.clock t = .failed c x)
include failed

theorem State.redeem_failed : State.redeem d t s = s.voucherReply d c t x := by simp only [State.redeem, failed]

theorem State.check_failed : State.check d t s = s.voucherReply d c t x := by simp only [State.check, failed]

/-- A code that fails the judgement gets the same reply from both requests. -/
theorem exec_redeem_check_failed (kind : (s.dropRec d).kind = .counter) (ready : s.hlc.partState = .ready) :
    exec (.redeem d (some t)) s = .next ((s.accept (.redeem d (some t))).voucherReply d c t x) ∧
      exec (.check d (some t)) s = .next ((s.accept (.check d (some t))).voucherReply d c t x) := by
  constructor
  · rw [exec_redeem_of_counter kind ready, State.redeem_failed (s := s.accept _) failed]
  · rw [exec_check_of_counter kind ready, State.check_failed (s := s.accept _) failed]

end

section
variable {e : VoucherEntry} (servable : s.vcu.judge s.hlc.clock t = .servable e)
include servable

theorem State.redeem_servable :
    State.redeem d t s =
      (s.setVcu { s.vcu with used := s.vcu.used.map fun x =>
        if x.serial = e.serial then { x with state := .redeemed s.hlc.clock d } else x }).voucherReply d .redeemed t
          (.served e.item e.screening e.serial e.sale) := by
  simp only [State.redeem, servable, Vcu.setState_eq]

theorem State.check_servable :
    State.check d t s = s.voucherReply d .valid t (.servable e.item e.screening e.serial e.sale e.validUntil) := by
  simp only [State.check, servable]

end
end

/-! ## The statement -/

/-- Settles O52: both requests act by the one judgement, which is named case by case. -/
theorem redeemAndCheckJudgeAlike : Obligations.RedeemAndCheckJudgeAlike := by
  refine fun d t s => ⟨fun kind => ⟨?_, ?_⟩, fun kind ready =>
    ⟨fun c x judged => ?_, fun e well found => ⟨fun c x judged => ?_, fun issued valid => ?_⟩⟩⟩
  · exact congrArg Host.Outcome.next (State.counterRequest_wrongDrop (s := s.accept (.redeem d (some t))) kind)
  · exact congrArg Host.Outcome.next (State.counterRequest_wrongDrop (s := s.accept (.check d (some t))) kind)
  · refine exec_redeem_check_failed ?_ kind ready
    obtain ⟨bad, rfl, rfl⟩ | ⟨well, absent, rfl, rfl⟩ := judged
    · exact Vcu.judge_badCode bad
    · exact Vcu.judge_unknown well absent
  · refine exec_redeem_check_failed ((Vcu.judge_found well found).trans ?_) kind ready
    obtain ⟨st, rfl, rfl⟩ | ⟨w, k, st, rfl, rfl⟩ | ⟨st, late, rfl, rfl⟩ := judged
    · exact judgeEntry_voided st
    · exact judgeEntry_redeemed st
    · exact judgeEntry_expired st late
  · have servable : s.vcu.judge s.hlc.clock t = .servable e :=
      (Vcu.judge_found well found).trans (judgeEntry_servable issued valid)
    constructor
    · rw [exec_redeem_of_counter kind ready, State.redeem_servable (s := s.accept _) servable, State.accept_vcu, State.accept_hlc]
    · rw [exec_check_of_counter kind ready, State.check_servable (s := s.accept _) servable]

end Sys2Proof.Machine
end

section
/-! VOUCHER_VOID and VOUCHER_QUERY (R144, R145). -/

namespace Sys2Proof.Machine

theorem serialOk_iff {n : Nat} : serialOk n = true ↔ 1 ≤ n ∧ n ≤ 99999999 := by
  simp [serialOk]

section
variable {s : State} {n : Nat} (h : HostTag)

theorem exec_voucherVoid_of_ready {u : State} (ready : s.hlc.partState = .ready)
    (act : State.voucherVoid h n (s.accept (.voucherVoid h (some n))) = u) :
    exec (.voucherVoid h (some n)) s = .next u.transmit :=
  (State.serveWith_act _ h .none _ n (by simp [ready, readyOnly])).trans (congrArg State.done act)

theorem exec_voucherQuery_of_ready {u : State} (ready : s.hlc.partState = .ready)
    (act : State.voucherQuery h n (s.accept (.voucherQuery h (some n))) = u) :
    exec (.voucherQuery h (some n)) s = .next u.transmit :=
  (State.serveWith_act _ h .none _ n (by simp [ready, readyOnly])).trans (congrArg State.done act)

theorem State.voucherVoid_badValue (out : ¬ serialOk n = true) : State.voucherVoid h n s = s.replyHost h .badValue .none :=
  if_neg out

theorem State.voucherQuery_badValue (out : ¬ serialOk n = true) : State.voucherQuery h n s = s.replyHost h .badValue .none :=
  if_neg out

section
variable (ok : serialOk n = true)
include ok

theorem State.voucherVoid_unknown (absent : s.vcu.find n = none) :
    State.voucherVoid h n s = s.replyHost h .unknown .none := by
  simp only [State.voucherVoid, if_pos ok, absent]

theorem State.voucherVoid_issued {e : VoucherEntry} (found : s.vcu.find n = some e) (issued : e.state = .issued) :
    State.voucherVoid h n s =
      (s.setVcu { s.vcu with used := s.vcu.used.map fun x =>
        if x.serial = n then { x with state := .voided } else x }).replyHost h .ok (.voucher { e with state := .voided }) := by
  simp only [State.voucherVoid, if_pos ok, found, issued, Vcu.setState_eq]

theorem State.voucherVoid_notIssued {e : VoucherEntry} (found : s.vcu.find n = some e) (other : e.state ≠ .issued) :
    State.voucherVoid h n s = s.replyHost h .notIssued (.voucher e) := by
  cases st : e.state with
  | issued => exact absurd st other
  | redeemed w k => simp only [State.voucherVoid, if_pos ok, found, st]
  | voided => simp only [State.voucherVoid, if_pos ok, found, st]

theorem State.voucherQuery_found {e : VoucherEntry} (found : s.vcu.find n = some e) :
    State.voucherQuery h n s = s.replyHost h .ok (.voucher e) := by
  simp only [State.voucherQuery, if_pos ok, found]

theorem State.voucherQuery_reserved {r : VoucherReservation} (absent : s.vcu.find n = none)
    (run : s.vcu.reservationOf n = some r) : State.voucherQuery h n s = s.replyHost h .reserved (.reservation r) := by
  simp only [State.voucherQuery, if_pos ok, absent, run]

theorem State.voucherQuery_unknown (absent : s.vcu.find n = none) (noRun : s.vcu.reservationOf n = none) :
    State.voucherQuery h n s = s.replyHost h .unknown .none := by
  simp only [State.voucherQuery, if_pos ok, absent, noRun]

end
end

/-! ## The statement -/

/-- Settles O53: both requests go by the serial's range and by what the table holds of it: an entry, a reservation's run, or
nothing. -/
theorem hostVoidsAndQueriesVouchers : Obligations.HostVoidsAndQueriesVouchers := by
  refine fun h n s ready => ⟨fun range => ?_, fun low high => ?_⟩
  · have out : ¬ serialOk n = true := by rw [serialOk_iff]; omega
    exact ⟨exec_voucherVoid_of_ready h ready (State.voucherVoid_badValue h out),
      exec_voucherQuery_of_ready h ready (State.voucherQuery_badValue h out)⟩
  · have ok : serialOk n = true := serialOk_iff.2 ⟨low, high⟩
    refine ⟨fun e found => ⟨?_, fun issued => ?_, fun other => ?_⟩, fun unused => ?_⟩
    · exact exec_voucherQuery_of_ready h ready (State.voucherQuery_found h ok found)
    · exact exec_voucherVoid_of_ready h ready (State.voucherVoid_issued h ok found issued)
    · exact exec_voucherVoid_of_ready h ready (State.voucherVoid_notIssued h ok found other)
    · have absent : s.vcu.find n = none := Vcu.find_eq_none unused
      refine ⟨?_, fun apart => ?_, fun r mem first last only => ?_⟩
      · exact exec_voucherVoid_of_ready h ready (State.voucherVoid_unknown h ok absent)
      · have noRun : s.vcu.reservationOf n = none := Vcu.reservationOf_eq_none apart
        exact exec_voucherQuery_of_ready h ready (State.voucherQuery_unknown h ok absent noRun)
      · have run : s.vcu.reservationOf n = some r := Vcu.reservationOf_eq_some mem first last only
        exact exec_voucherQuery_of_ready h ready (State.voucherQuery_reserved h ok absent run)

end Sys2Proof.Machine
end

section
/-! Emptying and moving print queues: what `emptyQueue`, `backlogTest`, `feed` and `moveQueue` write and what they leave, and the
host's PRINT_REDIRECT and PRINT_FLUSH (R154, R160 to R162). -/

namespace Sys2Proof.Machine

section
variable (s : State) (d : Drop)

theorem State.isKiosk_iff : s.isKiosk d = true ↔ (s.dropRec d).kind = .kiosk := by simp [State.isKiosk]

@[simp] theorem State.setQueue_slot (q : List PrintItem) (e : Drop) (j : SlotId) : (s.setQueue d q).slot e j = s.slot e j := rfl

@[simp] theorem State.setQueue_reservations (q : List PrintItem) : (s.setQueue d q).pru.reservations = s.pru.reservations := rfl

@[simp] theorem State.setQueue_backlog (q : List PrintItem) : (s.setQueue d q).pru.backlog = s.pru.backlog := rfl

@[simp] theorem State.withdraw_slot_same (j : SlotId) : (s.withdraw d j).slot d j = none := by
  simp [State.slot, State.withdraw_dropRec, DropRecord.setSlot]

theorem State.withdraw_slotsKeptBut (j : SlotId) : slotsKeptBut d s (s.withdraw d j) := by
  refine ⟨fun e he => ?_, ?_, rfl, rfl⟩
  · rw [State.withdraw_dropRec, if_neg he]
  · rw [State.withdraw_dropRec, if_pos rfl]; rfl

/-! ## Emptying a queue (R160, R161) -/

/-- A printer whose queue loses all its items. -/
def Printer.emptied (p : Printer) : Printer :=
  { p with state := if p.state = .busy then .ready else p.state, headSent := false, retries := 0 }

theorem Printer.emptied_state_of_busy {p : Printer} (busy : p.state = .busy) : p.emptied.state = .ready := if_pos busy

theorem Printer.emptied_state_of_notBusy {p : Printer} (other : p.state ≠ .busy) : p.emptied.state = p.state := if_neg other

theorem State.emptyQueue_eq :
    s.emptyQueue d =
      let t := (s.setQueue d []).setPrinter d (s.printer d).emptied
      if (s.printer d).state = .busy then t.withdraw d .print else t := by
  unfold State.emptyQueue
  generalize s.printer d = p
  obtain ⟨state, -, -, -⟩ := p
  cases state <;> rfl

theorem State.emptyQueue_pru :
    (s.emptyQueue d).pru = ((s.setQueue d []).setPrinter d (s.printer d).emptied).pru := by
  rw [State.emptyQueue_eq]; split <;> rfl

@[simp] theorem State.emptyQueue_hlc : (s.emptyQueue d).hlc = s.hlc :=
  s.emptyQueue_kept (L := [.pru, .klc]) d (by simp) (by simp) .hlc (by simp)

@[simp] theorem State.emptyQueue_orders : (s.emptyQueue d).orders = s.orders :=
  s.emptyQueue_kept (L := [.pru, .klc]) d (by simp) (by simp) .orders (by simp)

@[simp] theorem State.emptyQueue_reservations : (s.emptyQueue d).pru.reservations = s.pru.reservations := by
  rw [State.emptyQueue_pru]; rfl

@[simp] theorem State.emptyQueue_printLater : (s.emptyQueue d).pru.printLater = s.pru.printLater := by
  rw [State.emptyQueue_pru]; rfl

@[simp] theorem State.emptyQueue_backlog : (s.emptyQueue d).pru.backlog = s.pru.backlog := by
  rw [State.emptyQueue_pru]; rfl

theorem State.emptyQueue_queue (e : Drop) : (s.emptyQueue d).queue e = if e = d then [] else s.queue e :=
  (congrArg (fun p : Pru => vget p.queues e) (s.emptyQueue_pru d)).trans (s.setQueue_queue d [] e)

theorem State.emptyQueue_printer (e : Drop) :
    (s.emptyQueue d).printer e = if e = d then (s.printer d).emptied else s.printer e :=
  (congrArg (fun p : Pru => vget p.printers e) (s.emptyQueue_pru d)).trans (s.setPrinter_printer d (s.printer d).emptied e)

theorem State.emptyQueue_queue_same : (s.emptyQueue d).queue d = [] := (s.emptyQueue_queue d d).trans (if_pos rfl)

theorem State.emptyQueue_printer_same : (s.emptyQueue d).printer d = (s.printer d).emptied :=
  (s.emptyQueue_printer d d).trans (if_pos rfl)

theorem State.emptyQueue_slot_of_busy (busy : (s.printer d).state = .busy) : (s.emptyQueue d).slot d .print = none := by
  rw [State.emptyQueue_eq]
  exact (congrArg (State.slot · d .print) (if_pos busy)).trans (State.withdraw_slot_same _ d .print)

theorem State.emptyQueue_slotsKeptBut : slotsKeptBut d s (s.emptyQueue d) := by
  rw [State.emptyQueue_eq]
  by_cases busy : (s.printer d).state = .busy
  · simp only [if_pos busy]
    exact State.withdraw_slotsKeptBut ((s.setQueue d []).setPrinter d (s.printer d).emptied) d .print
  · simp only [if_neg busy]
    exact ⟨fun _ _ => rfl, rfl, rfl, rfl⟩

theorem State.emptyQueue_frame : printerFrame d s (s.emptyQueue d) := by
  refine ⟨fun e he => ⟨?_, ?_⟩, s.emptyQueue_slotsKeptBut d, ?_, s.emptyQueue_kept d (by simp) (by simp), by simp, by simp⟩
  · rw [State.emptyQueue_printer, if_neg he]
  · rw [State.emptyQueue_queue, if_neg he]
  · rw [hlcKept, State.emptyQueue_hlc]

/-! ## The backlog test (R162) -/

section
variable (before : Nat)

@[simp] theorem State.backlogTest_pru : (s.backlogTest d before).pru = s.pru :=
  s.backlogTest_kept (L := [.hlc]) d before (by simp) .pru (by simp)

@[simp] theorem State.backlogTest_klc : (s.backlogTest d before).klc = s.klc :=
  s.backlogTest_kept (L := [.hlc]) d before (by simp) .klc (by simp)

@[simp] theorem State.backlogTest_orders : (s.backlogTest d before).orders = s.orders :=
  s.backlogTest_kept (L := [.hlc]) d before (by simp) .orders (by simp)

@[simp] theorem State.backlogTest_queue (e : Drop) : (s.backlogTest d before).queue e = s.queue e :=
  congrArg (fun p : Pru => vget p.queues e) (s.backlogTest_pru d before)

@[simp] theorem State.backlogTest_printer (e : Drop) : (s.backlogTest d before).printer e = s.printer e :=
  congrArg (fun p : Pru => vget p.printers e) (s.backlogTest_pru d before)

@[simp] theorem State.backlogTest_slot (e : Drop) (j : SlotId) : (s.backlogTest d before).slot e j = s.slot e j :=
  congrArg (fun k : Klc => vget (vget k.drops e).slots (slotIndex j)) (s.backlogTest_klc d before)

theorem State.backlogTest_raised {s : State} {d : Drop} {before : Nat} (below : before < s.pru.backlog)
    (reached : s.pru.backlog ≤ (s.queue d).length) : (s.backlogTest d before).hlc.conditions.raised .printer = true := by
  rw [State.backlogTest, if_pos ⟨below, reached⟩, State.raise_raised]

end

/-! ## Feeding (R154) -/

theorem State.feed_of_ready {s : State} {d : Drop} {i : PrintItem} {rest : List PrintItem}
    (ready : (s.printer d).state = .ready) (head : s.queue d = i :: rest) :
    s.feed d = (s.setPrinter d { s.printer d with state := .busy, headSent := true }).place d .print (.print i) := by
  simp only [State.feed, ready, head]

theorem State.feed_of_notReady {s : State} {d : Drop} (other : (s.printer d).state ≠ .ready) : s.feed d = s := by
  cases e : (s.printer d).state with
  | ready => exact absurd e other
  | _ => simp only [State.feed, e]

theorem State.feed_of_empty {s : State} {d : Drop} (empty : s.queue d = []) : s.feed d = s := by
  cases e : (s.printer d).state <;> simp only [State.feed, e, empty]

/-- Feeding sends the head item of a READY printer or does nothing. -/
theorem State.feed_cases :
    (∃ i, s.feed d = (s.setPrinter d { s.printer d with state := .busy, headSent := true }).place d .print (.print i)) ∨
      s.feed d = s := by
  by_cases ready : (s.printer d).state = .ready
  · cases queue : s.queue d with
    | nil => exact .inr (State.feed_of_empty queue)
    | cons i rest => exact .inl ⟨i, State.feed_of_ready ready queue⟩
  · exact .inr (State.feed_of_notReady ready)

@[simp] theorem State.feed_hlc : (s.feed d).hlc = s.hlc :=
  s.feed_kept (L := [.pru, .klc]) d (by simp) (by simp) .hlc (by simp)

@[simp] theorem State.feed_orders : (s.feed d).orders = s.orders :=
  s.feed_kept (L := [.pru, .klc]) d (by simp) (by simp) .orders (by simp)

@[simp] theorem State.feed_reservations : (s.feed d).pru.reservations = s.pru.reservations := by
  obtain ⟨i, fed⟩ | same := s.feed_cases d
  · rw [fed]; rfl
  · rw [same]

@[simp] theorem State.feed_queue (e : Drop) : (s.feed d).queue e = s.queue e := by
  obtain ⟨i, fed⟩ | same := s.feed_cases d
  · rw [fed]; rfl
  · rw [same]

theorem State.feed_printer_ne {e : Drop} (other : e ≠ d) : (s.feed d).printer e = s.printer e := by
  obtain ⟨i, fed⟩ | same := s.feed_cases d
  · rw [fed, State.place_printer, State.setPrinter_printer_ne _ _ _ other]
  · rw [same]

theorem State.feed_slot_ne {e : Drop} (other : e ≠ d) (j : SlotId) : (s.feed d).slot e j = s.slot e j := by
  obtain ⟨i, fed⟩ | same := s.feed_cases d
  · rw [fed, State.slot, State.place_dropRec, if_neg other]; rfl
  · rw [same]

end

/-! ## Moving a queue (R160) -/

section
variable (s : State) (a b : Drop)

theorem State.moveQueue_kept : keptBut [.pru, .klc, .hlc, .orders] s (s.moveQueue a b) :=
  ((s.emptyQueue_kept a (by simp) (by simp)).trans (State.setQueue_kept _ _ _ (by simp))).trans
    ((State.backlogTest_kept _ _ _ (by simp)).trans (State.feed_kept _ _ (by simp) (by simp)))

theorem State.moveQueue_orders : (s.moveQueue a b).orders = s.orders := by simp [State.moveQueue]

theorem State.moveQueue_reservations : (s.moveQueue a b).pru.reservations = s.pru.reservations := by
  simp [State.moveQueue]

theorem State.moveQueue_queue_target : (s.moveQueue a b).queue b = s.queue b ++ s.queue a := by
  simp [State.moveQueue]

theorem State.moveQueue_queue_ne {e : Drop} (other : e ≠ b) : (s.moveQueue a b).queue e = (s.emptyQueue a).queue e := by
  simp [State.moveQueue, State.setQueue_queue_ne _ _ _ other]

theorem State.moveQueue_printer_ne {e : Drop} (other : e ≠ b) :
    (s.moveQueue a b).printer e = (s.emptyQueue a).printer e := by
  simp [State.moveQueue, State.feed_printer_ne _ _ other]

theorem State.moveQueue_raised (below : (s.queue b).length < s.pru.backlog)
    (reached : s.pru.backlog ≤ (s.queue b).length + (s.queue a).length) :
    (s.moveQueue a b).hlc.conditions.raised .printer = true := by
  rw [State.moveQueue, State.feed_hlc]
  apply State.backlogTest_raised
  · simpa using below
  · simpa using reached

variable {a b}

/-- A move writes the queues and printers of its two drops alone. -/
theorem State.moveQueue_others {e : Drop} (notSource : e ≠ a) (notTarget : e ≠ b) :
    (s.moveQueue a b).queue e = s.queue e ∧ (s.moveQueue a b).printer e = s.printer e := by
  rw [State.moveQueue_queue_ne s a b notTarget, State.moveQueue_printer_ne s a b notTarget, State.emptyQueue_queue,
    State.emptyQueue_printer, if_neg notSource, if_neg notSource]
  exact ⟨rfl, rfl⟩

variable (apart : a ≠ b)
include apart

theorem State.moveQueue_queue_source : (s.moveQueue a b).queue a = [] :=
  (s.moveQueue_queue_ne a b apart).trans (s.emptyQueue_queue_same a)

theorem State.moveQueue_printer_source : (s.moveQueue a b).printer a = (s.printer a).emptied :=
  (s.moveQueue_printer_ne a b apart).trans (s.emptyQueue_printer_same a)

theorem State.moveQueue_slot_of_busy (busy : (s.printer a).state = .busy) : (s.moveQueue a b).slot a .print = none := by
  rw [State.moveQueue, State.feed_slot_ne _ _ apart, State.backlogTest_slot, State.setQueue_slot, s.emptyQueue_slot_of_busy a busy]

/-- Emptying the source and appending to the target leave the target's printer to the feeding test. -/
theorem State.moveQueue_printer_beforeFeed (q : List PrintItem) (n : Nat) :
    (((s.emptyQueue a).setQueue b q).backlogTest b n).printer b = s.printer b := by
  simp [State.emptyQueue_printer, apart.symm]

theorem State.moveQueue_feeds {i : PrintItem} {rest : List PrintItem} (ready : (s.printer b).state = .ready)
    (head : s.queue b ++ s.queue a = i :: rest) :
    ((s.moveQueue a b).printer b).state = .busy ∧ (s.moveQueue a b).waits b .print (.print i) := by
  have fresh := (congrArg Printer.state
    (s.moveQueue_printer_beforeFeed apart (s.queue b ++ s.queue a) (s.queue b).length)).trans ready
  rw [State.moveQueue, State.feed_of_ready fresh (i := i) (rest := rest) (by simp [head])]
  exact ⟨by simp, State.place_slot_same _ b .print _⟩

theorem State.moveQueue_printer_of_notReady (other : (s.printer b).state ≠ .ready) :
    (s.moveQueue a b).printer b = s.printer b := by
  have unmoved := s.moveQueue_printer_beforeFeed apart (s.queue b ++ s.queue a) (s.queue b).length
  rw [State.moveQueue, State.feed_of_notReady (by rwa [unmoved]), unmoved]

end

/-! ## PRINT_REDIRECT (R160) -/

section
variable {s : State} (h : HostTag)

theorem exec_printRedirect_of_ready {r : PrintRedirectReq} {u : State} (ready : s.hlc.partState = .ready)
    (act : State.printRedirect h r (s.accept (.printRedirect h (some r))) = u) :
    exec (.printRedirect h (some r)) s = .next u.transmit :=
  (State.serveWith_act _ h .none _ r (by simp [ready, readyOnly])).trans (congrArg State.done act)

theorem State.printRedirect_badValue {r : PrintRedirectReq} (bad : 15 < r.source ∨ 15 < r.target ∨ r.source = r.target) :
    State.printRedirect h r s = s.replyHost h .badValue .none := by
  unfold State.printRedirect
  by_cases source : r.source < 16
  · by_cases target : r.target < 16
    · have alike : r.source = r.target := by omega
      rw [dif_pos source, dif_pos target, if_pos alike]
    · rw [dif_pos source, dif_neg target]
  · rw [dif_neg source]

section
variable {a b : Drop} (apart : a ≠ b)
include apart

/-- Past the range of its drops, a redirect goes by their kinds and then by the room at the target. -/
theorem State.printRedirect_apart :
    State.printRedirect h { source := a.val, target := b.val } s =
      if s.isKiosk a = false ∨ s.isKiosk b = false then s.replyHost h .wrongDrop .none
      else if 16 < s.queuePlaces b + (s.queue a).length then s.replyHost h .noRoom .none
      else (s.moveQueue a b).replyHost h .ok (.items (s.queue a).length) := by
  have values : ¬ a.val = b.val := fun e => apart (Fin.ext e)
  exact (dif_pos a.isLt).trans ((dif_pos b.isLt).trans (if_neg values))

theorem State.printRedirect_wrongDrop (kind : (s.dropRec a).kind ≠ .kiosk ∨ (s.dropRec b).kind ≠ .kiosk) :
    State.printRedirect h { source := a.val, target := b.val } s = s.replyHost h .wrongDrop .none := by
  rw [State.printRedirect_apart h apart, if_pos]
  simpa [← State.isKiosk_iff] using kind

variable (source : (s.dropRec a).kind = .kiosk) (target : (s.dropRec b).kind = .kiosk)
include source target

theorem State.printRedirect_noRoom (full : 16 < s.queuePlaces b + (s.queue a).length) :
    State.printRedirect h { source := a.val, target := b.val } s = s.replyHost h .noRoom .none := by
  rw [State.printRedirect_apart h apart, if_neg (by simp [State.isKiosk, source, target]), if_pos full]

theorem State.printRedirect_ok (room : s.queuePlaces b + (s.queue a).length ≤ 16) :
    State.printRedirect h { source := a.val, target := b.val } s =
      (s.moveQueue a b).replyHost h .ok (.items (s.queue a).length) := by
  rw [State.printRedirect_apart h apart, if_neg (by simp [State.isKiosk, source, target]), if_neg (Nat.not_lt.2 room)]

end

/-! ## PRINT_FLUSH (R161) -/

theorem exec_printFlush_of_ready {n : Nat} {u : State} (ready : s.hlc.partState = .ready)
    (act : State.printFlush h n (s.accept (.printFlush h (some n))) = u) :
    exec (.printFlush h (some n)) s = .next u.transmit :=
  (State.serveWith_act _ h .none _ n (by simp [ready, readyOnly])).trans (congrArg State.done act)

theorem State.printFlush_badValue {n : Nat} (bad : 15 < n) : State.printFlush h n s = s.replyHost h .badValue .none :=
  dif_neg (by omega)

theorem State.printFlush_wrongDrop {a : Drop} (kind : (s.dropRec a).kind ≠ .kiosk) :
    State.printFlush h a.val s = s.replyHost h .wrongDrop .none :=
  (dif_pos a.isLt).trans (if_neg (mt (s.isKiosk_iff a).1 kind))

theorem State.printFlush_ok {a : Drop} (kind : (s.dropRec a).kind = .kiosk) :
    State.printFlush h a.val s = (s.emptyQueue a).replyHost h .ok (.items (s.queue a).length) :=
  (dif_pos a.isLt).trans (if_pos ((s.isKiosk_iff a).2 kind))

end

/-! ## The statement -/

/-- Settles O56: a redirect goes by the range of its drops, their kinds and the room at the target, a flush by the range and the kind
of its drop; what either leaves is what `moveQueue` or `emptyQueue` writes. -/
theorem redirectAndFlushEmptyAQueue : Obligations.RedirectAndFlushEmptyAQueue := by
  refine ⟨fun h r s ready bad => ?_, fun h n s ready bad => ?_,
    fun h a b s ready => ⟨fun apart kind => ?_, fun kind => ?_, fun apart source target => ⟨fun full => ?_, fun room => ?_⟩,
      fun kind => ?_⟩⟩
  · exact exec_printRedirect_of_ready h ready (State.printRedirect_badValue h bad)
  · exact exec_printFlush_of_ready h ready (State.printFlush_badValue h bad)
  · exact exec_printRedirect_of_ready h ready (State.printRedirect_wrongDrop h apart kind)
  · exact exec_printFlush_of_ready h ready (State.printFlush_wrongDrop h kind)
  · exact exec_printRedirect_of_ready h ready (State.printRedirect_noRoom h apart source target full)
  · let t := s.accept (.printRedirect h (some { source := a.val, target := b.val }))
    have emptied := t.moveQueue_printer_source apart
    exact ⟨_, exec_printRedirect_of_ready h ready (State.printRedirect_ok h apart source target room),
      t.moveQueue_queue_source apart, t.moveQueue_queue_target a b,
      congrArg Printer.headSent emptied, congrArg Printer.retries emptied,
      fun busy => ⟨(congrArg Printer.state emptied).trans (Printer.emptied_state_of_busy busy),
        t.moveQueue_slot_of_busy apart busy⟩,
      fun other => (congrArg Printer.state emptied).trans (Printer.emptied_state_of_notBusy other),
      fun i rest => t.moveQueue_feeds apart, t.moveQueue_raised a b, t.moveQueue_printer_of_notReady apart,
      fun e notSource notTarget => t.moveQueue_others notSource notTarget,
      t.moveQueue_reservations a b, t.moveQueue_orders a b,
      (s.accept_kept _ (by simp)).trans (t.moveQueue_kept a b)⟩
  · let t := s.accept (.printFlush h (some a.val))
    have emptied := t.emptyQueue_printer_same a
    obtain ⟨printers, slots, hlc, kept, printLater, backlog⟩ := t.emptyQueue_frame a
    exact ⟨_, exec_printFlush_of_ready h ready (State.printFlush_ok h kind), t.emptyQueue_queue_same a,
      congrArg Printer.headSent emptied, congrArg Printer.retries emptied,
      fun busy => ⟨(congrArg Printer.state emptied).trans (Printer.emptied_state_of_busy busy),
        t.emptyQueue_slot_of_busy a busy⟩,
      fun other => (congrArg Printer.state emptied).trans (Printer.emptied_state_of_notBusy other),
      t.emptyQueue_hlc a, t.emptyQueue_reservations a, t.emptyQueue_orders a,
      printers, slots, hlc, (s.accept_kept _ (by simp)).trans kept, printLater, backlog⟩

end Sys2Proof.Machine
end

section
/-! What every command keeps: the parts it leaves alone and the laws of the blocks (R16, R23, R26, R83, R113, R131, R149, R165, R170,
R179). One relation collects them, so that the model is walked through once. -/

namespace Sys2Proof.Machine

/-- The laws of a block that held still hold; the match of held seats and lines goes with the laws it rests on. -/
def Block.lawsKept (s t : State) : Block → Prop
  | .sbu => (s.basketLaw → t.basketLaw) ∧ (s.seatLaw → t.seatLaw) ∧ (s.basketLaw → s.seatLaw → s.holdLaw → t.holdLaw)
  | .tdu => s.readerLaw → t.readerLaw
  | .jnu => s.journalLaw → t.journalLaw
  | .vcu => s.voucherLaw → t.voucherLaw
  | .pru => s.queueLaw → t.queueLaw
  | .klc => s.dropLaw → s.lineLaw → t.dropLaw ∧ t.lineLaw
  | .hlc => s.linkLaw → t.linkLaw
  | .fau | .orders | .priceAnswer | .pending => True

/-- From one state to the next only the listed parts change, and every law of the blocks that held still holds. -/
structure Keeps (L : List Block) (s t : State) : Prop where
  frame : keptBut L s t
  laws : ∀ b : Block, b.lawsKept s t

variable {L M N : List Block} {s t u : State} {b : Block}

/-- The laws of a block speak of nothing else. -/
theorem Block.lawsKept_of_same (h : b.same s t) : b.lawsKept s t := by
  cases b with
  | sbu =>
    have e : t.sbu = s.sbu := h
    unfold Block.lawsKept State.basketLaw State.seatLaw State.holdLaw State.numbersDistinct State.screening State.layout State.basket
    rw [e]
    exact ⟨id, id, fun _ _ => id⟩
  | tdu =>
    have e : t.tdu = s.tdu := h
    unfold Block.lawsKept State.readerLaw State.reader; rw [e]; exact id
  | jnu =>
    have e : t.jnu = s.jnu := h
    unfold Block.lawsKept State.journalLaw; rw [e]; exact id
  | vcu =>
    have e : t.vcu = s.vcu := h
    unfold Block.lawsKept State.voucherLaw; rw [e]; exact id
  | pru =>
    have e : t.pru = s.pru := h
    unfold Block.lawsKept State.queueLaw State.queuePlaces State.queue; rw [e]; exact id
  | klc =>
    have e : t.klc = s.klc := h
    have line : ∀ l, t.line l = s.line l := by intro l; cases l <;> simp [State.line, e]
    unfold Block.lawsKept State.dropLaw State.lineLaw State.dropRec; rw [e]; simp only [line]; exact And.intro
  | hlc =>
    have e : t.hlc = s.hlc := h
    unfold Block.lawsKept State.linkLaw; rw [e]; exact id
  | fau | orders | priceAnswer | pending => trivial

/-- A frame keeps the laws of the blocks outside it, so only those of the blocks inside it are to be shown. -/
theorem Keeps.of_frame (h : keptBut L s t) (own : ∀ b ∈ L, b.lawsKept s t) : Keeps L s t :=
  ⟨h, fun b => if m : b ∈ L then own b m else Block.lawsKept_of_same (h b m)⟩

theorem Keeps.of_one (h : keptBut [b] s t) (own : b.lawsKept s t) : Keeps [b] s t := .of_frame h (List.forall_mem_singleton.2 own)

theorem Keeps.of_two {c : Block} (h : keptBut [b, c] s t) (first : b.lawsKept s t) (second : c.lawsKept s t) : Keeps [b, c] s t :=
  .of_frame h (List.forall_mem_cons.2 ⟨first, List.forall_mem_singleton.2 second⟩)

theorem Keeps.of_three {c d : Block} (h : keptBut [b, c, d] s t) (first : b.lawsKept s t) (second : c.lawsKept s t)
    (third : d.lawsKept s t) : Keeps [b, c, d] s t :=
  .of_frame h (List.forall_mem_cons.2 ⟨first, List.forall_mem_cons.2 ⟨second, List.forall_mem_singleton.2 third⟩⟩)

theorem Keeps.journal (h : Keeps L s t) : s.journalLaw → t.journalLaw := h.laws .jnu
theorem Keeps.voucher (h : Keeps L s t) : s.voucherLaw → t.voucherLaw := h.laws .vcu
theorem Keeps.queue (h : Keeps L s t) : s.queueLaw → t.queueLaw := h.laws .pru
theorem Keeps.link (h : Keeps L s t) : s.linkLaw → t.linkLaw := h.laws .hlc
theorem Keeps.basket (h : Keeps L s t) : s.basketLaw → t.basketLaw := (h.laws .sbu).1
theorem Keeps.seat (h : Keeps L s t) : s.seatLaw → t.seatLaw := (h.laws .sbu).2.1
theorem Keeps.hold (h : Keeps L s t) : s.basketLaw → s.seatLaw → s.holdLaw → t.holdLaw := (h.laws .sbu).2.2
theorem Keeps.reader (h : Keeps L s t) : s.readerLaw → t.readerLaw := h.laws .tdu
theorem Keeps.drops (h : Keeps L s t) : s.dropLaw → s.lineLaw → t.dropLaw ∧ t.lineLaw := h.laws .klc

theorem Block.lawsKept.trans (h : b.lawsKept s t) (k : b.lawsKept t u) : b.lawsKept s u := by
  cases b with
  | sbu =>
    obtain ⟨basket, seat, hold⟩ := h
    obtain ⟨basket', seat', hold'⟩ := k
    exact ⟨basket' ∘ basket, seat' ∘ seat, fun x y z => hold' (basket x) (seat y) (hold x y z)⟩
  | klc => exact fun x y => k (h x y).1 (h x y).2
  | tdu | jnu | vcu | pru | hlc => exact k ∘ h
  | fau | orders | priceAnswer | pending => trivial

theorem Keeps.refl (s : State) : Keeps [] s s := .of_frame (.refl [] s) fun _ m => (List.not_mem_nil m).elim

theorem Keeps.mono (h : Keeps L s t) (hs : L ⊆ M) : Keeps M s t := { h with frame := h.frame.mono hs }

/-- The parts listed may be widened. -/
theorem Keeps.within (hs : L ⊆ M) (h : Keeps L s t) : Keeps M s t := h.mono hs

theorem Keeps.then (h : Keeps L s t) (k : Keeps M t u) : Keeps (L ++ M) s u where
  frame := (h.frame.mono (List.subset_append_left L M)).trans (k.frame.mono (List.subset_append_right L M))
  laws b := (h.laws b).trans (k.laws b)

theorem Keeps.ite {c : Prop} [Decidable c] (h : c → Keeps L s t) (k : ¬c → Keeps L s u) :
    Keeps L s (if c then t else u) := by
  split
  · exact h ‹_›
  · exact k ‹_›

/-- Where nothing but one branch acts. -/
theorem Keeps.whenever {c : Prop} [Decidable c] (h : c → Keeps L s t) : Keeps L s (if c then t else s) :=
  .ite h fun _ => (Keeps.refl s).mono (List.nil_subset L)

theorem Keeps.foldl {α : Type} {f : State → α → State} (hf : ∀ s x, Keeps L s (f s x)) (l : List α) :
    ∀ s, Keeps L s (l.foldl f s) := by
  induction l with
  | nil => exact fun s => (Keeps.refl s).mono (List.nil_subset L)
  | cons x l ih => exact fun s => ((hf s x).then (ih (f s x))).mono (List.append_subset.2 ⟨fun _ h => h, fun _ h => h⟩)

/-- What a command answers: a next state, which keeps what it should, and in which the link is not idle while a frame is due. -/
def Answers (L : List Block) (s : State) (r : Result) : Prop :=
  ∃ t, r = .next t ∧ Keeps L s t ∧ (s.transmitLaw → t.transmitLaw)

theorem highest_eq_none {l : List (Condition × Nat)} : highest l = none ↔ l = [] := by
  cases l with
  | nil => simp [highest]
  | cons e rest =>
    simp only [highest]
    cases highest rest with
    | none => simp
    | some b => by_cases h : e.2 < b.2 <;> simp [h]

/-- The transmitter leaves no due frame on an idle link (R184). -/
theorem State.transmit_transmitLaw (s : State) : s.transmit.transmitLaw := by
  unfold State.transmit
  split
  · rename_i h; intro idle; simp [h] at idle
  split
  · intro idle; simp [State.setHlc] at idle
  split
  · intro idle; simp [State.startNotice, State.setHlc] at idle
  · exact fun _ => ⟨‹_›, ‹_›⟩

theorem State.transmit_linkLaw (s : State) (h : s.linkLaw) : s.transmit.linkLaw := by
  obtain ⟨replies, room, discards, levels⟩ := h
  unfold State.transmit
  split
  · exact ⟨replies, room, discards, levels⟩
  split
  · rename_i q
    refine ⟨?_, room, discards, levels⟩
    have := congrArg List.length q
    simp only [State.setHlc, List.length_cons] at *; omega
  split
  · refine ⟨replies, room, ?_, levels⟩
    simp only [State.startNotice, State.setHlc]
    split <;> omega
  · exact ⟨replies, room, discards, levels⟩

theorem Keeps.transmit (s : State) : Keeps [.hlc] s s.transmit :=
  .of_one (s.transmit_kept (by decide)) s.transmit_linkLaw

theorem Keeps.done (m : .hlc ∈ L) (h : Keeps L s u) : Answers L s u.done :=
  ⟨u.transmit, rfl, (h.then (.transmit u)).mono (List.append_subset.2 ⟨fun _ h => h, by simpa using m⟩),
    fun _ => u.transmit_transmitLaw⟩

theorem Keeps.next (m : .hlc ∉ L) (h : Keeps L s u) : Answers L s (.next u) :=
  ⟨u, rfl, h, by
    have e : u.hlc = s.hlc := h.frame .hlc m
    unfold State.transmitLaw; rw [e]; exact id⟩

end Sys2Proof.Machine
end

section
/-! What the shared updates keep: orders, replies, pushes, conditions (R28, R36, R168, R179 to R182). -/

namespace Sys2Proof.Machine

variable {L M : List Block} (s : State)

/-! ### Updates that no law speaks of -/

theorem State.send_keeps (cs : List Instr) : Keeps [.orders] s (s.send cs) := .of_one (s.send_kept cs (by decide)) trivial

theorem State.accept_keeps (c : Instr) : Keeps [.orders] s (s.accept c) := .of_one (s.accept_kept c (by decide)) trivial

theorem State.setFau_keeps (f : Fau) : Keeps [.fau] s (s.setFau f) := .of_one (s.setFau_kept f (by decide)) trivial

theorem State.setSession_keeps (d : Drop) (x : Session) : Keeps [.tdu] s (s.setSession d x) :=
  .of_one (s.setSession_kept d x (by decide)) id

theorem State.setPrinter_keeps (d : Drop) (p : Printer) : Keeps [.pru] s (s.setPrinter d p) :=
  .of_one (s.setPrinter_kept d p (by decide)) id

/-! ### Outbound slots (R168) -/

/-- Drop records that keep state and misses, on lines that stay, keep the laws of drops and lines. -/
theorem dropLaws_of_same {s t : State} (lines : linesKept s t)
    (drops : ∀ d, (t.dropRec d).state = (s.dropRec d).state ∧ (t.dropRec d).misses = (s.dropRec d).misses)
    (h : s.dropLaw) (k : s.lineLaw) : t.dropLaw ∧ t.lineLaw := by
  have line : ∀ l, t.line l = s.line l := by
    intro l
    cases l
    · exact lines.1
    · exact lines.2
  obtain ⟨misses, visits⟩ := h
  refine ⟨⟨fun d => ?_, fun l v hv => ?_⟩, ?_⟩
  · rw [(drops d).1, (drops d).2]; exact misses d
  · rw [(drops v.drop).1]; exact visits l v (line l ▸ hv)
  · unfold State.lineLaw; rw [lines.1, lines.2]; exact k

theorem State.place_keeps (d : Drop) (i : SlotId) (f : OutFrame) : Keeps [.klc] s (s.place d i f) :=
  .of_one (s.place_kept d i f (by decide)) (dropLaws_of_same ⟨rfl, rfl⟩ fun e => by simp)

theorem State.withdraw_keeps (d : Drop) (i : SlotId) : Keeps [.klc] s (s.withdraw d i) :=
  .of_one (s.withdraw_kept d i (by decide)) (dropLaws_of_same ⟨rfl, rfl⟩ fun e => by simp)

theorem State.replyDrop_keeps (d : Drop) (r : DropReply) : Keeps [.klc] s (s.replyDrop d r) := s.place_keeps d .reply _

theorem State.basketReply_keeps (d : Drop) (c : Code) (x : ReplyDetail) : Keeps [.klc] s (s.basketReply d c x) :=
  s.replyDrop_keeps d _

theorem State.serialReply_keeps (d : Drop) (c : Code) : Keeps [.klc] s (s.serialReply d c) := s.replyDrop_keeps d _

theorem State.cancelReply_keeps (d : Drop) (c : Code) (x : ReplyDetail) : Keeps [.klc] s (s.cancelReply d c x) :=
  s.replyDrop_keeps d _

theorem State.voucherReply_keeps (d : Drop) (c : Code) (t : Text) (x : VoucherDetail) :
    Keeps [.klc] s (s.voucherReply d c t x) := s.replyDrop_keeps d _

theorem State.pushTender_keeps (d : Drop) : Keeps [.klc] s (s.pushTender d) := s.place_keeps d .pushTender _

theorem State.pushSlot_keeps (d : Drop) (r : SlotReason) : Keeps [.klc] s (s.pushSlot d r) := s.place_keeps d .pushSlot _

theorem State.pushSlotAfter_keeps (d : Drop) (b : ReaderState) (r : Option SlotReason) :
    Keeps [.klc] s (s.pushSlotAfter d b r) := by
  cases r with
  | none => exact .ite (fun _ => (Keeps.refl s).within (by decide)) fun _ => s.pushSlot_keeps d .change
  | some r => exact s.pushSlot_keeps d r

/-! ### The host link (R179, R181 to R183) -/

/-- A link whose buffer, discards, levels are no worse and whose replies stay within 4 keeps its bounds. -/
theorem linkLaw_of_calm {s t : State} (replies : s.hlc.replies.length ≤ 4 → t.hlc.replies.length ≤ 4)
    (frames : t.hlc.frames = s.hlc.frames) (bytes : t.hlc.bytes = s.hlc.bytes) (discards : t.hlc.discards = s.hlc.discards)
    (levels : t.hlc.levels = s.hlc.levels) (h : s.linkLaw) : t.linkLaw := by
  obtain ⟨hr, ho, hd, hl⟩ := h
  unfold State.linkLaw Hlc.occupancy
  rw [frames, bytes, discards, levels]
  exact ⟨replies hr, ho, hd, hl⟩

theorem State.raise_keeps (k : Condition) : Keeps [.hlc] s (s.raise k) :=
  .of_one (s.raise_kept k (by decide)) (linkLaw_of_calm id rfl rfl rfl rfl)

theorem State.unraise_keeps (k : Condition) : Keeps [.hlc] s (s.unraise k) :=
  .of_one (s.unraise_kept k (by decide)) (linkLaw_of_calm id rfl rfl rfl rfl)

theorem State.enterPart_keeps (p : PartState) : Keeps [.hlc] s (s.enterPart p) :=
  .of_one (s.enterPart_kept p (by decide)) (linkLaw_of_calm id rfl rfl rfl rfl)

/-- The reply queue takes a fifth reply in no case (R181). -/
theorem State.replyHost_replies_le (h : HostTag) (c : Code) (x : HostData) (le : s.hlc.replies.length ≤ 4) :
    (s.replyHost h c x).hlc.replies.length ≤ 4 := by
  unfold State.replyHost State.setHlc
  dsimp only
  split
  · simp only [List.length_append, List.length_singleton]; omega
  · exact le

theorem State.replyHost_keeps (h : HostTag) (c : Code) (x : HostData) : Keeps [.hlc] s (s.replyHost h c x) :=
  .of_one (s.replyHost_kept h c x (by decide)) (linkLaw_of_calm (s.replyHost_replies_le h c x) rfl rfl rfl rfl)

/-- A host request taken by its owner: a refusal replies, and the owner's act is what is left to look at (R180, R195). -/
theorem Answers.serveWith {α : Type} {t : State} (hm : .hlc ∈ M) (k : Keeps L s t) (h : HostTag) (allowed : PartState →
    Bool) (body : Body α)
    (every : HostData) {act : α → State → State} (ha : ∀ r, body = some r → Keeps M t (act r t)) :
    Answers (L ++ M) s (t.serveWith h allowed body every act) := by
  have refusal : ∀ c, Answers (L ++ M) s (t.replyHost h c every).done := fun c =>
    Keeps.done (List.mem_append_right L hm) ((k.then (t.replyHost_keeps h c every)).mono (by
      intro b hb; simp only [List.mem_append, List.mem_singleton] at hb ⊢
      rcases hb with hb | rfl
      · exact .inl hb
      · exact .inr hm))
  unfold State.serveWith
  split
  · cases body with
    | none => exact refusal .badValue
    | some r => exact Keeps.done (List.mem_append_right L hm) (k.then (ha r rfl))
  · exact refusal _

/-- A host request with its order taken off the list. -/
theorem Answers.serve {α : Type} (hm : .hlc ∈ M) (c : Instr) (h : HostTag) (allowed : PartState → Bool) (body : Body α)
    {act : α → State → State} (ha : ∀ r t, Keeps M t (act r t)) :
    Answers (.orders :: M) s ((s.accept c).serve h allowed body act) :=
  Answers.serveWith s hm (s.accept_keeps c) h allowed body .none fun r _ => ha r _

end Sys2Proof.Machine
end

section
/-! What the commands of the JNU, the VCU and the PRU keep (06_sales_commit_journal_and_counters, 07_snack_vouchers, 08_ticket_printing). -/

namespace Sys2Proof.Machine

/-! ## The journal and the counter store (R113 to R130) -/

section
variable (s : State)

theorem State.setJnu_keeps (j : Jnu) (h : s.journalLaw → j.places ≤ 64 ∧ (j.journal.map recordSale).Nodup) :
    Keeps [.jnu] s (s.setJnu j) :=
  .of_one (s.setJnu_kept j (by decide)) h

theorem State.setJnu_keeps_store {j : Jnu} (journal : j.journal = s.jnu.journal)
    (reservations : j.reservations = s.jnu.reservations) : Keeps [.jnu] s (s.setJnu j) :=
  s.setJnu_keeps j fun h => by unfold Jnu.places; rw [journal, reservations]; exact h

theorem Jnu.needTest_eq (j : Jnu) : ∃ st, j.needTest = { j with store := st } := by
  unfold Jnu.needTest
  split <;> exact ⟨_, rfl⟩

@[simp] theorem Jnu.needTest_journal (j : Jnu) : j.needTest.journal = j.journal := by
  obtain ⟨st, e⟩ := j.needTest_eq; rw [e]

@[simp] theorem Jnu.needTest_reservations (j : Jnu) : j.needTest.reservations = j.reservations := by
  obtain ⟨st, e⟩ := j.needTest_eq; rw [e]

@[simp] theorem Jnu.needTest_saleCounter (j : Jnu) : j.needTest.saleCounter = j.saleCounter := by
  obtain ⟨st, e⟩ := j.needTest_eq; rw [e]

theorem State.endLoad_keeps : Keeps [.hlc] s s.endLoad := .whenever fun _ => s.enterPart_keeps .ready

theorem State.storeRead_keeps (m : Marks) : Keeps [.jnu, .orders, .hlc] s (s.storeRead m) := by
  unfold State.storeRead
  refine Keeps.ite (fun _ => ?_) fun _ => ?_
  · exact (((s.setJnu_keeps_store (by simp) (by simp)).then (State.send_keeps _ _)).then (State.endLoad_keeps _)).within (by decide)
  · exact ((s.setJnu_keeps_store (by simp) (by simp)).then (State.send_keeps _ _)).within (by decide)

theorem State.storeReadFailed_keeps : Keeps [.jnu, .orders, .hlc] s s.storeReadFailed := by
  unfold State.storeReadFailed
  refine Keeps.within (by decide) (((s.setJnu_keeps_store ?_ ?_).then (State.raise_keeps _ _)).then (State.enterPart_keeps _ _)) <;> rfl

theorem State.storeAgain_keeps : Keeps [.jnu, .orders, .hlc] s s.storeAgain := by
  unfold State.storeAgain
  refine Keeps.within (by decide) (s.setJnu_keeps_store ?_ ?_) <;> rfl

theorem State.storeReadTryEnd_keeps (answer : Option (List Byte)) :
    Keeps [.jnu, .orders, .hlc] s (s.storeReadTryEnd answer) := by
  unfold State.storeReadTryEnd
  refine .whenever fun _ => ?_
  split
  · exact s.storeRead_keeps _
  · exact .ite (fun _ => s.storeReadFailed_keeps) fun _ => s.storeAgain_keeps

theorem State.storeWritten_keeps (m : Marks) : Keeps [.jnu, .orders, .hlc] s (s.storeWritten m) := by
  refine Keeps.within (by decide) (((s.setJnu_keeps_store ?_ ?_).then (State.send_keeps _ _)).then (State.endLoad_keeps _))
  · split <;> simp
  · split <;> simp

theorem State.storeWriteFailed_keeps : Keeps [.jnu, .orders, .hlc] s s.storeWriteFailed := by
  unfold State.storeWriteFailed
  refine Keeps.within (by decide) (((s.setJnu_keeps_store ?_ ?_).then (State.raise_keeps _ _)).then (State.endLoad_keeps _)) <;> rfl

theorem State.storeWriteTryEnd_keeps (n : Nat) : Keeps [.jnu, .orders, .hlc] s (s.storeWriteTryEnd n) := by
  unfold State.storeWriteTryEnd
  split
  · exact .ite (fun _ => s.storeWritten_keeps _) fun _ =>
      .ite (fun _ => s.storeWriteFailed_keeps) fun _ => s.storeAgain_keeps
  · exact (Keeps.refl s).within (by decide)

theorem Jnu.retry_eq (j : Jnu) : ∃ st, j.retry = { j with store := st } := by
  unfold Jnu.retry
  split
  · split <;> exact ⟨_, rfl⟩
  · exact ⟨_, rfl⟩

theorem State.setJnu_retry_keeps : Keeps [.jnu] s (s.setJnu s.jnu.retry) := by
  obtain ⟨st, e⟩ := s.jnu.retry_eq
  exact s.setJnu_keeps_store (by rw [e]) (by rw [e])

theorem State.setJnu_report_keeps (n : Nat) : Keeps [.jnu] s (s.setJnu (s.jnu.report n)) :=
  s.setJnu_keeps_store (by simp [Jnu.report]) (by simp [Jnu.report])

/-- A granted number takes one of the places there were (R114). -/
theorem Jnu.grant_places (j : Jnu) (n : Nat) : (j.grant n).places = j.places + 1 := by
  simp [Jnu.grant, Jnu.places]; omega

theorem State.journalGrant_keeps (d : Drop) (ref : Nat) : Keeps [.jnu, .orders] s (s.journalGrant d ref) := by
  have refused : ∀ c, Keeps [.jnu, .orders] s (s.send [.reservationRefusal d ref .journal c]) := fun c =>
    (s.send_keeps _).within (by decide)
  unfold State.journalGrant
  refine .ite (fun _ => refused _) fun room => ?_
  split
  · exact (Keeps.refl s).within (by decide)
  refine .ite (fun _ => refused _) fun _ => .ite (fun _ => refused _) fun _ => ?_
  refine ((s.setJnu_keeps _ fun h => ⟨?_, ?_⟩).then (State.send_keeps _ _)).within (by decide)
  · rw [Jnu.grant_places]; omega
  · simpa [Jnu.grant] using h.2

/-- A reservation less only makes room (R115). -/
theorem State.journalReturn_keeps (sale : Nat) :
    Keeps [.jnu] s (s.setJnu { s.jnu with reservations := s.jnu.reservations.erase sale }) := by
  refine s.setJnu_keeps _ fun h => ⟨?_, h.2⟩
  have := h.1
  have := List.length_erase_le (a := sale) (l := s.jnu.reservations)
  simp only [Jnu.places] at *; omega

theorem Jnu.append_places (j : Jnu) (r : JournalRecord) (room : recordSale r ∈ j.reservations ∨ j.places < 64)
    (h : j.places ≤ 64) : (j.append r).places ≤ 64 := by
  have le := List.length_erase_le (a := recordSale r) (l := j.reservations)
  simp only [Jnu.append, Jnu.places, List.length_append, List.length_singleton] at *
  rcases room with mem | room
  · have := List.length_erase_of_mem mem
    have := List.length_pos_of_mem mem
    omega
  · omega

theorem State.takeRecord_keeps (r : JournalRecord) : Keeps [.jnu, .hlc] s (s.takeRecord r) := by
  by_cases held : ∃ q ∈ s.jnu.journal, recordSale q = recordSale r
  · rw [State.takeRecord_of_held held]; exact (Keeps.refl s).within (by decide)
  have new : ∀ q ∈ s.jnu.journal, recordSale q ≠ recordSale r := fun q hq e => held ⟨q, hq, e⟩
  by_cases room : recordSale r ∈ s.jnu.reservations ∨ s.jnu.places < 64
  · rw [State.takeRecord_of_new new room]
    refine ((s.setJnu_keeps _ fun h => ⟨s.jnu.append_places r room h.1, ?_⟩).then (State.raise_keeps _ _)).within (by decide)
    have fresh : recordSale r ∉ s.jnu.journal.map recordSale := by simpa using new
    simpa [Jnu.append] using List.nodup_append.2 ⟨h.2, List.nodup_singleton _, by
      rintro a ha b hb rfl; exact fresh (List.mem_singleton.1 hb ▸ ha)⟩
  · obtain ⟨unreserved, full⟩ : recordSale r ∉ s.jnu.reservations ∧ 64 ≤ s.jnu.places := by simpa using room
    rw [State.takeRecord_of_full unreserved full]; exact (Keeps.refl s).within (by decide)

theorem State.raiseIfRecords_keeps : Keeps [.hlc] s s.raiseIfRecords :=
  .ite (fun _ => (Keeps.refl s).within (by decide)) fun _ => s.raise_keeps .journal

theorem State.journalRead_keeps (h : HostTag) (r : Unit) : Keeps [.hlc] s (State.journalRead h r s) := by
  unfold State.journalRead
  split <;> exact s.replyHost_keeps _ _ _

theorem State.journalTake_keeps (h : HostTag) (sale : Nat) : Keeps [.jnu, .hlc] s (State.journalTake h sale s) := by
  unfold State.journalTake
  split
  · exact (s.replyHost_keeps _ _ _).within (by decide)
  rename_i r rest oldest
  refine .ite (fun _ => ?_) fun _ => (s.replyHost_keeps _ _ _).within (by decide)
  refine (((s.setJnu_keeps _ fun law => ?_).then (State.raiseIfRecords_keeps _)).then
    (State.replyHost_keeps _ _ _ _)).within (by decide)
  obtain ⟨places, distinct⟩ := law
  simp only [Jnu.places, oldest, List.length_cons, List.map_cons, List.nodup_cons] at *
  exact ⟨by omega, distinct.2⟩

theorem State.counterBase_keeps (h : HostTag) (r : CounterBaseReq) :
    Keeps [.jnu, .orders, .hlc] s (State.counterBase h r s) := by
  unfold State.counterBase
  refine .ite (fun _ => .ite (fun _ => ?_) fun _ => (s.replyHost_keeps _ _ _).within (by decide)) fun _ => (s.replyHost_keeps _ _ _).within (by decide)
  exact ((((s.setJnu_keeps_store (by simp [Jnu.base]) (by simp [Jnu.base])).then (State.send_keeps _ _)).then
    (State.enterPart_keeps _ _)).then (State.replyHost_keeps _ _ _ _)).within (by decide)

end

/-! ## Vouchers (R131 to R147) -/

section
variable (s : State)

theorem State.setVcu_keeps (v : Vcu) (h : s.voucherLaw → v.places ≤ 1024 ∧ (v.used.map (·.serial)).Nodup) :
    Keeps [.vcu] s (s.setVcu v) :=
  .of_one (s.setVcu_kept v (by decide)) h

theorem State.setVcu_keeps_table {v : Vcu} (used : v.used = s.vcu.used) (reservations : v.reservations = s.vcu.reservations) :
    Keeps [.vcu] s (s.setVcu v) :=
  s.setVcu_keeps v fun h => by unfold Vcu.places Vcu.reservedCount; rw [used, reservations]; exact h

theorem State.voucherGrant_keeps (d : Drop) (ref count : Nat) : Keeps [.vcu, .orders] s (s.voucherGrant d ref count) := by
  have refused : ∀ c, Keeps [.vcu, .orders] s (s.send [.reservationRefusal d ref .voucher c]) := fun c =>
    (s.send_keeps _).within (by decide)
  unfold State.voucherGrant
  refine .ite (fun _ => refused _) fun room => ?_
  split
  · exact (Keeps.refl s).within (by decide)
  refine .ite (fun _ => refused _) fun _ => .ite (fun _ => refused _) fun _ => ?_
  refine Keeps.within (by decide) ((s.setVcu_keeps _ fun h => ?_).then (State.send_keeps _ _))
  refine ⟨?_, h.2⟩
  simp only [Vcu.places, Vcu.reservedCount, List.map_append, List.sum_append, List.map_cons, List.map_nil,
    List.sum_singleton] at *
  omega

theorem List.sum_eraseP_le {α : Type} (f : α → Nat) (p : α → Bool) (l : List α) :
    ((l.eraseP p).map f).sum ≤ (l.map f).sum := List.Sublist.sum_le_sum (List.eraseP_sublist.map f) fun _ _ => Nat.zero_le _

/-- A reservation less only makes room (R135, R136). -/
theorem Vcu.unreserve_places (v : Vcu) (n : Nat) : (v.unreserve n).places ≤ v.places :=
  Nat.add_le_add_left (List.sum_eraseP_le _ _ _) _

theorem State.unreserve_keeps (n : Nat) : Keeps [.vcu] s (s.setVcu (s.vcu.unreserve n)) :=
  s.setVcu_keeps _ fun h => ⟨(s.vcu.unreserve_places n).trans h.1, h.2⟩

theorem Vcu.find_isSome {v : Vcu} {n : Nat} : (v.find n).isSome = true ↔ ∃ e ∈ v.used, e.serial = n := by
  simp [Vcu.find, List.find?_isSome]

/-- A line of an issue order is issued under a serial no entry has, while a place is free (R136, R137). -/
theorem Vcu.issueLine_law (o : IssueOrder) (v : Vcu) (l : IssueLine)
    (h : v.places ≤ 1024 ∧ (v.used.map (·.serial)).Nodup) :
    (v.issueLine o l).places ≤ 1024 ∧ ((v.issueLine o l).used.map (·.serial)).Nodup := by
  unfold Vcu.issueLine
  split
  · exact h
  · rename_i free
    obtain ⟨new, room⟩ := not_or.1 free
    have fresh : ∀ e ∈ v.used, e.serial ≠ l.serial := by simpa [Vcu.find_isSome] using new
    refine ⟨?_, ?_⟩
    · simp only [Vcu.places, Vcu.reservedCount, List.length_append, List.length_singleton] at *; omega
    · rw [List.map_append, List.nodup_append]
      refine ⟨h.2, by simp, ?_⟩
      simpa [issuedEntry] using fresh

theorem State.issue_keeps (o : IssueOrder) : Keeps [.vcu] s (s.setVcu (s.vcu.issue o)) := by
  refine s.setVcu_keeps _ fun h => ?_
  unfold Vcu.issue
  exact List.foldlRecOn (motive := fun v : Vcu => v.places ≤ 1024 ∧ (v.used.map (·.serial)).Nodup) o.lines _
    ⟨(s.vcu.unreserve_places _).trans h.1, h.2⟩ fun v hv l _ => v.issueLine_law o l hv

@[simp] theorem Vcu.setState_serials (v : Vcu) (n : Nat) (st : VoucherState) :
    (v.setState n st).used.map (·.serial) = v.used.map (·.serial) := by
  simp only [Vcu.setState, List.map_map]
  refine List.map_congr_left fun e _ => ?_
  simp only [Function.comp]; split <;> rfl

theorem Vcu.setState_places (v : Vcu) (n : Nat) (st : VoucherState) : (v.setState n st).places = v.places := by
  simp [Vcu.places, Vcu.reservedCount, Vcu.setState]

theorem State.setVcu_setState_keeps (n : Nat) (st : VoucherState) : Keeps [.vcu] s (s.setVcu (s.vcu.setState n st)) :=
  s.setVcu_keeps _ fun h => by rw [Vcu.setState_places, Vcu.setState_serials]; exact h

theorem State.counterRequest_keeps (d : Drop) (code : Body Text) {act : Text → State → State}
    (ha : ∀ t, Keeps [.vcu, .klc] s (act t s)) : Keeps [.vcu, .klc] s (s.counterRequest d code act) := by
  unfold State.counterRequest
  split
  · exact (s.replyDrop_keeps _ _).within (by decide)
  · exact .ite (fun _ => (s.replyDrop_keeps _ _).within (by decide)) fun _ =>
      .ite (fun _ => (s.replyDrop_keeps _ _).within (by decide)) fun _ => ha _

theorem State.redeem_keeps (d : Drop) (t : Text) : Keeps [.vcu, .klc] s (State.redeem d t s) := by
  unfold State.redeem
  split
  · exact (s.voucherReply_keeps _ _ _ _).within (by decide)
  · exact ((s.setVcu_setState_keeps _ _).then (State.voucherReply_keeps _ _ _ _ _)).within (by decide)

theorem State.check_keeps (d : Drop) (t : Text) : Keeps [.klc] s (State.check d t s) := by
  unfold State.check
  split <;> exact s.voucherReply_keeps _ _ _ _

theorem State.voucherVoid_keeps (h : HostTag) (n : Nat) : Keeps [.vcu, .hlc] s (State.voucherVoid h n s) := by
  unfold State.voucherVoid
  refine .ite (fun _ => ?_) fun _ => (s.replyHost_keeps _ _ _).within (by decide)
  split
  · exact (s.replyHost_keeps _ _ _).within (by decide)
  split
  · exact ((s.setVcu_setState_keeps _ _).then (State.replyHost_keeps _ _ _ _)).within (by decide)
  · exact (s.replyHost_keeps _ _ _).within (by decide)
  · exact (s.replyHost_keeps _ _ _).within (by decide)

theorem State.voucherQuery_keeps (h : HostTag) (n : Nat) : Keeps [.hlc] s (State.voucherQuery h n s) := by
  unfold State.voucherQuery
  refine .ite (fun _ => ?_) fun _ => s.replyHost_keeps _ _ _
  split <;> exact s.replyHost_keeps _ _ _

/-- The sweep leaves a part of the table (R146). -/
theorem State.sweep_keeps (now : SiteTime) : Keeps [.vcu] s (s.sweep now) := by
  refine s.setVcu_keeps _ fun h => ?_
  have part : (s.vcu.sweep now).used.Sublist s.vcu.used := List.filter_sublist
  exact ⟨(Nat.add_le_add_right part.length_le _).trans h.1, h.2.sublist (part.map _)⟩

end

/-! ## Print queues (R149 to R163) -/

section
variable (s : State)

/-- The places of every queue are no more than they were, or within 16. -/
theorem State.queueLaw_of_places {s t : State} (h : ∀ d, t.queuePlaces d ≤ max 16 (s.queuePlaces d)) (law : s.queueLaw) :
    t.queueLaw := fun d => by
  have := h d
  have := law d
  omega

theorem State.printGrant_keeps (d : Drop) (ref count : Nat) : Keeps [.pru, .orders] s (s.printGrant d ref count) := by
  unfold State.printGrant
  refine .ite (fun _ => (s.send_keeps _).within (by decide)) fun _ => .ite (fun _ => (s.send_keeps _).within (by decide)) fun room => ?_
  refine (Keeps.then (L := [.pru]) (.of_one (s.setPru_kept _ (by decide))
    (State.queueLaw_of_places fun e => ?_)) (State.send_keeps _ _)).within (by decide)
  let rs := s.pru.reservations ++ [{ drop := d, reference := ref, count := count }]
  show (s.queue e).length + Pru.reservedFor { s.pru with reservations := rs } e ≤ max 16 (s.queuePlaces e)
  by_cases same : d = e
  · subst same
    simp [rs, State.queuePlaces, Pru.reservedFor] at room ⊢; omega
  · simp [rs, State.queuePlaces, Pru.reservedFor, same]

/-- Fewer reservations and the same queues leave no queue fuller. -/
theorem State.fewerReservations_keeps {rs : List PrintReservation} (fewer : rs.Sublist s.pru.reservations) :
    Keeps [.pru] s (s.setPru { s.pru with reservations := rs }) := by
  refine .of_one (s.setPru_kept _ (by decide)) (State.queueLaw_of_places fun d => ?_)
  have le : ((rs.filter (·.drop == d)).map (·.count)).sum ≤ ((s.pru.reservations.filter (·.drop == d)).map (·.count)).sum :=
    List.Sublist.sum_le_sum ((fewer.filter _).map _) fun _ _ => Nat.zero_le _
  exact le_max_of_le_right (Nat.add_le_add_left le _)

theorem eraseLast_sublist {α : Type} (p : α → Bool) (l : List α) : (eraseLast p l).Sublist l := by
  simpa [eraseLast] using (List.eraseP_sublist (p := p) (l := l.reverse)).reverse

theorem State.consumePrint_keeps (d : Drop) : Keeps [.pru] s (s.consumePrint d) :=
  s.fewerReservations_keeps (eraseLast_sublist _ _)

/-- A queue whose places stay within 16 may be replaced. -/
theorem State.setQueue_keeps (d : Drop) (q : List PrintItem)
    (h : q.length + s.pru.reservedFor d ≤ max 16 (s.queuePlaces d)) : Keeps [.pru] s (s.setQueue d q) := by
  refine .of_one (s.setQueue_kept d q (by decide)) (State.queueLaw_of_places fun e => ?_)
  by_cases same : e = d
  · subst same
    simpa [State.queuePlaces, Pru.reservedFor] using h
  · simp [State.queuePlaces, State.setQueue_queue_ne _ _ _ same, Pru.reservedFor]

theorem State.appendItem_keeps (d : Drop) (i : PrintItem) : Keeps [.pru] s (State.appendItem d s i) := by
  refine .whenever fun room => s.setQueue_keeps d _ ?_
  simp only [State.queuePlaces, List.length_append, List.length_singleton] at *; omega

theorem State.feed_keeps (d : Drop) : Keeps [.pru, .klc] s (s.feed d) := by
  obtain ⟨i, fed⟩ | same := s.feed_cases d
  · rw [fed]; exact ((s.setPrinter_keeps _ _).then (State.place_keeps _ _ _ _)).within (by decide)
  · rw [same]; exact (Keeps.refl s).within (by decide)

theorem State.backlogTest_keeps (d : Drop) (n : Nat) : Keeps [.hlc] s (s.backlogTest d n) :=
  .whenever fun _ => s.raise_keeps .printer

theorem State.printOrder_keeps (d : Drop) (items : List PrintItem) : Keeps [.pru, .klc, .hlc] s (s.printOrder d items) :=
  ((((s.consumePrint_keeps d).then (Keeps.foldl (fun t i => t.appendItem_keeps d i) items _)).then
    (State.backlogTest_keeps _ _ _)).then (State.feed_keeps _ _)).within (by decide)

theorem State.printerReport_keeps {α : Type} {L : List Block} (d : Drop) (body : Body α) {act : α → State → State}
    (ha : ∀ r, Keeps L s (act r s)) : Keeps L s (s.printerReport d body act) := by
  unfold State.printerReport
  split
  · exact .whenever fun _ => ha _
  · exact (Keeps.refl s).mono (List.nil_subset L)

theorem State.printed_keeps (d : Drop) (tag : PrintTag) : Keeps [.pru, .klc] s (State.printed d tag s) := by
  unfold State.printed
  refine .whenever fun _ => ?_
  have shorter : Keeps [.pru] s (s.setQueue d (s.queue d).tail) :=
    s.setQueue_keeps d _ (le_max_of_le_right (Nat.add_le_add_right (List.length_tail (l := s.queue d) ▸ Nat.sub_le _ _) _))
  have t := shorter.then (State.setPrinter_keeps _ d { s.printer d with headSent := false, retries := 0 })
  exact .ite (fun _ => ((t.then (State.setPrinter_keeps _ _ _)).then (State.feed_keeps _ _)).within (by decide)) fun _ => t.within (by decide)

theorem State.failed_keeps (d : Drop) (tag : PrintTag) : Keeps [.pru, .klc, .hlc] s (State.failed d tag s) := by
  unfold State.failed
  exact .whenever fun _ => .ite (fun _ => ((s.setPrinter_keeps _ _).then (State.feed_keeps _ _)).within (by decide)) fun _ =>
    ((s.setPrinter_keeps _ _).then (State.raise_keeps _ _)).within (by decide)

theorem State.recordPaper_keeps (d : Drop) (low : Bool) : Keeps [.pru, .hlc] s (s.recordPaper d low) :=
  .ite (fun _ => ((s.setPrinter_keeps _ _).then (State.raise_keeps _ _)).within (by decide)) fun _ => (s.setPrinter_keeps _ _).within (by decide)

theorem State.printerReady_keeps (d : Drop) : Keeps [.pru, .klc] s (s.printerReady d) :=
  ((s.setPrinter_keeps _ _).then (State.feed_keeps _ _)).within (by decide)

theorem State.movePrinter_keeps (d : Drop) (c : PrinterCondition) : Keeps [.pru, .klc] s (s.movePrinter d c) := by
  unfold State.movePrinter
  split
  all_goals first
    | exact s.printerReady_keeps d
    | exact (Keeps.refl s).within (by decide)
    | exact (s.setPrinter_keeps _ _).within (by decide)
    | exact ((s.setPrinter_keeps _ _).then (State.withdraw_keeps _ _ _)).within (by decide)

theorem State.printerStatus_keeps (d : Drop) (r : PrinterReport) :
    Keeps [.pru, .klc, .hlc] s (State.printerStatus d r s) := by
  unfold State.printerStatus
  exact .ite (fun _ => (Keeps.refl s).within (by decide)) fun _ => ((s.recordPaper_keeps _ _).then (State.movePrinter_keeps _ _ _)).within (by decide)

theorem State.losePrinter_keeps (d : Drop) : Keeps [.pru, .klc] s (s.losePrinter d) :=
  .ite (fun _ => ((s.setPrinter_keeps _ _).then (State.withdraw_keeps _ _ _)).within (by decide)) fun _ => (s.setPrinter_keeps _ _).within (by decide)

theorem State.resetPrinter_keeps (d : Drop) : Keeps [.pru, .klc] s (s.resetPrinter d) :=
  ((s.setPrinter_keeps _ _).then (State.withdraw_keeps _ _ _)).within (by decide)

theorem State.emptyQueue_keeps (d : Drop) : Keeps [.pru, .klc] s (s.emptyQueue d) := by
  have emptied : Keeps [.pru] s (s.setQueue d []) :=
    s.setQueue_keeps d _ (le_max_of_le_right (by simp [State.queuePlaces]))
  rw [State.emptyQueue_eq]
  exact .ite (fun _ => ((emptied.then (State.setPrinter_keeps _ _ _)).then (State.withdraw_keeps _ _ _)).within (by decide)) fun _ =>
    (emptied.then (State.setPrinter_keeps _ _ _)).within (by decide)

/-- The target has room for the items that move to it (R160). -/
theorem State.moveQueue_keeps {src dst : Drop}
    (room : s.queuePlaces dst + (s.queue src).length ≤ 16) : Keeps [.pru, .klc, .hlc] s (s.moveQueue src dst) := by
  refine ((((s.emptyQueue_keeps src).then (State.setQueue_keeps _ dst _ ?_)).then (State.backlogTest_keeps _ _ _)).then
    (State.feed_keeps _ _)).within (by decide)
  refine le_max_of_le_left ?_
  simp only [Pru.reservedFor, State.emptyQueue_reservations, List.length_append]
  simp only [State.queuePlaces, Pru.reservedFor] at room
  omega

theorem State.printRedirect_keeps (h : HostTag) (r : PrintRedirectReq) :
    Keeps [.pru, .klc, .hlc] s (State.printRedirect h r s) := by
  have refused : ∀ c, Keeps [.pru, .klc, .hlc] s (s.replyHost h c .none) := fun c => (s.replyHost_keeps h c _).within (by decide)
  unfold State.printRedirect
  split
  · split
    · refine .ite (fun _ => refused _) fun _ => .ite (fun _ => refused _) fun _ => .ite (fun _ => refused _) fun room => ?_
      exact ((s.moveQueue_keeps (not_lt.1 room)).then
        (State.replyHost_keeps _ _ _ _)).within (by decide)
    · exact refused _
  · exact refused _

theorem State.printFlush_keeps (h : HostTag) (n : Nat) : Keeps [.pru, .klc, .hlc] s (State.printFlush h n s) := by
  unfold State.printFlush
  split
  · exact .ite (fun _ => ((s.emptyQueue_keeps _).then (State.replyHost_keeps _ _ _ _)).within (by decide)) fun _ =>
      (s.replyHost_keeps _ _ _).within (by decide)
  · exact (s.replyHost_keeps _ _ _).within (by decide)

end

end Sys2Proof.Machine
end

section
/-! Lawful reader slots, and what the commands on them keep (R83 to R92). -/

namespace Sys2Proof.Machine

/-! ## Reader slots (R83 to R92) -/

theorem ReaderSlot.toPowerDown_lawful (r : ReaderSlot) : r.toPowerDown.lawful := .inl ⟨rfl, rfl⟩

theorem ReaderSlot.toPowerUp_lawful (r : ReaderSlot) : r.toPowerUp.lawful := .inl ⟨rfl, rfl⟩

theorem ReaderSlot.reset_lawful : ReaderSlot.reset.lawful := ⟨rfl, rfl, rfl, rfl, rfl, rfl, rfl⟩

theorem ReaderSlot.toEmpty_lawful {r : ReaderSlot} (h : r.outstanding = .none) : r.toEmpty.lawful :=
  ⟨h, rfl, rfl, rfl, rfl, rfl, rfl⟩

theorem ReaderSlot.toPartial_lawful {r : ReaderSlot} (h : r.outstanding = .none) : r.toPartial.lawful := ⟨h, .inr rfl⟩

theorem ReaderSlot.toSettling_lawful {r : ReaderSlot} (h : r.outstanding = .none) : r.toSettling.lawful := ⟨h, rfl⟩

theorem ReaderSlot.ite_lawful {c : Prop} [Decidable c] {r x : ReaderSlot} (h : r.lawful) (k : x.lawful) :
    (if c then r else x).lawful := by
  split
  · exact h
  · exact k

theorem ReaderSlot.pulled_lawful {r : ReaderSlot} (h : r.outstanding = .none) : r.pulled.lawful :=
  ite_lawful (toEmpty_lawful h) (toPartial_lawful h)

/-- No command is outstanding on a card without power (R83 to R90). -/
theorem ReaderSlot.lawful.outstanding {r : ReaderSlot} (h : r.lawful) (off : r.state.powered = false) :
    r.outstanding = .none := by
  unfold ReaderSlot.lawful at h
  cases e : r.state <;> simp only [e, ReaderState.powered] at h off
  all_goals first | exact h.1 | contradiction

/-- The law says nothing of the contacts, and of DATA_LOST nothing either. -/
theorem ReaderSlot.lawful.contacts {r : ReaderSlot} (h : r.lawful) (c : Contacts) : { r with contacts := c }.lawful := h

theorem ReaderSlot.lawful.unspent {r : ReaderSlot} (h : r.lawful) : { r with spent := false }.lawful := by
  unfold ReaderSlot.lawful at *
  cases e : r.state <;> simp only [e] at h ⊢
  case empty => obtain ⟨a, b, c, d, -, f, g⟩ := h; exact ⟨a, b, c, d, trivial, f, g⟩
  all_goals exact h

theorem ReaderSlot.contactsMove_lawful {r : ReaderSlot} (h : r.lawful) (c : Contacts) : (r.contactsMove c).lawful := by
  have same := h.contacts c
  have out : r.state.powered = false → ({ r with contacts := c } : ReaderSlot).outstanding = .none := h.outstanding
  unfold ReaderSlot.contactsMove
  obtain ⟨state, _⟩ := r
  cases state <;> dsimp only [ReaderState.powered] at out ⊢
  case empty => exact ite_lawful (toSettling_lawful (out rfl)) (ite_lawful same (toPartial_lawful (out rfl)))
  case partialIn => exact ite_lawful (toSettling_lawful (out rfl)) (ite_lawful (toEmpty_lawful (out rfl)) same)
  case settling | classified => exact ite_lawful (ite_lawful same (toSettling_lawful (out rfl))) (pulled_lawful (out rfl))
  case unsupported | fault => exact ite_lawful (toEmpty_lawful (out rfl)) same
  all_goals exact same

theorem ReaderSlot.classify_lawful {r : ReaderSlot} (h : r.outstanding = .none) (p : ReaderSupply) : (r.classify p).lawful := by
  unfold ReaderSlot.classify
  split <;> exact ⟨h, rfl⟩

section
variable (s : State) (d : Drop)

theorem State.setReader_keeps (r : ReaderSlot) (h : (s.reader d).lawful → r.lawful) : Keeps [.tdu] s (s.setReader d r) := by
  refine .of_one (s.setReader_kept d r (by decide)) fun law e => ?_
  rw [State.setReader_reader]
  split
  · exact h (law d)
  · exact law e

theorem State.powerOff_keeps : Keeps [.tdu, .klc] s (s.powerOff d) :=
  ((s.setReader_keeps d _ fun _ => ReaderSlot.toPowerDown_lawful _).then (State.place_keeps _ _ _ _)).within (by decide)

theorem State.powerTest_keeps : Keeps [.tdu, .klc] s (s.powerTest d) :=
  .whenever fun _ =>
    ((s.setReader_keeps d _ fun _ => ReaderSlot.toPowerUp_lawful _).then (State.place_keeps _ _ _ _)).within (by decide)

/-- A slot whose flag changes on the way to the off command: what it held meanwhile is in no state seen. -/
theorem State.cardRemoved_keeps : Keeps [.tdu, .klc] s (s.cardRemoved d) := by
  have flag : (s.reader d).lawful → ({ s.reader d with dataLost := true } : ReaderSlot).lawful := id
  exact (((s.setReader_keeps d _ flag).then (State.powerOff_keeps _ d)).then (State.pushSlot_keeps _ d _)).within (by decide)

theorem State.powerOffPush_keeps : Keeps [.tdu, .klc] s (s.powerOffPush d) :=
  ((s.powerOff_keeps d).then (State.pushSlotAfter_keeps _ _ _ _)).within (by decide)

theorem State.leaveCardWait_keeps : Keeps [.tdu, .klc] s (s.leaveCardWait d) := .whenever fun _ => s.powerOffPush_keeps d

theorem State.readerReport_keeps {α : Type} {L : List Block} (body : Body α) {act : α → State → State}
    (ha : ∀ r, Keeps L s (act r s)) : Keeps L s (s.readerReport d body act) := by
  unfold State.readerReport
  split
  · exact .whenever fun _ => ha _
  · exact (Keeps.refl s).mono (List.nil_subset L)

theorem State.contacts_keeps (c : Contacts) : Keeps [.tdu, .klc] s (State.contacts d c s) := by
  have moved := s.setReader_keeps d _ fun h => ReaderSlot.contactsMove_lawful h c
  unfold State.contacts
  dsimp only
  split
  case h_1 e =>
    refine .ite (fun _ => moved.within (by decide)) fun _ => .ite (fun _ => (moved.then (State.cardRemoved_keeps _ d)).within (by decide)) fun _ => ?_
    have up : ((s.reader d).contactsMove c).state = .poweringUp := by simp [ReaderSlot.contactsMove, e]
    have noted := State.setReader_keeps (s.setReader d ((s.reader d).contactsMove c)) d
      { (s.setReader d ((s.reader d).contactsMove c)).reader d with removalPending := true } (by
        rw [State.setReader_reader_same]
        unfold ReaderSlot.lawful
        simp only [up]
        exact id)
    exact (moved.then noted).within (by decide)
  case h_2 => exact .ite (fun _ => moved.within (by decide)) fun _ => (moved.then (State.cardRemoved_keeps _ d)).within (by decide)
  case h_3 => exact moved.within (by decide)
  all_goals exact (moved.then (State.pushSlotAfter_keeps _ _ _ _)).within (by decide)

theorem State.partialTimeout_keeps : Keeps [.tdu, .klc] s (State.partialTimeout d s) := by
  unfold State.partialTimeout
  refine .whenever fun h => ((s.setReader_keeps d _ fun law => ?_).then (State.pushSlot_keeps _ _ _)).within (by decide)
  exact (by simpa [ReaderSlot.lawful, h.1] using law.outstanding (by rw [h.1]; rfl))

theorem State.settleEnd_keeps : Keeps [.tdu, .klc] s (State.settleEnd d s) := by
  unfold State.settleEnd
  refine .whenever fun h => (((s.setReader_keeps d _ fun law => ?_).then (State.powerTest_keeps _ d)).then
    (State.pushSlotAfter_keeps _ _ _ _)).within (by decide)
  exact ReaderSlot.classify_lawful (law.outstanding (by rw [h.1]; rfl)) _

end

end Sys2Proof.Machine
end

section
/-! What the rest of the commands of the TDU keep (R88 to R111). -/

namespace Sys2Proof.Machine

section
variable (s : State) (d : Drop)

theorem State.setReader_setReader (r x : ReaderSlot) : (s.setReader d r).setReader d x = s.setReader d x := by
  simp [State.setReader, vput, Vector.set_set]

/-- The off command covers what was written to the slot before it (R88, R90). -/
theorem State.setReader_powerOff (r : ReaderSlot) :
    (s.setReader d r).powerOff d = (s.setReader d r.toPowerDown).place d .reader (.reader .off) := by
  rw [State.powerOff, State.setReader_reader_same, State.setReader_setReader]

theorem State.setReader_powerOff_keeps (r : ReaderSlot) : Keeps [.tdu, .klc] s ((s.setReader d r).powerOff d) := by
  rw [State.setReader_powerOff]
  exact ((s.setReader_keeps d _ fun _ => ReaderSlot.toPowerDown_lawful _).then (State.place_keeps _ _ _ _)).within (by decide)

theorem State.setReader_powerOffPush_keeps (r : ReaderSlot) :
    Keeps [.tdu, .klc] s ((s.setReader d r).powerOffPush d) :=
  ((s.setReader_powerOff_keeps d r).then (State.pushSlotAfter_keeps _ _ _ _)).within (by decide)

theorem State.powerDoneOn_keeps (h : (s.reader d).state = .poweringUp) : Keeps [.tdu, .klc] s (s.powerDoneOn d) := by
  unfold State.powerDoneOn
  refine Keeps.ite (fun _ => s.setReader_powerOffPush_keeps d _) fun _ => (s.setReader_keeps d _ fun _ => ?_).within (by decide)
  simp [ReaderSlot.lawful, h]

theorem State.powerDone_keeps (on : Bool) : Keeps [.tdu, .klc] s (State.powerDone d on s) := by
  unfold State.powerDone
  split
  · rename_i up _; exact s.powerDoneOn_keeps d up
  · rename_i down _
    refine (s.setReader_keeps d _ fun _ => ?_).within (by decide)
    simp [ReaderSlot.lawful, down]
  · exact (Keeps.refl s).within (by decide)

theorem State.powerUpAckTimeout_keeps : Keeps [.tdu, .klc] s (State.powerUpAckTimeout d s) := by
  unfold State.powerUpAckTimeout
  exact .whenever fun _ => s.setReader_powerOffPush_keeps d _

/-- With the delay running the acknowledge has come, so no command is outstanding (R88, R90). -/
theorem ReaderSlot.lawful.delayed {r : ReaderSlot} (h : r.lawful) (delay : r.timing .delay = true) : r.outstanding = .none := by
  unfold ReaderSlot.timing at delay
  split at delay
  · rename_i t running
    have purpose : t.purpose = .delay := by simpa using delay
    cases off : r.state.powered with
    | false => exact h.outstanding off
    | true =>
      unfold ReaderSlot.lawful at h
      rw [running] at h
      cases e : r.state <;> simp only [e, ReaderState.powered] at h off
      case ready => exact h.1
      case poweringUp | poweringDown =>
        obtain ⟨-, acknowledge⟩ | ⟨out, -⟩ := h
        · cases acknowledge; cases purpose
        · exact out
      all_goals cases off
  · cases delay

theorem State.powerUpDelayEnd_keeps : Keeps [.tdu, .klc] s (State.powerUpDelayEnd d s) := by
  unfold State.powerUpDelayEnd
  refine .whenever fun h => .ite (fun _ => ?_) fun _ => s.powerOffPush_keeps d
  refine ((s.setReader_keeps d _ fun law => ?_).then (State.pushSlot_keeps _ _ _)).within (by decide)
  exact ⟨law.delayed h.2, rfl⟩

theorem State.powerDownAckTimeout_keeps : Keeps [.tdu, .klc] s (State.powerDownAckTimeout d s) := by
  unfold State.powerDownAckTimeout
  refine .whenever fun _ => ((s.setReader_keeps d _ fun _ => ?_).then (State.pushSlot_keeps _ _ _)).within (by decide)
  exact ⟨rfl, rfl⟩

theorem State.powerDownDelayEnd_keeps : Keeps [.tdu, .klc] s (State.powerDownDelayEnd d s) := by
  unfold State.powerDownDelayEnd
  refine .whenever fun h => (((s.setReader_keeps d _ fun law => ?_).then (State.powerTest_keeps _ d)).then
    (State.pushSlotAfter_keeps _ _ _ _)).within (by decide)
  unfold ReaderSlot.afterPowerDown
  exact ReaderSlot.ite_lawful ⟨law.delayed h.2, rfl⟩ (ReaderSlot.pulled_lawful (law.delayed h.2))

theorem State.readFailed_keeps (r : Unit) : Keeps [.tdu, .klc] s (State.readFailed d r s) := by
  unfold State.readFailed
  exact .whenever fun _ => ((s.powerOff_keeps d).then (State.pushSlot_keeps _ _ _)).within (by decide)

theorem State.takeToken_keeps (t : Token) : Keeps [.tdu, .klc] s (s.takeToken d t) :=
  ((s.setSession_keeps _ _).then (State.pushTender_keeps _ _)).within (by decide)

theorem State.token_keeps (t : Token) : Keeps [.tdu, .klc] s (State.token d t s) := by
  unfold State.token
  refine .whenever fun _ => ?_
  split
  · exact ((s.takeToken_keeps d t).then (State.powerOffPush_keeps _ d)).within (by decide)
  · exact s.powerOffPush_keeps d

theorem State.loseSlot_keeps : Keeps [.tdu, .klc] s (s.loseSlot d) :=
  (((s.setReader_keeps d _ fun _ => ReaderSlot.reset_lawful).then (State.withdraw_keeps _ _ _)).then
    (State.pushSlotAfter_keeps _ _ _ _)).within (by decide)

theorem State.resetSlot_keeps : Keeps [.tdu, .klc] s (s.resetSlot d) := by
  have reset : Keeps [.tdu] s (s.setReader d ReaderSlot.reset) := s.setReader_keeps d _ fun _ => ReaderSlot.reset_lawful
  unfold State.resetSlot
  dsimp only
  split
  · exact ((reset.then (State.place_keeps _ _ _ _)).then (State.pushSlotAfter_keeps _ _ _ _)).within (by decide)
  · exact (reset.then (State.pushSlotAfter_keeps _ _ _ _)).within (by decide)

/-! ## Tender sessions (R93 to R111) -/

theorem State.idleSession_keeps (o : TenderOutcome) : Keeps [.tdu, .klc] s (s.idleSession d o) :=
  ((s.setSession_keeps _ _).then (State.place_keeps _ _ _ _)).within (by decide)

theorem State.endSession_keeps (o : TenderOutcome) (returns order : List Instr) :
    Keeps [.tdu, .klc, .hlc, .orders] s (s.endSession d o returns order) :=
  (((((s.send_keeps _).then (State.unraise_keeps _ _)).then (State.leaveCardWait_keeps _ d)).then
    (State.send_keeps _ _)).then (State.idleSession_keeps _ d o)).within (by decide)

theorem State.endVoid_keeps (o : TenderOutcome) (order : List Instr) :
    Keeps [.tdu, .klc, .hlc, .orders] s (s.endVoid d o order) :=
  Keeps.within (by decide) (Keeps.then (s.setSession_keeps d _) (State.endSession_keeps (s.keepTimedOut d) d o _ _))

theorem State.cancelSession_keeps : Keeps [.tdu, .klc, .hlc, .orders] s (s.cancelSession d) := s.endSession_keeps d _ _ _

theorem State.tenderStart_keeps (t : TenderStart) : Keeps [.tdu, .klc, .orders] s (s.tenderStart d t) := by
  unfold State.tenderStart
  exact .whenever fun _ => (((s.setSession_keeps _ _).then (State.send_keeps _ _)).then (State.pushTender_keeps _ _)).within (by decide)

theorem State.askPrint_keeps : Keeps [.tdu, .orders] s (s.askPrint d) :=
  ((s.setSession_keeps _ _).then (State.send_keeps _ _)).within (by decide)

theorem State.askVoucher_keeps : Keeps [.tdu, .orders] s (s.askVoucher d) :=
  ((s.setSession_keeps _ _).then (State.send_keeps _ _)).within (by decide)

theorem State.commitZero_keeps : Keeps [.tdu, .klc, .orders] s (s.commitZero d) :=
  ((((s.setSession_keeps _ _).then (State.send_keeps _ _)).then (State.basketReply_keeps _ _ _ _)).then
    (State.pushTender_keeps _ _)).within (by decide)

theorem State.enterCardWait_keeps : Keeps [.tdu, .klc, .orders] s (s.enterCardWait d) := by
  unfold State.enterCardWait
  dsimp only
  refine (((((((s.setSession_keeps _ _).then (State.send_keeps _ _)).then
    (State.setReader_keeps _ d _ ?_)).then (State.basketReply_keeps _ _ _ _)).then (State.pushTender_keeps _ _)).then
      (State.powerTest_keeps _ d)).then (State.pushSlotAfter_keeps _ _ _ _)).within (by decide)
  exact ReaderSlot.lawful.unspent (r := s.reader d)

theorem State.allGranted_keeps : Keeps [.tdu, .klc, .orders] s (s.allGranted d) :=
  .ite (fun _ => s.commitZero_keeps d) fun _ => s.enterCardWait_keeps d

theorem State.granted_keeps (g : Grant) : Keeps [.tdu, .klc, .orders] s (s.granted d g) := by
  unfold State.granted
  have recorded := s.setSession_keeps d ((s.session d).record g)
  cases g with
  | journal n =>
    exact .ite (fun _ => (recorded.then (State.askPrint_keeps _ d)).within (by decide)) fun _ =>
      (recorded.then (State.askVoucher_keeps _ d)).within (by decide)
  | voucher f c => exact (recorded.then (State.askPrint_keeps _ d)).within (by decide)
  | print c => exact (recorded.then (State.allGranted_keeps _ d)).within (by decide)

theorem State.cardWaitTimeout_keeps : Keeps [.tdu, .klc, .hlc, .orders] s (s.cardWaitTimeout d) :=
  .whenever fun _ => s.endSession_keeps d _ _ _

theorem State.authTimeout_keeps : Keeps [.tdu, .klc, .hlc, .orders] s (s.authTimeout d) :=
  .whenever fun _ => s.endVoid_keeps d _ _

theorem State.cancel_keeps (serial : Nat) : Keeps [.tdu, .klc, .hlc, .orders] s (s.cancel d serial) := by
  have replied : ∀ c, Keeps [.tdu, .klc, .hlc, .orders] s (s.cancelReply d c .none) := fun c =>
    (s.cancelReply_keeps d c _).within (by decide)
  have cancelled := ((s.cancelReply_keeps d .ok .none).then (State.cancelSession_keeps _ d)).within (by decide)
    (M := [.tdu, .klc, .hlc, .orders])
  unfold State.cancel
  refine .ite (fun _ => replied _) fun _ => .ite (fun _ => replied _) fun _ => ?_
  split
  · exact cancelled
  · exact cancelled
  all_goals exact replied _

theorem State.offDelivered_keeps : Keeps [.tdu, .klc, .hlc] s (s.offDelivered d) := by
  unfold State.offDelivered
  exact .whenever fun _ => (((s.setSession_keeps _ _).then (State.raise_keeps _ _)).then (State.pushTender_keeps _ _)).within (by decide)

theorem State.loseSession_keeps : Keeps [.tdu, .klc, .hlc, .orders] s (s.loseSession d) := by
  unfold State.loseSession
  split
  · exact ((s.basketReply_keeps _ _ _).then (State.cancelSession_keeps _ d)).within (by decide)
  · exact s.cancelSession_keeps d
  · exact s.cancelSession_keeps d
  all_goals exact (Keeps.refl s).within (by decide)

theorem State.approve_keeps (a : Text) : Keeps [.tdu, .klc, .orders] s (s.approve d a) :=
  (((s.setSession_keeps _ _).then (State.send_keeps _ _)).then (State.pushTender_keeps _ _)).within (by decide)

theorem State.matchedResult_keeps (h : HostTag) (r : AuthResultReq) :
    Keeps [.tdu, .klc, .hlc, .orders] s (s.matchedResult h d r) :=
  .ite (fun _ => ((s.endSession_keeps d _ _ _).then (State.replyHost_keeps _ _ _ _)).within (by decide)) fun _ =>
    .ite (fun _ => ((s.approve_keeps d _).then (State.replyHost_keeps _ _ _ _)).within (by decide)) fun _ =>
      ((s.endSession_keeps d _ _ _).then (State.replyHost_keeps _ _ _ _)).within (by decide)

theorem State.authResult_keeps (h : HostTag) (r : AuthResultReq) :
    Keeps [.tdu, .klc, .hlc, .orders] s (State.authResult h r s) := by
  unfold State.authResult
  refine .ite (fun _ => ?_) fun _ => (s.replyHost_keeps _ _ _).within (by decide)
  split
  · exact s.matchedResult_keeps _ h r
  · exact .ite (fun _ => (s.replyHost_keeps _ _ _).within (by decide)) fun _ => (s.replyHost_keeps _ _ _).within (by decide)

theorem State.confirm_keeps (serial : Nat) : Keeps [.tdu, .klc] s (s.confirm d serial) :=
  .whenever fun _ => s.idleSession_keeps d .sold

theorem State.release_keeps (serial : Nat) : Keeps [.tdu, .klc, .hlc, .orders] s (s.release d serial) := by
  unfold State.release
  refine .whenever fun _ => ?_
  split
  · exact s.endVoid_keeps d _ _
  · exact s.endVoid_keeps d _ _
  all_goals first | exact s.endSession_keeps d _ _ _ | exact (Keeps.refl s).within (by decide)

theorem State.resetSession_keeps : Keeps [.tdu, .klc, .orders] s (s.resetSession d) :=
  .ite (fun _ => (Keeps.refl s).within (by decide)) fun _ => ((s.send_keeps _).then (State.idleSession_keeps _ d _)).within (by decide)

theorem State.resetTender_keeps : Keeps [.tdu, .klc, .orders] s (s.resetTender d) :=
  ((s.resetSession_keeps d).then (State.resetSlot_keeps _ d)).within (by decide)

theorem State.countCardWait_keeps : Keeps [.tdu, .orders] s (s.countCardWait d) := by
  unfold State.countCardWait
  split
  · exact .ite (fun _ => ((s.setSession_keeps _ _).then (State.send_keeps _ _)).within (by decide)) fun _ => (s.setSession_keeps _ _).within (by decide)
  · exact (Keeps.refl s).within (by decide)

theorem State.countAuth_keeps : Keeps [.tdu, .orders] s (s.countAuth d) := by
  unfold State.countAuth
  split
  · exact .ite (fun _ => ((s.setSession_keeps _ _).then (State.send_keeps _ _)).within (by decide)) fun _ => (s.setSession_keeps _ _).within (by decide)
  · exact (Keeps.refl s).within (by decide)

end

end Sys2Proof.Machine
end

section
/-! What the commands of the KLC keep (R165 to R177). -/

namespace Sys2Proof.Machine

/-! ## Drops, visits and rounds (R165 to R177) -/

theorem State.lineLaw_iff {s : State} : s.lineLaw ↔ ∀ l, (s.line l).lawful :=
  ⟨fun h l => by cases l; exacts [h.1, h.2], fun h => ⟨h .a, h .b⟩⟩

theorem dropLine_dropAt (l : LineId) (i : Fin 8) : dropLine (dropAt l i) = l := by
  cases l
  · simp [dropLine, dropAt]
  · simp [dropLine, dropAt]

/-- The law of one drop record (R165, R175). -/
def DropRecord.missesLaw (r : DropRecord) : Prop := r.misses ≤ 3 ∧ (r.misses = 3 → r.state = .offline)

/-- Drop records keep state and miss count, and the lines stay. -/
def dropsSteady (s t : State) : Prop :=
  linesKept s t ∧ ∀ d, (t.dropRec d).state = (s.dropRec d).state ∧ (t.dropRec d).misses = (s.dropRec d).misses

section
variable {s t u : State}

theorem dropsSteady.refl (s : State) : dropsSteady s s := ⟨.refl s, fun _ => ⟨rfl, rfl⟩⟩

theorem dropsSteady.trans (h : dropsSteady s t) (k : dropsSteady t u) : dropsSteady s u :=
  ⟨h.1.trans k.1, fun d => ⟨(k.2 d).1.trans (h.2 d).1, (k.2 d).2.trans (h.2 d).2⟩⟩

theorem dropsSteady.laws (h : dropsSteady s t) : s.dropLaw → s.lineLaw → t.dropLaw ∧ t.lineLaw := dropLaws_of_same h.1 h.2

end

section
variable (s : State)

theorem State.setDropRec_lines (d : Drop) (r : DropRecord) : linesKept s (s.setDropRec d r) := ⟨rfl, rfl⟩

theorem State.setDropRec_steady (d : Drop) (r : DropRecord) (state : r.state = (s.dropRec d).state)
    (misses : r.misses = (s.dropRec d).misses) : dropsSteady s (s.setDropRec d r) := by
  refine ⟨s.setDropRec_lines d r, fun e => ?_⟩
  rw [State.setDropRec_dropRec]
  split
  · rename_i h; subst h; exact ⟨state, misses⟩
  · exact ⟨rfl, rfl⟩

theorem State.setDropRec_keeps_steady (d : Drop) (r : DropRecord) (state : r.state = (s.dropRec d).state)
    (misses : r.misses = (s.dropRec d).misses) : Keeps [.klc] s (s.setDropRec d r) :=
  .of_one (s.setDropRec_kept d r (by decide)) (s.setDropRec_steady d r state misses).laws

theorem State.discardVisit_dropRec (d e : Drop) : (s.discardVisit d).dropRec e = s.dropRec e :=
  s.setLine_dropRec _ _ _

theorem State.setLine_line (l m : LineId) (k : KioskLine) :
    (s.setLine l k).line m = if m = l then k else s.line m := by
  split
  · rename_i h; subst h; exact s.setLine_line_same m k
  · rename_i h; exact s.setLine_line_ne k h

theorem State.discardVisit_line (d : Drop) (l : LineId) :
    (s.discardVisit d).line l = if l = dropLine d then (s.line l).discardVisit d else s.line l := by
  rw [State.discardVisit, State.setLine_line]
  split
  · rename_i h; rw [h]
  · rfl

/-- A record put anew with the visit to its drop discarded: that visit's answer will not count (R166, R177). -/
theorem State.renewDrop_keeps (d : Drop) (r : DropRecord) (h : r.missesLaw) :
    Keeps [.klc] s ((s.setDropRec d r).discardVisit d) := by
  refine .of_one ((s.setDropRec_kept d r (by decide)).trans (State.discardVisit_kept _ d (by decide))) fun law lines => ?_
  have record : ∀ e, ((s.setDropRec d r).discardVisit d).dropRec e = if e = d then r else s.dropRec e := fun e => by
    rw [State.discardVisit_dropRec, State.setDropRec_dropRec]
  have line : ∀ l, ((s.setDropRec d r).discardVisit d).line l =
      if l = dropLine d then (s.line l).discardVisit d else s.line l := fun l => by
    rw [State.discardVisit_line, State.setDropRec_line]
  obtain ⟨misses, visits⟩ := law
  refine ⟨⟨fun e => ?_, fun l v hv => ?_⟩, State.lineLaw_iff.2 fun l => ?_⟩
  · rw [record]
    split
    · exact h
    · exact misses e
  · rw [line] at hv
    rw [record]
    split at hv
    · simp only [KioskLine.discardVisit, Option.map_eq_some_iff] at hv
      obtain ⟨w, hw, rfl⟩ := hv
      obtain ⟨own, counts⟩ := visits l w hw
      by_cases same : w.drop = d
      · simp [same, ← own]
      · simpa [same] using ⟨own, counts⟩
    · rename_i other
      obtain ⟨own, counts⟩ := visits l v hv
      have : v.drop ≠ d := fun e => other (by rw [← own, e])
      rw [if_neg this]
      exact ⟨own, counts⟩
  · rw [line]
    split
    · exact State.lineLaw_iff.1 lines l
    · exact State.lineLaw_iff.1 lines l

theorem State.raiseIfMoved_keeps (d : Drop) (b : DropState) : Keeps [.hlc] s (s.raiseIfMoved d b) :=
  .ite (fun _ => (Keeps.refl s).within (by decide)) fun _ => s.raise_keeps .dropState

theorem State.configure_keeps (d : Drop) (k : DropKind) (p : ReaderSupply) :
    Keeps [.klc, .hlc, .orders] s (s.configure d k p) := by
  unfold State.configure
  refine .ite (fun _ => ?_) fun _ => ?_
  · refine Keeps.within (by decide) (s.setDropRec_keeps_steady d _ ?_ ?_) <;> rfl
  have fresh : ((s.dropRec d).rekind k p).missesLaw := ⟨Nat.zero_le 3, fun h => nomatch h⟩
  exact (((s.renewDrop_keeps d _ fresh).then (State.send_keeps _ _)).then (State.raiseIfMoved_keeps _ _ _)).within (by decide)

theorem State.dropConfig_keeps (h : HostTag) (r : DropConfigReq) :
    Keeps [.klc, .hlc, .orders] s (State.dropConfig h r s) := by
  unfold State.dropConfig
  split
  · split
    · exact .ite (fun _ => (s.replyHost_keeps _ _ _).within (by decide)) fun _ =>
        ((s.configure_keeps _ _ _).then (State.replyHost_keeps _ _ _ _)).within (by decide)
    · exact (s.replyHost_keeps _ _ _).within (by decide)
  · exact (s.replyHost_keeps _ _ _).within (by decide)

theorem State.resetDrop_keeps (d : Drop) : Keeps [.klc, .hlc] s (s.resetDrop d) := by
  have fresh : ({ (s.dropRec d).fresh with state := (s.dropRec d).state.probed } : DropRecord).missesLaw :=
    ⟨Nat.zero_le 3, fun h => nomatch h⟩
  exact ((s.renewDrop_keeps d _ fresh).then (State.raiseIfMoved_keeps _ _ _)).within (by decide)

/-! ### Visits (R170, R171) -/

/-- A line with a lawful round and a visit that is none, or to a drop of its own in use. -/
theorem State.setLine_keeps (l : LineId) (k : KioskLine) (round : (s.line l).lawful → k.lawful)
    (visit : ∀ v, k.visit = some v → (s.line l).visit = some v ∨ dropLine v.drop = l ∧ (s.dropRec v.drop).state ≠ .unused) :
    Keeps [.klc] s (s.setLine l k) := by
  refine .of_one (s.setLine_kept l k (by decide)) fun law lines => ?_
  obtain ⟨misses, visits⟩ := law
  refine ⟨⟨fun d => ?_, fun m v hv => ?_⟩, State.lineLaw_iff.2 fun m => ?_⟩
  · rw [State.setLine_dropRec]; exact misses d
  · rw [State.setLine_dropRec]
    rw [State.setLine_line] at hv
    split at hv
    · rename_i same
      subst same
      obtain old | ⟨own, used⟩ := visit v hv
      · exact visits m v old
      · exact ⟨own, fun _ => used⟩
    · exact visits m v hv
  · rw [State.setLine_line]
    split
    · rename_i same; subst same; exact round (State.lineLaw_iff.1 lines m)
    · exact State.lineLaw_iff.1 lines m

theorem DropRecord.markSent_state (r : DropRecord) (f : SentFrame) : (r.markSent f).state = r.state := by cases f <;> rfl

theorem DropRecord.markSent_misses (r : DropRecord) (f : SentFrame) : (r.markSent f).misses = r.misses := by cases f <;> rfl

theorem DropRecord.due.used {r : DropRecord} {round : Nat} (h : r.due round = true) : r.state ≠ .unused := by
  intro e; simp [DropRecord.due, e] at h

theorem State.dueFrom_due {l : LineId} {round place : Nat} {i : Fin 8} (h : s.dueFrom l round place = some i) :
    place ≤ i.val ∧ (s.dropRec (dropAt l i)).due round = true := by
  have := List.find?_some h
  simpa using this

theorem State.beginVisit_keeps (l : LineId) (round : Nat) (i : Fin 8) (hr : (s.line l).lawful → round ≤ 7)
    (due : (s.dropRec (dropAt l i)).due round = true) : Keeps [.klc] s (s.beginVisit l round i) := by
  have marked := s.setDropRec_keeps_steady (dropAt l i) _
    (DropRecord.markSent_state _ (s.dropRec (dropAt l i)).toSend) (DropRecord.markSent_misses _ _)
  refine (marked.then (State.setLine_keeps _ l _ (fun law => ?_) fun v hv => .inr ?_)).within (by decide)
  · rw [State.setDropRec_line] at law
    exact ⟨hr law, i.isLt⟩
  · obtain rfl := Option.some.inj hv
    refine ⟨dropLine_dropAt l i, ?_⟩
    simp only [visitOf, State.setDropRec_dropRec_same, DropRecord.markSent_state]
    exact DropRecord.due.used due

theorem nextRound_le (n : Nat) : nextRound n ≤ 7 := Nat.le_of_lt_succ (Nat.mod_lt _ (by decide))

theorem State.visitStart_keeps (l : LineId) : Keeps [.klc] s (s.visitStart l) := by
  unfold State.visitStart
  refine Keeps.ite (fun _ => (Keeps.refl s).within (by decide)) fun _ => ?_
  split
  · rename_i i found
    exact s.beginVisit_keeps l _ i (fun law => law.1) (s.dueFrom_due found).2
  refine .ite (fun _ => s.setLine_keeps l _ (fun law => law) fun v hv => .inl hv) fun _ => ?_
  split
  · rename_i i found
    exact s.beginVisit_keeps l _ i (fun _ => nextRound_le _) (s.dueFrom_due found).2
  · exact s.setLine_keeps l _ (fun _ => ⟨nextRound_le _, Nat.zero_le 8⟩) fun v hv => .inl hv

theorem State.roundIdleEnd_keeps (l : LineId) : Keeps [.klc] s (s.roundIdleEnd l) :=
  .whenever fun _ => s.setLine_keeps l _ (fun _ => ⟨nextRound_le _, Nat.zero_le 8⟩) fun _ hv => .inl hv

theorem State.endVisit_keeps (l : LineId) : Keeps [.klc] s (s.endVisit l) :=
  s.setLine_keeps l _ (fun law => law) fun _ hv => nomatch hv

theorem State.endVisit_dropRec (l : LineId) (d : Drop) : (s.endVisit l).dropRec d = s.dropRec d := s.setLine_dropRec _ _ _

/-! ### Answers and misses (R172 to R176) -/

/-- A drop in use whose record takes a lawful state in use keeps the laws. -/
theorem dropLaws_of_record {s t : State} (d : Drop) (lines : linesKept s t) (others : ∀ e, e ≠ d →
      (t.dropRec e).state = (s.dropRec e).state ∧ (t.dropRec e).misses = (s.dropRec e).misses)
    (used : (t.dropRec d).state ≠ .unused) (lawful : (t.dropRec d).missesLaw) (h : s.dropLaw) (k : s.lineLaw) :
    t.dropLaw ∧ t.lineLaw := by
  have line : ∀ l, t.line l = s.line l := by
    intro l
    cases l
    · exact lines.1
    · exact lines.2
  obtain ⟨misses, visits⟩ := h
  refine ⟨⟨fun e => ?_, fun l v hv => ?_⟩, State.lineLaw_iff.2 fun l => line l ▸ State.lineLaw_iff.1 k l⟩
  · by_cases same : e = d
    · rw [same]; exact lawful
    · rw [(others e same).1, (others e same).2]; exact misses e
  · rw [line] at hv
    obtain ⟨own, counts⟩ := visits l v hv
    refine ⟨own, fun nd => ?_⟩
    by_cases same : v.drop = d
    · rw [same]; exact used
    · rw [(others _ same).1]; exact counts nd

theorem State.miss_lines (v : Visit) : linesKept s (s.miss v) := by
  unfold State.miss
  exact .ite (fun _ => ⟨rfl, rfl⟩) fun _ => ⟨rfl, rfl⟩

/-- What a miss leaves of a drop record (R175). -/
theorem State.miss_dropRec (v : Visit) (e : Drop) :
    (s.miss v).dropRec e =
      if e = v.drop then
        let r := (s.dropRec v.drop).missed v.sent
        if r.lost then { r with state := .offline } else r
      else s.dropRec e := by
  unfold State.miss
  simp only [State.setDropRec_dropRec_same]
  by_cases lost : ((s.dropRec v.drop).missed v.sent).lost = true
  · simp only [lost, if_true, State.loseDrop, State.raise_dropRec, State.send_dropRec, State.setDropRec_dropRec]
    split <;> simp_all
  · simp [lost, State.setDropRec_dropRec]

theorem State.miss_laws (v : Visit) (used : (s.dropRec v.drop).state ≠ .unused) :
    s.dropLaw → s.lineLaw → (s.miss v).dropLaw ∧ (s.miss v).lineLaw := by
  intro law
  refine dropLaws_of_record v.drop (s.miss_lines v) (fun e he => by simp [State.miss_dropRec, he]) ?_ ?_ law
  · rw [State.miss_dropRec, if_pos rfl]
    dsimp only
    split
    · simp
    · exact used
  · rw [State.miss_dropRec, if_pos rfl]
    dsimp only
    by_cases lost : ((s.dropRec v.drop).missed v.sent).lost = true
    · rw [if_pos lost]; exact ⟨Nat.min_le_left _ _, fun _ => rfl⟩
    · rw [if_neg lost]
      refine ⟨Nat.min_le_left _ _, fun third => ?_⟩
      have state : ((s.dropRec v.drop).missed v.sent).state = (s.dropRec v.drop).state := rfl
      rw [DropRecord.lost, third, state] at lost
      rw [state]
      cases e : (s.dropRec v.drop).state <;> simp_all

theorem State.miss_linkLaw (v : Visit) (h : s.linkLaw) : (s.miss v).linkLaw := by
  unfold State.miss
  dsimp only
  split
  · exact linkLaw_of_calm id rfl rfl rfl rfl h
  · exact h

/-- After a visit's end its drop is in use, when the visit counts (R170). -/
theorem State.endVisit_used {s : State} {l : LineId} {v : Visit} (law : s.dropLaw) (visit : (s.line l).visit = some v)
    (counts : ¬ v.discard = true) : ((s.endVisit l).dropRec v.drop).state ≠ .unused := by
  rw [State.endVisit_dropRec]
  exact (law.2 l v visit).2 (by simpa using counts)

theorem State.missedVisit_keeps {l : LineId} {v : Visit} (visit : (s.line l).visit = some v) (counts : ¬ v.discard = true) :
    Keeps [.klc, .hlc, .orders] s ((s.endVisit l).miss v) := by
  refine .of_three ((s.setLine_kept l _ (by decide)).trans (State.miss_kept _ v (by decide) (by decide) (by decide)))
    (fun law lines => ?_) (fun h => State.miss_linkLaw _ v ((s.endVisit_keeps l).link h)) trivial
  obtain ⟨drops, rounds⟩ := (s.endVisit_keeps l).drops law lines
  exact State.miss_laws _ v (State.endVisit_used law visit counts) drops rounds

theorem State.visitMiss_keeps (l : LineId) : Keeps [.klc, .hlc, .orders] s (s.visitMiss l) := by
  unfold State.visitMiss
  split
  · rename_i v visit
    exact .ite (fun _ => (s.endVisit_keeps l).within (by decide)) fun counts => s.missedVisit_keeps visit counts
  · exact (Keeps.refl s).within (by decide)

/-- The settlement of a frame keeps state and misses of the record (R173). -/
theorem DropRecord.settle_state (r : DropRecord) (v : Visit) (a : Answer) : (r.settle v a).state = r.state := by
  unfold DropRecord.settle DropRecord.deliverSlot
  split <;> repeat' split
  all_goals rfl

theorem DropRecord.settle_misses (r : DropRecord) (v : Visit) (a : Answer) : (r.settle v a).misses = r.misses := by
  unfold DropRecord.settle DropRecord.deliverSlot
  split <;> repeat' split
  all_goals rfl

theorem State.reportDelivery_steady (d : Drop) (f : Option OutFrame) : dropsSteady s (s.reportDelivery d f) := by
  unfold State.reportDelivery
  split
  · exact s.setDropRec_steady d _ rfl rfl
  all_goals exact ⟨⟨rfl, rfl⟩, fun _ => ⟨rfl, rfl⟩⟩

theorem State.handOn_steady (d : Drop) (toggle : Bool) (body : List Byte) : dropsSteady s (s.handOn d toggle body) := by
  unfold State.handOn
  split
  · exact .refl s
  split
  · split
    · exact s.setDropRec_steady d _ rfl rfl
    · exact s.setDropRec_steady d { s.dropRec d with requestOutstanding := true } rfl rfl
  · exact ⟨⟨rfl, rfl⟩, fun _ => ⟨rfl, rfl⟩⟩

theorem State.takeInbound_steady (d : Drop) (a : Answer) : dropsSteady s (s.takeInbound d a) := by
  unfold State.takeInbound
  split
  · exact (s.setDropRec_steady d { s.dropRec d with inToggle := some (answerToggle a) } rfl rfl).trans
      (State.handOn_steady _ _ _ _)
  · exact .refl s

theorem State.returnIfAway_lines (d : Drop) : linesKept s (s.returnIfAway d) := by
  unfold State.returnIfAway
  split <;> exact ⟨rfl, rfl⟩

theorem State.dropReturn_dropRec_state (d : Drop) : ((s.dropReturn d).dropRec d).state = .online := by
  simp [State.dropReturn, State.pushTender]

theorem State.returnIfAway_used (d : Drop) (h : (s.dropRec d).state ≠ .unused) :
    ((s.returnIfAway d).dropRec d).state = .online := by
  unfold State.returnIfAway
  cases e : (s.dropRec d).state with
  | unused => exact absurd e h
  | online => exact e
  | probing => exact s.dropReturn_dropRec_state d
  | offline => exact s.dropReturn_dropRec_state d

theorem State.dropReturn_dropRec_ne {d e : Drop} (h : e ≠ d) : (s.dropReturn d).dropRec e = s.dropRec e := by
  simp [State.dropReturn, State.pushTender, State.place_dropRec, State.setDropRec_dropRec, h]

theorem State.returnIfAway_dropRec_ne {d e : Drop} (h : e ≠ d) : (s.returnIfAway d).dropRec e = s.dropRec e := by
  unfold State.returnIfAway
  split
  · exact s.dropReturn_dropRec_ne h
  · exact s.dropReturn_dropRec_ne h
  · rfl
  · rfl

/-- A good answer clears the misses of its drop, which is then ONLINE (R173, R176). -/
theorem State.takeAnswer_laws (v : Visit) (a : Answer) (used : (s.dropRec v.drop).state ≠ .unused) :
    s.dropLaw → s.lineLaw → (s.takeAnswer v a).dropLaw ∧ (s.takeAnswer v a).lineLaw := by
  let t := s.returnIfAway v.drop
  let r := ((t.dropRec v.drop).answered v a).settle v a
  have settled : dropsSteady (t.setDropRec v.drop r) (s.takeAnswer v a) :=
    (State.reportDelivery_steady _ _ _).trans (State.takeInbound_steady _ _ _)
  have state : r.state = .online := (DropRecord.settle_state _ v a).trans (s.returnIfAway_used v.drop used)
  have misses : r.misses = 0 := DropRecord.settle_misses _ v a
  have record : ((s.takeAnswer v a).dropRec v.drop).state = .online ∧ ((s.takeAnswer v a).dropRec v.drop).misses = 0 := by
    rw [(settled.2 v.drop).1, (settled.2 v.drop).2, State.setDropRec_dropRec_same]
    exact ⟨state, misses⟩
  refine dropLaws_of_record v.drop ((s.returnIfAway_lines v.drop).trans settled.1) (fun e he => ?_) ?_ ?_
  · rw [(settled.2 e).1, (settled.2 e).2, State.setDropRec_dropRec_ne _ _ _ he, State.returnIfAway_dropRec_ne _ he]
    exact ⟨rfl, rfl⟩
  · rw [record.1]; simp
  · exact ⟨by omega, fun three => by omega⟩

theorem State.takeAnswer_linkLaw (v : Visit) (a : Answer) (h : s.linkLaw) : (s.takeAnswer v a).linkLaw := by
  have returned : (s.returnIfAway v.drop).linkLaw := by
    unfold State.returnIfAway
    split
    · exact linkLaw_of_calm id rfl rfl rfl rfl h
    · exact linkLaw_of_calm id rfl rfl rfl rfl h
    · exact h
    · exact h
  have after := (State.settleAnswer_kept (s.returnIfAway v.drop) (L := [.klc, .orders]) v a (by decide) (by decide)).trans
    (State.takeInbound_kept _ v.drop a (by decide) (by decide))
  have e : (s.takeAnswer v a).hlc = (s.returnIfAway v.drop).hlc := after .hlc (by decide)
  unfold State.linkLaw; rw [e]; exact returned

theorem State.takenVisit_keeps {l : LineId} {v : Visit} (a : Answer) (visit : (s.line l).visit = some v)
    (counts : ¬ v.discard = true) : Keeps [.klc, .hlc, .orders] s ((s.endVisit l).takeAnswer v a) := by
  refine .of_three ((s.setLine_kept l _ (by decide)).trans (State.takeAnswer_kept _ v a (by decide) (by decide) (by decide)))
    (fun law lines => ?_) (fun h => State.takeAnswer_linkLaw _ v a ((s.endVisit_keeps l).link h)) trivial
  obtain ⟨drops, rounds⟩ := (s.endVisit_keeps l).drops law lines
  exact State.takeAnswer_laws _ v a (State.endVisit_used law visit counts) drops rounds

theorem State.goodAnswer_keeps (l : LineId) (a : Answer) : Keeps [.klc, .hlc, .orders] s (s.goodAnswer l a) := by
  unfold State.goodAnswer
  split
  · rename_i v visit
    exact .ite (fun _ => (s.endVisit_keeps l).within (by decide)) fun counts =>
      .ite (fun _ => s.takenVisit_keeps a visit counts) fun _ => s.missedVisit_keeps visit counts
  · exact (Keeps.refl s).within (by decide)

end

end Sys2Proof.Machine
end

section
/-! What the commands of the HLC and the FAU keep (R64 to R81, R179 to R189). -/

namespace Sys2Proof.Machine

/-! ## The host link, the clock and the settings (R179 to R187) -/

/-- The frames found in a stream and what is left of it take no more bytes than the stream has (R179). -/
theorem scanHost_size (fuel : Nat) (bs : List Byte) :
    ((scanHost fuel bs).1.map hostFrameSize).sum + (scanHost fuel bs).2.1.length ≤ bs.length := by
  induction fuel generalizing bs with
  | zero => simp [scanHost]
  | succ fuel ih =>
    have part : (bs.dropWhile (· != 90#8)).length ≤ bs.length := (List.dropWhile_sublist _).length_le
    unfold scanHost
    split
    · rename_i x l1 l2 rest found
      simp only [found, List.length_cons] at part
      have again := ih (l1 :: l2 :: rest)
      have after := ih (rest.drop (beValue [l1, l2] + 5))
      simp only [List.length_cons, List.length_drop] at again after
      dsimp only
      split
      · dsimp only; omega
      split
      · simp only [List.map_nil, List.sum_nil, List.length_cons]; omega
      split
      · simp only [List.map_cons, List.sum_cons, hostFrameSize, List.length_take, List.length_drop] at after ⊢; omega
      · dsimp only; omega
    · simpa using part

section
variable (s : State)

theorem State.setHlc_keeps (x : Hlc) (h : s.linkLaw → (s.setHlc x).linkLaw) : Keeps [.hlc] s (s.setHlc x) :=
  .of_one (s.setHlc_kept x (by decide)) h

theorem State.receive_keeps (b : Byte) : Keeps [.hlc] s (s.receive b) := by
  refine .ite (fun _ => (Keeps.refl s).within (by decide)) fun room => s.setHlc_keeps _ fun law => ?_
  obtain ⟨replies, -, -, levels⟩ := law
  refine ⟨replies, ?_, Nat.min_le_left _ _, levels⟩
  have size := scanHost_size ((s.hlc.bytes ++ [b]).length + 1) (s.hlc.bytes ++ [b])
  simp only [Hlc.occupancy, Hlc.scan, State.setHlc, List.map_append, List.sum_append, List.length_append,
    List.length_singleton] at *
  omega

theorem State.status_keeps (h : HostTag) (r : Unit) : Keeps [.hlc] s (State.status h r s) := s.replyHost_keeps _ _ _

/-- A frame taken makes room in the buffer (R180). -/
theorem State.takeFrame_keeps {f : HostFrame} {rest : List HostFrame} (oldest : s.hlc.frames = f :: rest) :
    Keeps [.hlc] s (s.takeFrame f rest) := by
  refine s.setHlc_keeps _ fun law => ?_
  obtain ⟨replies, room, discards, levels⟩ := law
  refine ⟨replies, ?_, discards, levels⟩
  simp only [Hlc.occupancy, State.setHlc, oldest, List.map_cons, List.sum_cons] at *
  omega

theorem State.takeStatus_keeps (f : HostFrame) : Keeps [.hlc] s (s.takeStatus f) := by
  unfold State.takeStatus
  split
  · exact s.status_keeps _ _
  · exact s.replyHost_keeps _ _ _

theorem State.noticeLevels_keeps (h : HostTag) (l : Levels) : Keeps [.hlc] s (State.noticeLevels h l s) := by
  unfold State.noticeLevels
  refine .ite (fun ok => ?_) fun _ => s.replyHost_keeps _ _ _
  refine ((s.setHlc_keeps { s.hlc with levels := l } fun law => ?_).then (State.replyHost_keeps _ _ _ _)).within (by decide)
  obtain ⟨replies, room, discards, -⟩ := law
  exact ⟨replies, room, discards, ok⟩

theorem State.frameEnd_keeps : Keeps [.hlc] s (s.setHlc { s.hlc with tx := none }) := s.setHlc_keeps _ id

theorem State.storeSettings_keeps (r : SiteReq) (p : PricingSettings) (pl : Bool) :
    Keeps [.fau, .pru, .vcu, .hlc] s (s.storeSettings r p pl) := by
  let x := s.setFau (s.fau.store p)
  let q : Pru := { s.pru with printLater := pl, backlog := clamp 2 16 r.backlog }
  have prices : Keeps [.fau] s x := s.setFau_keeps _
  have printing : Keeps [.pru] x (x.setPru q) := .of_one (x.setPru_kept q (by decide)) id
  have retention := (x.setPru q).setVcu_keeps_table (v := { s.vcu with retention := clamp 10 1440 r.retention }) rfl rfl
  have link := State.setHlc_keeps ((x.setPru q).setVcu { s.vcu with retention := clamp 10 1440 r.retention })
    { s.hlc with hold := clamp 60 600 r.hold, cardWait := clamp 20 180 r.cardWait
                 authTimeout := clamp 15 120 r.authTimeout } id
  exact (((prices.then printing).then retention).then link).within (by decide)

theorem State.setSite_keeps (h : HostTag) (r : SiteReq) :
    Keeps [.fau, .pru, .vcu, .hlc] s (State.setSite h r s) := by
  unfold State.setSite
  split
  · exact ((s.storeSettings_keeps _ _ _).then (State.replyHost_keeps _ _ _ _)).within (by decide)
  · exact (s.replyHost_keeps _ _ _).within (by decide)

theorem State.countStore_keeps : Keeps [.orders] s s.countStore := .whenever fun _ => s.send_keeps _

/-! ## Prices (R64 to R67, R70, R80) -/

theorem State.priceChange_keeps (h : HostTag) (f : Fau) : Keeps [.fau, .hlc] s (s.priceChange h f) :=
  ((s.setFau_keeps _).then (State.replyHost_keeps _ _ _ _)).within (by decide)

theorem State.tariffLoad_keeps (h : HostTag) (r : TariffReq) : Keeps [.fau, .hlc] s (State.tariffLoad h r s) := by
  unfold State.tariffLoad
  split
  · exact (s.replyHost_keeps _ _ _).within (by decide)
  split
  · exact s.priceChange_keeps _ _
  · exact (s.replyHost_keeps _ _ _).within (by decide)

theorem State.daypartLoad_keeps (h : HostTag) (r : DaypartReq) : Keeps [.fau, .hlc] s (State.daypartLoad h r s) :=
  .ite (fun _ => s.priceChange_keeps _ _) fun _ => (s.replyHost_keeps _ _ _).within (by decide)

theorem State.overlaySet_keeps (h : HostTag) (r : OverlayReq) : Keeps [.fau, .hlc] s (State.overlaySet h r s) := by
  unfold State.overlaySet
  split
  · exact .ite (fun _ => s.priceChange_keeps _ _) fun _ => (s.replyHost_keeps _ _ _).within (by decide)
  · exact (s.replyHost_keeps _ _ _).within (by decide)

theorem State.catalogueLoad_keeps (h : HostTag) (l : List ItemSetting) : Keeps [.fau, .hlc] s (State.catalogueLoad h l s) :=
  .ite (fun _ => s.priceChange_keeps _ _) fun _ => (s.replyHost_keeps _ _ _).within (by decide)

theorem State.fareQuote_keeps (h : HostTag) (r : FareQuoteReq) : Keeps [.hlc] s (State.fareQuote h r s) := by
  unfold State.fareQuote
  split <;> exact s.replyHost_keeps _ _ _

end

end Sys2Proof.Machine
end

section
/-! What putting the seats of lines in a state does to every screening (R13, R15, R16, R26, R47). -/

namespace Sys2Proof.Machine

/-! ## Seat records and their counts (R15, R16) -/

/-- The number a state adds to the count of those that pass a test. -/
def SeatState.tally (p : SeatState → Bool) (x : SeatState) : Nat := if p x then 1 else 0

/-- A count of `n` records becomes `m` as one record, among the `n`, moves from one state to another. -/
def SeatState.moves (old new : SeatState) (p : SeatState → Bool) (n m : Nat) : Prop :=
  m + old.tally p = n + new.tally p ∧ old.tally p ≤ n

/-- The four counts of a screening follow its records (R16). -/
theorem SeatCounts.of_moves {c : SeatCounts} {old new : SeatState} {f f' h h' s s' b b' : Nat}
    (free : old.moves new (· == .free) f f') (held : old.moves new SeatState.isHeld h h')
    (sold : old.moves new SeatState.isSold s s') (blocked : old.moves new (· == .blocked) b b')
    (now : c.free = f ∧ c.held = h ∧ c.sold = s ∧ c.blocked = b) :
    ((c.dec old).inc new).free = f' ∧ ((c.dec old).inc new).held = h' ∧ ((c.dec old).inc new).sold = s' ∧
      ((c.dec old).inc new).blocked = b' := by
  cases old <;> cases new <;>
    simp [SeatState.moves, SeatState.tally, SeatState.isHeld, SeatState.isSold, SeatCounts.dec, SeatCounts.inc] at * <;> omega

namespace Screening

theorem countOf_eq (sc : Screening) (p : SeatState → Bool) : sc.countOf p = sc.seats.countP fun r => p r.state :=
  (List.countP_eq_length_filter ..).symm

@[simp] theorem setSeat_addrs (sc : Screening) (a : SeatAddr) (new : SeatState) :
    (sc.setSeat a new).seats.map (·.addr) = sc.seats.map (·.addr) := by
  unfold setSeat
  split
  · rfl
  · simp only [List.map_map]
    refine List.map_congr_left fun r _ => ?_
    simp only [Function.comp]; split <;> rfl

@[simp] theorem setSeat_number (sc : Screening) (a : SeatAddr) (new : SeatState) : (sc.setSeat a new).number = sc.number := by
  rw [setSeat_form]

@[simp] theorem setSeat_layout (sc : Screening) (a : SeatAddr) (new : SeatState) : (sc.setSeat a new).layout = sc.layout := by
  rw [setSeat_form]

@[simp] theorem setSeat_state (sc : Screening) (a : SeatAddr) (new : SeatState) : (sc.setSeat a new).state = sc.state := by
  rw [setSeat_form]

/-- One record a seat, so a seat's new state moves one record from the old state's count to the new one's. -/
theorem countP_setSeat {l : List SeatRecord} (distinct : (l.map (·.addr)).Nodup) {a : SeatAddr} {old : SeatState}
    (found : (l.find? fun r => r.addr == a).map (·.state) = some old) (new : SeatState) (p : SeatState → Bool) :
    old.moves new p (l.countP fun r => p r.state)
      ((l.map fun r => if r.addr == a then { r with state := new } else r).countP fun r => p r.state) := by
  unfold SeatState.moves SeatState.tally
  induction l with
  | nil => simp at found
  | cons r l ih =>
    simp only [List.map_cons, List.nodup_cons] at distinct
    by_cases here : r.addr = a
    · have rest : l.map (fun x => if x.addr == a then { x with state := new } else x) = l := by
        refine (List.map_congr_left fun x hx => ?_).trans (List.map_id l)
        have : x.addr ≠ a := fun e => distinct.1 (by rw [here, ← e]; exact List.mem_map_of_mem hx)
        simp [this]
      simp only [List.find?_cons, here, beq_self_eq_true, Option.map_some, Option.some.injEq] at found
      simp only [List.map_cons, here, beq_self_eq_true, if_true, List.countP_cons, rest, found]
      omega
    · simp only [List.find?_cons, beq_eq_false_iff_ne.2 here] at found
      have := ih distinct.2 found
      simp only [List.map_cons, beq_eq_false_iff_ne.2 here, List.countP_cons]
      simp only [Bool.false_eq_true, if_false]
      omega

/-- Setting a seat keeps the counts those of the records (R16). -/
theorem counted.setSeat {sc : Screening} (h : sc.counted) (a : SeatAddr) (new : SeatState) : (sc.setSeat a new).counted := by
  obtain ⟨distinct, free, held, sold, blocked⟩ := h
  refine ⟨by rw [setSeat_addrs]; exact distinct, ?_⟩
  unfold Screening.setSeat
  cases e : sc.stateAt a with
  | none => exact ⟨free, held, sold, blocked⟩
  | some old =>
    have count := countP_setSeat distinct e new
    simp only [countOf_eq] at *
    exact SeatCounts.of_moves (count (· == .free)) (count SeatState.isHeld) (count SeatState.isSold) (count (· == .blocked))
      ⟨free, held, sold, blocked⟩

theorem setSeat_held_zero {sc : Screening} (a : SeatAddr) {new : SeatState} (hn : new.isHeld = false)
    (h : sc.counts.held = 0) : (sc.setSeat a new).counts.held = 0 := by
  unfold Screening.setSeat
  split
  · exact h
  · rename_i old _
    cases old <;> cases new <;> simp_all [SeatCounts.dec, SeatCounts.inc, SeatState.isHeld]

theorem stateAt_eq_some {sc : Screening} {a : SeatAddr} {x : SeatState} (distinct : (sc.seats.map (·.addr)).Nodup) :
    sc.stateAt a = some x ↔ ⟨a, x⟩ ∈ sc.seats := by
  unfold stateAt
  constructor
  · intro h
    obtain ⟨r, hr, rfl⟩ := Option.map_eq_some_iff.1 h
    obtain rfl : r.addr = a := by simpa using List.find?_some hr
    exact List.mem_of_find?_eq_some hr
  · intro h
    cases e : sc.seats.find? (fun r => r.addr == a) with
    | none =>
      have := List.find?_eq_none.1 e _ h
      simp at this
    | some r =>
      obtain same : r.addr = a := by simpa using List.find?_some e
      have := List.inj_on_of_nodup_map distinct (List.mem_of_find?_eq_some e) h same
      rw [this]; rfl

/-- No record is HELD exactly when no seat's state is. -/
theorem noHeld_iff {sc : Screening} (distinct : (sc.seats.map (·.addr)).Nodup) :
    (∀ r ∈ sc.seats, r.state.isHeld = false) ↔ ∀ a d k, sc.stateAt a ≠ some (.held d k) := by
  constructor
  · intro h a d k e
    have := h _ ((stateAt_eq_some distinct).1 e)
    simp [SeatState.isHeld] at this
  · intro h r hr
    cases e : r.state with
    | held d k =>
      refine absurd ((stateAt_eq_some distinct).2 ?_) (h r.addr d k)
      rw [← e]; exact hr
    | _ => rfl

/-- A held count of 0 leaves no record HELD (R16). -/
theorem counted.noHeld {sc : Screening} (h : sc.counted) (zero : sc.counts.held = 0) : ∀ r ∈ sc.seats, r.state.isHeld = false := by
  obtain ⟨-, -, held, -, -⟩ := h
  rw [held, countOf_eq, List.countP_eq_zero] at zero
  simpa using zero

theorem tested_number (sc : Screening) : sc.tested.number = sc.number := by unfold tested; split <;> rfl
theorem tested_layout (sc : Screening) : sc.tested.layout = sc.layout := by unfold tested; split <;> rfl
theorem tested_seats (sc : Screening) : sc.tested.seats = sc.seats := by unfold tested; split <;> rfl
theorem tested_counts (sc : Screening) : sc.tested.counts = sc.counts := by unfold tested; split <;> rfl

end Screening

/-! ## Seats put in one state, line by line (R13, R26, R47) -/

/-- What putting the seats of lines in a state leaves of one screening. -/
structure putIn (lines : List BasketLine) (new : SeatState) (sc y : Screening) : Prop where
  form : y = { sc with state := y.state, counts := y.counts, seats := y.seats }
  closing : sc.state = .closing → lines.any (BasketLine.inScreening sc.number) = true →
    y.state = if y.counts.held = 0 then .closed else .closing
  stays : sc.state ≠ .closing ∨ lines.any (BasketLine.inScreening sc.number) = false → y.state = sc.state
  apart : lines.any (BasketLine.inScreening sc.number) = false → y = sc
  seats : ∀ a, y.stateAt a = if lines.any (BasketLine.names sc.number a) then (sc.stateAt a).map (fun _ => new) else sc.stateAt a
  held : sc.counts.held = 0 → y.counts.held = 0
  counted : sc.counted → y.counted
  addrs : y.seats.map (·.addr) = sc.seats.map (·.addr)

/-- What putting the seats of lines in a state leaves of every screening. -/
def putAll (lines : List BasketLine) (new : SeatState) (s u : State) : Prop :=
  ∀ i : Fin 16, (s.screening i = none → u.screening i = none) ∧
    ∀ sc, s.screening i = some sc → ∃ y, u.screening i = some y ∧ putIn lines new sc y

theorem putAll.seatsPut {lines : List BasketLine} {new : SeatState} {s u : State} (h : putAll lines new s u) :
    seatsPut lines new s u := fun i => ⟨(h i).1, fun sc hsc => by
  obtain ⟨y, hy, p⟩ := (h i).2 sc hsc
  have f := p.form
  exact ⟨y, hy, by rw [f], by rw [f], by rw [f], p.closing, p.stays, p.seats⟩⟩

theorem putIn.refl {lines : List BasketLine} {new : SeatState} {sc : Screening}
    (h : lines.any (BasketLine.inScreening sc.number) = false) : putIn lines new sc sc where
  form := rfl
  closing _ k := by rw [h] at k; cases k
  stays _ := rfl
  apart _ := rfl
  seats a := by
    have : lines.any (BasketLine.names sc.number a) = false := by
      simp only [List.any_eq_false] at h ⊢
      exact fun l hl e => h l hl (BasketLine.names_inScreening e)
    rw [this]; rfl
  held := id
  counted := id
  addrs := rfl

theorem putIn.trans {ls ms : List BasketLine} {new : SeatState} {x y z : Screening} (h : putIn ls new x y)
    (k : putIn ms new y z) : putIn (ls ++ ms) new x z := by
  have number : y.number = x.number := by rw [h.form]
  have kc := k.closing
  have ks := k.stays
  have ka := k.seats
  rw [number] at kc ks ka
  refine ⟨by rw [k.form, h.form], fun closing hit => ?_, fun same => ?_, fun apart => ?_, fun a => ?_, k.held ∘ h.held, k.counted ∘ h.counted,
    k.addrs.trans h.addrs⟩
  · rw [List.any_append, Bool.or_eq_true] at hit
    by_cases first : ls.any (BasketLine.inScreening x.number) = true
    · have hy := h.closing closing first
      by_cases zero : y.counts.held = 0
      · rw [if_pos zero] at hy
        rw [ks (.inl (by rw [hy]; simp)), hy, if_pos (k.held zero)]
      · rw [if_neg zero] at hy
        by_cases second : ms.any (BasketLine.inScreening x.number) = true
        · exact kc hy second
        · rw [k.apart (by rw [number]; simpa using second), hy, if_neg zero]
    · have hy := h.stays (.inr (by simpa using first))
      exact kc (hy.trans closing) (hit.resolve_left first)
  · rw [List.any_append, Bool.or_eq_false_iff] at same
    rw [ks (same.imp (fun n => by rwa [h.stays (.inl n)]) And.right), h.stays (same.imp_right And.left)]
  · rw [List.any_append, Bool.or_eq_false_iff] at apart
    rw [k.apart (by rw [number]; exact apart.2), h.apart apart.1]
  · rw [ka a, h.seats a, List.any_append]
    cases ls.any (BasketLine.names x.number a) <;> cases ms.any (BasketLine.names x.number a) <;> simp [Function.comp_def]

/-- The seats of lines are put in one state, in order: `releaseLines` and `sellBasket` are this. -/
def State.putLines (s : State) (new : SeatState) (ls : List BasketLine) : State :=
  ls.foldl (fun t l => match l with | .seat n a _ _ _ _ => t.putSeat n a new | _ => t) s

theorem State.releaseLines_eq (s : State) (ls : List BasketLine) : s.releaseLines ls = s.putLines .free ls := by
  unfold State.releaseLines State.putLines
  congr 1

theorem State.sellBasket_eq (s : State) (b : Basket) (sale : Nat) : s.sellBasket b sale = s.putLines (.sold sale .kiosk) b.lines := by
  unfold State.sellBasket State.putLines
  congr 1

theorem State.findScreening_none {s : State} {n : Nat} (h : s.findScreening n = none) {i : Fin 16} {sc : Screening}
    (hi : s.screening i = some sc) : sc.number ≠ n := by
  have := List.findSome?_eq_none_iff.1 h i (List.mem_finRange i)
  simpa [hi] using this

theorem putAll.numbersDistinct {lines : List BasketLine} {new : SeatState} {s u : State} (h : putAll lines new s u)
    (nd : s.numbersDistinct) : u.numbersDistinct := by
  have back : ∀ i x, u.screening i = some x → ∃ sc, s.screening i = some sc ∧ x.number = sc.number := by
    intro i x hx
    cases e : s.screening i with
    | none => rw [(h i).1 e] at hx; cases hx
    | some sc =>
      obtain ⟨y, hy, p⟩ := (h i).2 sc e
      rw [hx] at hy; cases hy
      exact ⟨sc, rfl, by rw [p.form]⟩
  intro i j x y hx hy e
  obtain ⟨a, ha, ea⟩ := back i x hx
  obtain ⟨b, hb, eb⟩ := back j y hy
  exact nd i j a b ha hb (by rw [← ea, ← eb, e])

theorem putAll.trans {ls ms : List BasketLine} {new : SeatState} {s t u : State} (h : putAll ls new s t)
    (k : putAll ms new t u) : putAll (ls ++ ms) new s u := fun i =>
  ⟨fun e => (k i).1 ((h i).1 e), fun sc e => by
    obtain ⟨y, hy, p⟩ := (h i).2 sc e
    obtain ⟨z, hz, q⟩ := (k i).2 y hy
    exact ⟨z, hz, p.trans q⟩⟩

theorem putAll.refl {lines : List BasketLine} (h : ∀ l ∈ lines, l.isSeat = false) (new : SeatState) (s : State) :
    putAll lines new s s := fun i => ⟨id, fun sc e => ⟨sc, e, .refl (by
      simp only [List.any_eq_false]
      intro l hl
      have := h l hl
      cases l <;> simp_all [BasketLine.inScreening, BasketLine.isSeat])⟩⟩

theorem State.putSeat_putAll (s : State) (nd : s.numbersDistinct) (n : Nat) (a : SeatAddr) (k : SeatKind) (c : Concession)
    (m g : Nat) {new : SeatState} (hn : new.isHeld = false) : putAll [.seat n a k c m g] new s (s.putSeat n a new) := by
  cases e : s.findScreening n with
  | none =>
    rw [State.putSeat_none _ _ _ _ e]
    exact fun i => ⟨id, fun sc hi => ⟨sc, hi, .refl (by
      simpa [BasketLine.inScreening] using (State.findScreening_none e hi).symm)⟩⟩
  | some p =>
    obtain ⟨i, x⟩ := p
    have hx := State.findScreening_slot e
    obtain rfl := State.findScreening_number e
    intro j
    rw [State.putSeat_screening _ _ _ _ i j x e]
    by_cases same : j = i
    · subst same
      rw [if_pos rfl]
      refine ⟨fun none => (by rw [hx] at none; cases none), fun sc hsc => ?_⟩
      obtain rfl : x = sc := by rw [hx] at hsc; exact Option.some.inj hsc
      refine ⟨_, rfl, ?_, fun closing _ => ?_, fun stays => ?_, fun apart => ?_, fun b => ?_, fun zero => ?_, fun h => ?_, ?_⟩
      · unfold Screening.tested
        split
        · rw [Screening.setSeat_form]
        · rw [Screening.setSeat_form]
      · unfold Screening.tested
        rw [Screening.setSeat_state]
        split
        · rename_i h; rw [if_pos h.2]
        · rename_i h
          rw [Screening.setSeat_state, closing, if_neg fun z => h ⟨closing, z⟩]
      · have : x.state ≠ .closing := stays.resolve_right (by simp [BasketLine.inScreening])
        unfold Screening.tested
        rw [if_neg (by rw [Screening.setSeat_state]; exact fun h => this h.1), Screening.setSeat_state]
      · simp [BasketLine.inScreening] at apart
      · rw [Screening.tested_stateAt, Screening.stateAt_setSeat]
        by_cases h : b = a
        · subst h; simp [BasketLine.names]
        · simp [BasketLine.names, h, Ne.symm h]
      · rw [Screening.tested_counts]; exact Screening.setSeat_held_zero a hn zero
      · have := h.setSeat a new
        unfold Screening.counted Screening.countOf at *
        rw [Screening.tested_counts, Screening.tested_seats]
        exact this
      · rw [Screening.tested_seats, Screening.setSeat_addrs]
    · rw [if_neg same]
      refine ⟨id, fun sc hsc => ⟨sc, hsc, .refl ?_⟩⟩
      have : sc.number ≠ x.number := fun e => same (nd j i sc x hsc hx e)
      simpa [BasketLine.inScreening] using this.symm

/-- Where no number is in two slots, putting the seats of lines in a state reaches exactly those seats (R13, R26, R47). -/
theorem State.putLines_putAll {new : SeatState} (hn : new.isHeld = false) (ls : List BasketLine) (s : State)
    (nd : s.numbersDistinct) : putAll ls new s (s.putLines new ls) := by
  induction ls generalizing s with
  | nil => exact .refl (by simp) new s
  | cons l ls ih =>
    cases l with
    | seat n a k c m g =>
      have first := s.putSeat_putAll nd n a k c m g hn
      exact first.trans (ih _ (first.numbersDistinct nd))
    | snack i m g => exact putAll.trans (ls := [.snack i m g]) (.refl (by simp [BasketLine.isSeat]) new s) (ih s nd)
    | void => exact putAll.trans (ls := [.void]) (.refl (by simp [BasketLine.isSeat]) new s) (ih s nd)

end Sys2Proof.Machine
end

section
/-! The laws of seats and of holds under the seat operations (R15, R16, R26). -/

namespace Sys2Proof.Machine

/-! ## The law of the counts under the seat operations (R15, R16) -/

/-- What the law of the counts asks of one screening. -/
def State.seated (s : State) (sc : Screening) : Prop :=
  sc.counted ∧ (s.layout sc.layout).state = .ready ∧ sc.seats.map (·.addr) = (s.layout sc.layout).seatAddrs

/-- With the layouts as they were, the law of the counts is that of each screening. -/
theorem State.seatLaw.of_screenings {s t : State} (h : s.seatLaw) (layouts : ∀ j, t.layout j = s.layout j)
    (screenings : ∀ i y, t.screening i = some y → s.screening i = some y ∨ s.seated y) : t.seatLaw := by
  obtain ⟨ready, seated⟩ := h
  refine ⟨fun j => by rw [layouts]; exact ready j, fun i y hy => ?_⟩
  rw [layouts]
  exact (screenings i y hy).elim (seated i y) id

theorem State.seatLaw.seated {s : State} (h : s.seatLaw) {i : Fin 16} {sc : Screening} (hi : s.screening i = some sc) :
    s.seated sc := h.2 i sc hi

/-- A screening whose seats alone change, address by address, is seated where it was. -/
theorem State.seated.congr {s : State} {sc y : Screening} (h : s.seated sc) (counted : y.counted)
    (layout : y.layout = sc.layout) (addrs : y.seats.map (·.addr) = sc.seats.map (·.addr)) : s.seated y := by
  obtain ⟨-, ready, same⟩ := h
  refine ⟨counted, by rw [layout]; exact ready, by rw [layout, addrs]; exact same⟩

theorem State.setScreening_seatLaw {s : State} (i : Fin 16) {o : Option Screening} (h : s.seatLaw)
    (ho : ∀ y, o = some y → s.seated y) : (s.setScreening i o).seatLaw := by
  refine h.of_screenings (fun _ => rfl) fun j y hy => ?_
  rw [State.setScreening_screening] at hy
  split at hy
  · exact .inr (ho y hy)
  · exact .inl hy

theorem Screening.counted.tested {sc : Screening} (h : sc.counted) : sc.tested.counted := by
  unfold Screening.counted Screening.countOf at *
  rw [Screening.tested_counts, Screening.tested_seats]
  exact h

theorem State.closeTest_layout (s : State) (i : Fin 16) (j : Fin 8) : (s.closeTest i).layout j = s.layout j := by
  unfold State.closeTest
  split
  · split <;> rfl
  · rfl

theorem State.closeTest_basket (s : State) (i : Fin 16) (d : Drop) : (s.closeTest i).basket d = s.basket d := by
  unfold State.closeTest
  split
  · split <;> rfl
  · rfl

theorem State.closeTest_seatLaw {s : State} (i : Fin 16) (h : s.seatLaw) : (s.closeTest i).seatLaw := by
  refine h.of_screenings (s.closeTest_layout i) fun j y hy => ?_
  rw [State.closeTest_screening] at hy
  split at hy
  · obtain ⟨sc, hsc, rfl⟩ := Option.map_eq_some_iff.1 hy
    exact .inr ((h.seated hsc).congr (h.seated hsc).1.tested sc.tested_layout (by rw [Screening.tested_seats]))
  · exact .inl hy

theorem State.putSeat_seatLaw {s : State} (n : Nat) (a : SeatAddr) (new : SeatState) (h : s.seatLaw) :
    (s.putSeat n a new).seatLaw := by
  unfold State.putSeat
  split
  · rename_i i sc found
    have seated := h.seated (State.findScreening_slot found)
    refine State.closeTest_seatLaw i (State.setScreening_seatLaw i h fun y hy => ?_)
    obtain rfl := Option.some.inj hy
    exact seated.congr (seated.1.setSeat a new) (by simp) (by simp)
  · exact h

theorem State.putLines_seatLaw {new : SeatState} (ls : List BasketLine) {s : State} (h : s.seatLaw) :
    (s.putLines new ls).seatLaw := by
  unfold State.putLines
  refine List.foldlRecOn (motive := State.seatLaw) ls _ h fun t ht l _ => ?_
  cases l with
  | seat n a _ _ _ _ => exact t.putSeat_seatLaw n a new ht
  | snack _ _ _ => exact ht
  | void => exact ht

theorem State.putLines_sameBaskets {new : SeatState} (ls : List BasketLine) (s : State) :
    sameBaskets s (s.putLines new ls) := by
  unfold State.putLines
  refine List.foldlRecOn (motive := sameBaskets s) ls _ ⟨fun _ => rfl, fun _ => rfl⟩ fun t ht l _ => ?_
  obtain ⟨baskets, layouts⟩ := ht
  cases l with
  | seat n a _ _ _ _ =>
    obtain ⟨b, y⟩ := t.putSeat_sameBaskets n a new
    exact ⟨fun d => (b d).trans (baskets d), fun j => (y j).trans (layouts j)⟩
  | snack _ _ _ => exact ⟨baskets, layouts⟩
  | void => exact ⟨baskets, layouts⟩

theorem State.putLines_kept {new : SeatState} (ls : List BasketLine) (s : State) :
    keptBut [.sbu, .hlc] s (s.putLines new ls) := by
  refine keptBut.foldl (fun t l => ?_) ls s
  cases l with
  | seat n a _ _ _ _ => exact t.putSeat_kept n a new (by decide) (by decide)
  | snack _ _ _ => exact .refl _ _
  | void => exact .refl _ _

/-- The closing test raises SCREENING at most, so the link keeps its bounds (R13). -/
theorem State.closeTest_linkLaw {s : State} (i : Fin 16) (h : s.linkLaw) : (s.closeTest i).linkLaw := by
  unfold State.closeTest
  split
  · split
    · exact linkLaw_of_calm id rfl rfl rfl rfl h
    · exact h
  · exact h

theorem State.putLines_linkLaw {new : SeatState} (ls : List BasketLine) {s : State} (h : s.linkLaw) :
    (s.putLines new ls).linkLaw := by
  unfold State.putLines
  refine List.foldlRecOn (motive := State.linkLaw) ls _ h fun t ht l _ => ?_
  cases l with
  | seat n a _ _ _ _ =>
    show (t.putSeat n a new).linkLaw
    unfold State.putSeat
    split
    · exact State.closeTest_linkLaw _ ht
    · exact ht
  | snack _ _ _ => exact ht
  | void => exact ht

/-! ## Held seats and the lines that hold them (R15, R26) -/

/-- A slot of a stack is a SEAT line naming a seat. -/
def holdsAt (ls : List BasketLine) (k n : Nat) (a : SeatAddr) : Prop := ∃ l, ls[k]? = some l ∧ l.names n a = true

theorem holdsAt_nil {k n : Nat} {a : SeatAddr} : ¬ holdsAt [] k n a := fun ⟨_, h, _⟩ => by simp at h

/-- No seat is held for two slots (R15). -/
theorem State.holdLaw.sole {s : State} (h : s.holdLaw) {d e : Drop} {j k n : Nat} {a : SeatAddr}
    (hd : holdsAt (s.basket d).lines j n a) (he : holdsAt (s.basket e).lines k n a) : d = e ∧ j = k := by
  obtain ⟨distinct, -, -, seat⟩ := h
  obtain ⟨l, hl, ln⟩ := hd
  obtain ⟨m, hm, mn⟩ := he
  obtain ⟨i, sc, hi, number, state⟩ := seat d j n a l hl ln
  obtain ⟨i', sc', hi', number', state'⟩ := seat e k n a m hm mn
  obtain rfl := distinct i i' sc sc' hi hi' (number.trans number'.symm)
  rw [hi] at hi'
  obtain rfl := Option.some.inj hi'
  rw [state] at state'
  simpa using state'

/-- The lines of a drop's basket have become others, the seats of the lines that went being put in a state that is not HELD. -/
structure LinesGo (gone before after : List BasketLine) : Prop where
  taken : ∀ g ∈ gone, ∀ n a, g.names n a = true → ∃ k, before[k]? = some g ∧ ∀ m b, ¬ holdsAt after k m b
  kept : ∀ k n a, holdsAt after k n a → holdsAt before k n a
  rest : ∀ k n a, holdsAt before k n a → holdsAt after k n a ∨ ∃ g ∈ gone, g.names n a = true

theorem LinesGo.all (ls : List BasketLine) : LinesGo ls ls [] where
  taken g hg n a h := by
    obtain ⟨k, hk, rfl⟩ := List.mem_iff_getElem.1 hg
    exact ⟨k, List.getElem?_eq_getElem hk, fun _ _ => holdsAt_nil⟩
  kept k n a h := absurd h holdsAt_nil
  rest k n a h := by
    obtain ⟨l, hl, ln⟩ := h
    exact .inr ⟨l, List.mem_of_getElem? hl, ln⟩

/-- The match of held seats and lines stays when seats are put in another state as their lines go (R13, R26, R47). -/
theorem State.holdLaw.of_linesGo {s u t : State} {d : Drop} {gone : List BasketLine} {new : SeatState} (h : s.holdLaw)
    (seat : s.seatLaw) (hn : new.isHeld = false) (put : putAll gone new s u) (screenings : ∀ i, t.screening i = u.screening i)
    (others : ∀ e, e ≠ d → (t.basket e).lines = (s.basket e).lines)
    (go : LinesGo gone (s.basket d).lines (t.basket d).lines) : t.holdLaw := by
  have sole := @h.sole
  obtain ⟨distinct, idle, line, held⟩ := h
  -- what a screening of the new state came from
  have origin : ∀ i y, t.screening i = some y → ∃ sc, s.screening i = some sc ∧ putIn gone new sc y := by
    intro i y hy
    rw [screenings] at hy
    cases e : s.screening i with
    | none => rw [(put i).1 e] at hy; cases hy
    | some sc =>
      obtain ⟨z, hz, p⟩ := (put i).2 sc e
      rw [hy] at hz; cases hz
      exact ⟨sc, rfl, p⟩
  -- a seat that is still HELD is named by no line that went
  have still : ∀ {sc y : Screening} {a : SeatAddr} {e : Drop} {k : Nat}, putIn gone new sc y → y.stateAt a = some (.held e k) →
      gone.any (BasketLine.names sc.number a) = false ∧ sc.stateAt a = some (.held e k) := by
    intro sc y a e k p hy
    rw [p.seats] at hy
    cases named : gone.any (BasketLine.names sc.number a) with
    | true =>
      rw [named, if_pos rfl] at hy
      obtain ⟨_, -, rfl⟩ := Option.map_eq_some_iff.1 hy
      cases hn
    | false => rw [named] at hy; exact ⟨rfl, by simpa using hy⟩
  refine ⟨fun i j x y hx hy e => ?_, fun i y hy st => ?_, fun i y a e k hy state => ?_, fun e k n a l hl ln => ?_⟩
  · rw [screenings] at hx hy
    exact put.numbersDistinct distinct i j x y hx hy e
  · obtain ⟨sc, hsc, p⟩ := origin i y hy
    have counted := (seat.seated hsc).1
    have ydistinct : (y.seats.map (·.addr)).Nodup := by rw [p.addrs]; exact counted.1
    by_cases closing : sc.state = .closing ∧ gone.any (BasketLine.inScreening sc.number) = true
    · have state := p.closing closing.1 closing.2
      by_cases zero : y.counts.held = 0
      · exact (p.counted counted).noHeld zero
      · rw [if_neg zero] at state
        rw [state] at st
        simp at st
    · have state := p.stays (by simpa [Decidable.or_iff_not_not_and_not] using not_and.1 closing)
      rw [state] at st
      have none := (Screening.noHeld_iff counted.1).1 (idle i sc hsc st)
      exact (Screening.noHeld_iff ydistinct).2 fun a e k hk => none a e k (still p hk).2
  · obtain ⟨sc, hsc, p⟩ := origin i y hy
    have number : y.number = sc.number := by rw [p.form]
    obtain ⟨unnamed, was⟩ := still p state
    have old : holdsAt (s.basket e).lines k sc.number a := line i sc a e k hsc was
    rw [number]
    by_cases same : e = d
    · subst same
      refine (go.rest k _ a old).resolve_right ?_
      rintro ⟨g, hg, gn⟩
      exact (List.any_eq_false.1 unnamed) g hg gn
    · rw [others e same]; exact old
  · have new : holdsAt (t.basket e).lines k n a := ⟨l, hl, ln⟩
    have old : holdsAt (s.basket e).lines k n a := by
      by_cases same : e = d
      · subst same; exact go.kept k n a new
      · rw [others e same] at new; exact new
    obtain ⟨m, hm, mn⟩ := old
    obtain ⟨i, sc, hsc, number, state⟩ := held e k n a m hm mn
    obtain ⟨y, hy, p⟩ := (put i).2 sc hsc
    refine ⟨i, y, by rw [screenings]; exact hy, by rw [p.form]; exact number, ?_⟩
    have unnamed : gone.any (BasketLine.names sc.number a) = false := by
      rw [List.any_eq_false]
      intro g hg gn
      rw [number] at gn
      obtain ⟨j, hj, free⟩ := go.taken g hg n a gn
      obtain ⟨rfl, rfl⟩ := sole ⟨g, hj, gn⟩ ⟨m, hm, mn⟩
      exact free n a new
    rw [p.seats, unnamed]
    simpa using state

end Sys2Proof.Machine
end

section
/-! The law of baskets, and what the updates of one basket keep (R23, R25 to R27, R37). -/

namespace Sys2Proof.Machine

/-! ## Baskets (R23, R25 to R27) -/

namespace Basket

theorem cleared_lawful (b : Basket) : b.cleared.lawful := by
  refine ⟨fun _ => rfl, fun h => absurd rfl h, ?_⟩
  simp [Basket.cleared, Basket.reset, seatCount, snackCount]

/-- What a basket must have before it is settled, for the law to hold of it then (R25 to R27). -/
structure stacked (b : Basket) : Prop where
  length : b.lines.length ≤ 10
  seats : b.seatCount ≤ 8
  snacks : b.snackCount ≤ 8
  bound : ∀ l ∈ b.lines, l.isSeat = true → l.screening = b.bound
  idle : b.hasLine = true → b.state ≠ .idle
  frozen : b.frozen.isSome = true ↔ b.state = .tender
  saved : b.saved.isSome = true ↔ b.state = .tender

theorem stacked.lawful {b : Basket} (h : b.stacked) (line : b.hasLine = true)
    (bound : b.lines.any BasketLine.isSeat = false → b.bound = none) : b.lawful :=
  ⟨fun e => absurd e (h.idle line), fun _ => line, h.length, h.seats, h.snacks, h.bound, bound, h.frozen, h.saved⟩

theorem lawful.noLine {b : Basket} (h : b.lawful) (idle : b.state = .idle) : b.lines = [] := by
  rw [h.1 idle]; rfl

theorem lawful.stacked {b : Basket} (h : b.lawful) : b.stacked := by
  have none := h.noLine
  obtain ⟨-, -, length, seats, snacks, bound, -, frozen, saved⟩ := h
  exact ⟨length, seats, snacks, bound, fun line idle => by simp [hasLine, none idle] at line, frozen, saved⟩

/-- Settling makes a basket lawful (R26, R27). -/
theorem stacked.settled {b : Basket} (h : b.stacked) (f : Fau) : (b.settled f).lawful := by
  unfold Basket.settled
  split
  · rename_i line
    refine stacked.lawful ⟨h.length, h.seats, h.snacks, fun l hl seat => ?_, h.idle, h.frozen, h.saved⟩ line fun none => ?_
    · have : b.lines.any BasketLine.isSeat = true := List.any_eq_true.2 ⟨l, hl, seat⟩
      simpa [withTotals, this] using h.bound l hl seat
    · simp only [withTotals] at none ⊢
      simp [none]
  · exact b.cleared_lawful

end Basket

/-! ### Stacks with fewer lines -/

/-- A stack that holds, at each place, what another holds there at another price, or VOID. -/
def Thins (ls ms : List BasketLine) : Prop :=
  ∀ (k : Nat) (l : BasketLine), ls[k]? = some l → ∃ m, ms[k]? = some m ∧ (l = .void ∨ ∃ amount g, l = m.priced amount g)

@[simp] theorem BasketLine.priced_isSeat (l : BasketLine) (m g : Nat) : (l.priced m g).isSeat = l.isSeat := by cases l <;> rfl
@[simp] theorem BasketLine.priced_isSnack (l : BasketLine) (m g : Nat) : (l.priced m g).isSnack = l.isSnack := by cases l <;> rfl
@[simp] theorem BasketLine.priced_live (l : BasketLine) (m g : Nat) : (l.priced m g).live = l.live := by cases l <;> rfl
@[simp] theorem BasketLine.priced_screening (l : BasketLine) (m g : Nat) : (l.priced m g).screening = l.screening := by cases l <;> rfl
@[simp] theorem BasketLine.priced_names (l : BasketLine) (m g n : Nat) (a : SeatAddr) :
    (l.priced m g).names n a = l.names n a := by cases l <;> rfl

theorem BasketLine.priced_self (l : BasketLine) : ∃ m g, l = l.priced m g := by
  cases l with
  | seat n a k c m g => exact ⟨m, g, rfl⟩
  | snack i m g => exact ⟨m, g, rfl⟩
  | void => exact ⟨0, 0, rfl⟩

theorem Thins.tail {l m : BasketLine} {ls ms : List BasketLine} (h : Thins (l :: ls) (m :: ms)) : Thins ls ms :=
  fun k => h (k + 1)

theorem Thins.cons_nil {l : BasketLine} {ls : List BasketLine} (h : Thins (l :: ls) []) : False := by
  obtain ⟨m, hm, -⟩ := h 0 l rfl
  simp at hm

/-- A test that a VOID line fails and that no price moves is passed by no more lines of a thinner stack. -/
theorem Thins.countP_le {p : BasketLine → Bool} (void : p .void = false) (price : ∀ l m g, p (l.priced m g) = p l)
    {ls ms : List BasketLine} (h : Thins ls ms) : (ls.filter p).length ≤ (ms.filter p).length := by
  induction ls generalizing ms with
  | nil => simp
  | cons l ls ih =>
    cases ms with
    | nil => exact h.cons_nil.elim
    | cons m ms =>
      have rest := ih h.tail
      obtain ⟨_, hm, eq⟩ := h 0 l rfl
      obtain rfl : m = _ := by simpa using hm
      have head : p l = true → p m = true := by
        rintro pl
        rcases eq with rfl | ⟨a, g, rfl⟩
        · rw [void] at pl; cases pl
        · rw [← price]; exact pl
      cases pl : p l
      · have more : (ms.filter p).length ≤ ((m :: ms).filter p).length := ((List.sublist_cons_self m ms).filter p).length_le
        simpa [pl] using rest.trans more
      · simpa [pl, head pl] using rest

theorem Thins.length_le {ls ms : List BasketLine} (h : Thins ls ms) : ls.length ≤ ms.length := by
  by_contra more
  obtain ⟨m, hm, -⟩ := h ms.length (ls[ms.length]'(by omega)) (List.getElem?_eq_getElem _)
  simp at hm

theorem Thins.mem {ls ms : List BasketLine} (h : Thins ls ms) {l : BasketLine} (hl : l ∈ ls) :
    l = .void ∨ ∃ m ∈ ms, ∃ amount g, l = m.priced amount g := by
  obtain ⟨k, hk, rfl⟩ := List.mem_iff_getElem.1 hl
  obtain ⟨m, hm, eq⟩ := h k _ (List.getElem?_eq_getElem hk)
  exact eq.imp id fun ⟨a, g, e⟩ => ⟨m, List.mem_of_getElem? hm, a, g, e⟩

theorem Thins.holdsAt {ls ms : List BasketLine} (h : Thins ls ms) {k n : Nat} {a : SeatAddr} (hold : holdsAt ls k n a) :
    holdsAt ms k n a := by
  obtain ⟨l, hl, ln⟩ := hold
  obtain ⟨m, hm, eq⟩ := h k l hl
  rcases eq with rfl | ⟨u, g, rfl⟩
  · cases ln
  · exact ⟨m, hm, by simpa using ln⟩

/-- A lawful basket with a thinner stack may be settled. -/
theorem Basket.lawful.thinned {b c : Basket} (h : b.lawful) (thin : Thins c.lines b.lines) (state : c.state = b.state)
    (bound : c.bound = b.bound) (frozen : c.frozen = b.frozen) (saved : c.saved = b.saved) : c.stacked := by
  obtain ⟨length, seats, snacks, screening, idle, hf, hs⟩ := h.stacked
  refine ⟨thin.length_le.trans length, ?_, ?_, fun l hl seat => ?_, fun line => ?_, ?_, ?_⟩
  · exact (thin.countP_le (p := BasketLine.isSeat) rfl fun l m g => l.priced_isSeat m g).trans seats
  · exact (thin.countP_le (p := BasketLine.isSnack) rfl fun l m g => l.priced_isSnack m g).trans snacks
  · rcases thin.mem hl with rfl | ⟨m, hm, u, g, rfl⟩
    · cases seat
    · rw [BasketLine.priced_screening, bound]; exact screening m hm (by simpa using seat)
  · rw [state]
    refine idle ?_
    obtain ⟨l, hl, live⟩ := List.any_eq_true.1 line
    rcases thin.mem hl with rfl | ⟨m, hm, u, g, rfl⟩
    · cases live
    · exact List.any_eq_true.2 ⟨m, hm, by simpa using live⟩
  · rw [frozen, state]; exact hf
  · rw [saved, state]; exact hs

theorem Basket.settled_holdsAt (b : Basket) (f : Fau) (k n : Nat) (a : SeatAddr) :
    holdsAt (b.settled f).lines k n a ↔ holdsAt b.lines k n a := by
  unfold Basket.settled
  split
  · exact Iff.rfl
  · rename_i empty
    refine ⟨fun h => absurd h holdsAt_nil, fun ⟨l, hl, ln⟩ => absurd (List.any_eq_true.2 ⟨l, List.mem_of_getElem? hl, ?_⟩) empty⟩
    cases l <;> first | rfl | cases ln

/-! ### Updates of one basket -/

section
variable (s : State) (d : Drop)

/-- A basket that holds the same seats and is lawful. -/
theorem State.setBasket_keeps (b : Basket) (lawful : s.basketLaw → b.lawful)
    (lines : s.basketLaw → ∀ k n a, holdsAt b.lines k n a ↔ holdsAt (s.basket d).lines k n a) :
    Keeps [.sbu] s (s.setBasket d b) := by
  refine .of_one (s.setBasket_kept d b (by decide)) ⟨fun law e => ?_, fun h => h.of_screenings (fun _ => rfl) fun _ _ => .inl,
    fun law seat hold => hold.of_linesGo (d := d) (u := s) (gone := []) (new := .free) seat rfl
      (.refl (by simp) .free s) (fun _ => rfl) (fun e he => by rw [State.setBasket_basket_ne _ _ _ he]) ?_⟩
  · rw [State.setBasket_basket]
    split
    · exact lawful law
    · exact law e
  · rw [State.setBasket_basket_same]
    exact ⟨fun _ hg => (List.not_mem_nil hg).elim, fun k n a => (lines law k n a).1, fun k n a h => .inl ((lines law k n a).2 h)⟩

/-- The seats of the lines that go are put in a state, and the basket becomes one that is lawful without them. -/
theorem State.putLines_setBasket_keeps {new : SeatState} (hn : new.isHeld = false) (gone : List BasketLine) (b : Basket)
    (lawful : s.basketLaw → b.lawful) (go : LinesGo gone (s.basket d).lines b.lines) :
    Keeps [.sbu, .hlc] s ((s.putLines new gone).setBasket d b) := by
  have same := s.putLines_sameBaskets (new := new) gone
  refine .of_two ((s.putLines_kept gone).trans (State.setBasket_kept _ d b (by decide)))
    ⟨fun law e => ?_, fun h => (State.putLines_seatLaw gone h).of_screenings (fun _ => rfl) fun _ _ => .inl,
      fun _ seat hold => hold.of_linesGo (d := d) (u := s.putLines new gone) seat hn
        (State.putLines_putAll hn gone s hold.1) (fun _ => rfl) (fun e he => ?_) ?_⟩ fun h => State.putLines_linkLaw gone h
  · rw [State.setBasket_basket]
    split
    · exact lawful law
    · rw [same.1]; exact law e
  · rw [State.setBasket_basket_ne _ _ _ he, same.1]
  · rw [State.setBasket_basket_same]; exact go

theorem State.changeLines_keeps {gone kept : List BasketLine} (thin : Thins kept (s.basket d).lines)
    (go : LinesGo gone (s.basket d).lines kept) : Keeps [.sbu, .hlc] s (s.changeLines d gone kept) := by
  unfold State.changeLines
  rw [State.releaseLines_eq]
  refine s.putLines_setBasket_keeps d rfl gone _ (fun law =>
    ((law d).thinned (c := { s.basket d with lines := kept }) thin rfl rfl rfl rfl).settled s.fau) ?_
  obtain ⟨taken, still, rest⟩ := go
  refine ⟨fun g hg n a gn => ?_, fun k n a h => still k n a ((Basket.settled_holdsAt _ _ k n a).1 h), fun k n a h =>
    (rest k n a h).imp_left (Basket.settled_holdsAt _ _ k n a).2⟩
  obtain ⟨k, hk, free⟩ := taken g hg n a gn
  exact ⟨k, hk, fun m b h => free m b ((Basket.settled_holdsAt _ _ k m b).1 h)⟩

theorem State.dropBasket_keeps : Keeps [.sbu, .hlc] s (s.dropBasket d) := by
  unfold State.dropBasket
  rw [State.releaseLines_eq]
  exact s.putLines_setBasket_keeps d rfl _ _ (fun _ => Basket.cleared_lawful _) (.all _)

/-- A line priced again is VOID when it is refused, and otherwise itself at a new price or as it was. -/
theorem BasketLine.repriced_cases (g : Nat) (l : BasketLine) (o : Option LineOutcome) :
    (refusedOutcome o = true ∧ l.repriced g o = .void) ∨ (refusedOutcome o = false ∧ ∃ m u, l.repriced g o = l.priced m u) := by
  cases o with
  | none => exact .inr ⟨rfl, by cases l <;> exact BasketLine.priced_self _⟩
  | some o =>
    cases o with
    | refused c => exact .inl ⟨rfl, by cases l <;> rfl⟩
    | priced a e n x => exact .inr ⟨rfl, a, g, by cases l <;> rfl⟩

/-- The lines that repricing refuses go, and no other (R37). -/
theorem State.repricedBasket_linesGo : Thins (s.repricedBasket (s.basket d)).lines (s.basket d).lines ∧
    LinesGo ((s.basket d).lines.filter fun l => refusedOutcome (s.lineOutcome l)) (s.basket d).lines
      ((s.repricedBasket (s.basket d)).settled s.fau).lines := by
  have place : ∀ (k : Nat) (l : BasketLine), (s.repricedBasket (s.basket d)).lines[k]? = some l →
      ∃ m, (s.basket d).lines[k]? = some m ∧ l = m.repriced s.fau.generation (s.lineOutcome m) := by
    intro k l hk
    rw [State.repricedBasket, List.getElem?_map] at hk
    obtain ⟨m, hm, rfl⟩ := Option.map_eq_some_iff.1 hk
    exact ⟨m, hm, rfl⟩
  have thin : Thins (s.repricedBasket (s.basket d)).lines (s.basket d).lines := by
    intro k l hk
    obtain ⟨m, hm, rfl⟩ := place k l hk
    refine ⟨m, hm, ?_⟩
    rcases m.repriced_cases s.fau.generation (s.lineOutcome m) with ⟨-, void⟩ | ⟨-, priced⟩
    · exact .inl void
    · exact .inr priced
  refine ⟨thin, fun g hg n a gn => ?_, fun k n a h => thin.holdsAt ((Basket.settled_holdsAt _ _ k n a).1 h), fun k n a h => ?_⟩
  · obtain ⟨mem, refused⟩ := List.mem_filter.1 hg
    obtain ⟨k, hk, rfl⟩ := List.mem_iff_getElem.1 mem
    refine ⟨k, List.getElem?_eq_getElem hk, fun m b h => ?_⟩
    obtain ⟨l, hl, ln⟩ := (Basket.settled_holdsAt _ _ k m b).1 h
    obtain ⟨m', hm', rfl⟩ := place k l hl
    rw [List.getElem?_eq_getElem hk] at hm'
    obtain rfl := Option.some.inj hm'
    rcases BasketLine.repriced_cases s.fau.generation _ (s.lineOutcome (s.basket d).lines[k]) with ⟨-, void⟩ | ⟨no, -⟩
    · rw [void] at ln; cases ln
    · rw [refused] at no; cases no
  · obtain ⟨l, hl, ln⟩ := h
    rcases l.repriced_cases s.fau.generation (s.lineOutcome l) with ⟨refused, -⟩ | ⟨-, m, u, priced⟩
    · exact .inr ⟨l, List.mem_filter.2 ⟨List.mem_of_getElem? hl, refused⟩, ln⟩
    · refine .inl ((Basket.settled_holdsAt _ _ k n a).2 ⟨l.priced m u, ?_, by simpa using ln⟩)
      simp [State.repricedBasket, hl, priced]

theorem State.repricedBasket_lawful (law : (s.basket d).lawful) : ((s.repricedBasket (s.basket d)).settled s.fau).lawful :=
  (law.thinned (c := s.repricedBasket (s.basket d)) (s.repricedBasket_linesGo d).1 rfl rfl rfl rfl).settled s.fau

theorem State.reprice_keeps : Keeps [.sbu, .hlc] s (s.reprice d) := by
  unfold State.reprice
  dsimp only
  rw [State.releaseLines_eq]
  exact s.putLines_setBasket_keeps d rfl _ _ (fun law => s.repricedBasket_lawful d (law d)) (s.repricedBasket_linesGo d).2

theorem State.repriceForPush_keeps : Keeps [.sbu, .hlc] s (s.repriceForPush d) := .whenever fun _ => s.reprice_keeps d

theorem State.pushBasket_keeps (r : PushReason) : Keeps [.sbu, .hlc, .klc] s (s.pushBasket d r) :=
  ((s.repriceForPush_keeps d).then (State.place_keeps _ _ _ _)).within (by decide)

theorem State.expireBasket_keeps : Keeps [.sbu, .hlc, .klc] s (s.expireBasket d) :=
  ((s.dropBasket_keeps d).then (State.pushBasket_keeps _ d _)).within (by decide)

theorem State.closeForBasket_keeps (n : Nat) : Keeps [.sbu, .hlc, .klc] s (State.closeForBasket n s d) := by
  have place : ∀ (k : Nat) (l : BasketLine), (voidLinesOf n (s.basket d).lines)[k]? = some l →
      ∃ m, (s.basket d).lines[k]? = some m ∧ l = if m.inScreening n then .void else m := by
    intro k l hk
    rw [voidLinesOf, List.getElem?_map] at hk
    obtain ⟨m, hm, rfl⟩ := Option.map_eq_some_iff.1 hk
    exact ⟨m, hm, rfl⟩
  have thin : Thins (voidLinesOf n (s.basket d).lines) (s.basket d).lines := by
    intro k l hk
    obtain ⟨m, hm, rfl⟩ := place k l hk
    refine ⟨m, hm, ?_⟩
    split
    · exact .inl rfl
    · exact .inr m.priced_self
  unfold State.closeForBasket
  refine Keeps.whenever fun _ => ((Keeps.then (M := [.sbu, .hlc, .klc]) (L := [.sbu,
    .hlc]) ?_ (State.pushBasket_keeps _ d _))).within (by decide)
  refine (s.changeLines_keeps d thin ⟨fun g hg m a gn => ?_, fun k m a h => thin.holdsAt h, fun k m a h => ?_⟩)
  · obtain ⟨mem, here⟩ := List.mem_filter.1 hg
    obtain ⟨k, hk, rfl⟩ := List.mem_iff_getElem.1 mem
    refine ⟨k, List.getElem?_eq_getElem hk, fun m b h => ?_⟩
    obtain ⟨l, hl, ln⟩ := h
    obtain ⟨m', hm', rfl⟩ := place k l hl
    rw [List.getElem?_eq_getElem hk] at hm'
    obtain rfl := Option.some.inj hm'
    rw [if_pos here] at ln
    cases ln
  · obtain ⟨l, hl, ln⟩ := h
    by_cases here : l.inScreening n = true
    · exact .inr ⟨l, List.mem_filter.2 ⟨List.mem_of_getElem? hl, here⟩, ln⟩
    · exact .inl ⟨l, by simp [voidLinesOf, hl, here], ln⟩

end

end Sys2Proof.Machine
end

section
/-! What the requests on layouts and the moves of a screening keep (R3 to R13). -/

namespace Sys2Proof.Machine

/-! ## Screenings and their seats (R6 to R20) -/

/-- A screening whose seats moved, but none into or out of HELD. -/
structure sameHolds (sc y : Screening) : Prop where
  number : y.number = sc.number
  layout : y.layout = sc.layout
  addrs : y.seats.map (·.addr) = sc.seats.map (·.addr)
  counted : sc.counted → y.counted
  held : ∀ a d k, y.stateAt a = some (.held d k) ↔ sc.stateAt a = some (.held d k)

theorem sameHolds.seated {s : State} {sc y : Screening} (h : sameHolds sc y) (seated : s.seated sc) : s.seated y :=
  State.seated.congr seated (h.counted seated.1) h.layout h.addrs

theorem sameHolds.refl (sc : Screening) : sameHolds sc sc := ⟨rfl, rfl, rfl, id, fun _ _ _ => Iff.rfl⟩

theorem sameHolds.trans {x y z : Screening} (h : sameHolds x y) (k : sameHolds y z) : sameHolds x z :=
  ⟨k.number.trans h.number, k.layout.trans h.layout, k.addrs.trans h.addrs, k.counted ∘ h.counted, fun a d n =>
    (k.held a d n).trans (h.held a d n)⟩

/-- The state and the WITHDRAWN flag are no part of the holds. -/
theorem sameHolds.of_state (sc : Screening) (w : Bool) (x : ScreeningState) :
    sameHolds sc { sc with withdrawn := w, state := x } := ⟨rfl, rfl, rfl, id, fun _ _ _ => Iff.rfl⟩

theorem Screening.setSeat_sameHolds {sc : Screening} {a : SeatAddr} {new : SeatState} (hn : new.isHeld = false)
    (ho : ∀ x, sc.stateAt a = some x → x.isHeld = false) : sameHolds sc (sc.setSeat a new) := by
  refine ⟨by simp, by simp, by simp, fun h => h.setSeat a new, fun b d k => ?_⟩
  rw [Screening.stateAt_setSeat]
  split
  · rename_i here
    subst here
    constructor
    · intro h
      obtain ⟨_, -, rfl⟩ := Option.map_eq_some_iff.1 h
      cases hn
    · intro h
      cases ho _ h
  · exact Iff.rfl

section
variable (s : State)

/-- A screening that keeps its holds, and that is LOADED or CLOSED only when it was or holds no seat. -/
theorem State.setScreening_keeps {i : Fin 16} {sc y : Screening} (hi : s.screening i = some sc) (same : sameHolds sc y)
    (idle : s.seated sc → y.state = .loaded ∨ y.state = .closed →
      (sc.state = .loaded ∨ sc.state = .closed) ∨ ∀ r ∈ sc.seats, r.state.isHeld = false) :
    Keeps [.sbu] s (s.setScreening i (some y)) := by
  refine .of_one (s.setScreening_kept i _ (by decide))
    ⟨fun h => h, fun h => State.setScreening_seatLaw i h fun z hz => ?_, fun _ seat hold => ?_⟩
  · obtain rfl := Option.some.inj hz
    exact same.seated (h.seated hi)
  obtain ⟨distinct, free, line, held⟩ := hold
  have other : ∀ j z, (s.setScreening i (some y)).screening j = some z → (j = i ∧ z = y) ∨ (j ≠ i ∧ s.screening j = some z) := by
    intro j z hz
    rw [State.setScreening_screening] at hz
    split at hz
    · rename_i e; exact .inl ⟨e, (Option.some.inj hz).symm⟩
    · rename_i e; exact .inr ⟨e, hz⟩
  refine ⟨fun j k x z hx hz e => ?_, fun j z hz st => ?_, fun j z a d k hz state => ?_, fun d k n a l hl ln => ?_⟩
  · obtain ⟨x', hx', ex⟩ : ∃ x', s.screening j = some x' ∧ x'.number = x.number := by
      rcases other j x hx with ⟨rfl, rfl⟩ | ⟨-, h⟩
      exacts [⟨sc, hi, same.number.symm⟩, ⟨x, h, rfl⟩]
    obtain ⟨z', hz', ez⟩ : ∃ z', s.screening k = some z' ∧ z'.number = z.number := by
      rcases other k z hz with ⟨rfl, rfl⟩ | ⟨-, h⟩
      exacts [⟨sc, hi, same.number.symm⟩, ⟨z, h, rfl⟩]
    exact distinct j k x' z' hx' hz' (by rw [ex, ez, e])
  · rcases other j z hz with ⟨rfl, rfl⟩ | ⟨-, hz⟩
    · have seated := seat.seated hi
      refine (Screening.noHeld_iff (same.counted seated.1).1).2 fun a d k h => ?_
      have none := (idle seated st).elim (free _ sc hi) id
      exact (Screening.noHeld_iff seated.1.1).1 none a d k ((same.held a d k).1 h)
    · exact free j z hz st
  · rcases other j z hz with ⟨rfl, rfl⟩ | ⟨-, hz⟩
    · rw [same.number]; exact line _ sc a d k hi ((same.held a d k).1 state)
    · exact line j z a d k hz state
  · obtain ⟨j, x, hx, number, state⟩ := held d k n a l hl ln
    by_cases here : j = i
    · subst here
      rw [hi] at hx
      obtain rfl := Option.some.inj hx
      exact ⟨j, y, by simp, same.number.trans number, (same.held a d k).2 state⟩
    · exact ⟨j, x, by rw [State.setScreening_screening_ne _ _ _ here]; exact hx, number, state⟩

/-- A screening whose state moves, with no closing of one that holds a seat. -/
theorem State.moveScreening_keeps {i : Fin 16} {sc : Screening} (hi : s.screening i = some sc) (w : Bool) (x : ScreeningState)
    (idle : x = .loaded ∨ x = .closed → sc.state = .loaded ∨ sc.state = .closed) :
    Keeps [.sbu] s (s.setScreening i (some { sc with withdrawn := w, state := x })) :=
  s.setScreening_keeps hi (.of_state sc w x) fun _ h => .inl (idle h)

theorem State.closeTest_keeps (i : Fin 16) : Keeps [.sbu, .hlc] s (s.closeTest i) := by
  unfold State.closeTest
  split
  · rename_i sc hi
    refine .whenever fun h => Keeps.within (by decide) (Keeps.then (L := [.sbu]) ?_ (State.raise_keeps _ _))
    exact s.setScreening_keeps hi (.of_state sc sc.withdrawn .closed) fun seated _ => .inr (seated.1.noHeld h.2)
  · exact (Keeps.refl s).within (by decide)

/-- The closing of an ON_SALE screening, withdrawn or not (R9 to R13). -/
theorem State.enterClosing_keeps {i : Fin 16} {sc : Screening} (hi : s.screening i = some sc) (w : Bool) :
    Keeps [.sbu, .hlc, .klc] s (s.enterClosing i { sc with withdrawn := w }) := by
  have first := s.moveScreening_keeps hi w .closing (by simp)
  have baskets := fun t => Keeps.foldl (f := State.closeForBasket sc.number)
    (fun t d => t.closeForBasket_keeps d sc.number) (List.finRange 16) t
  unfold State.enterClosing
  generalize List.finRange 16 = ds at *
  exact (((first.then (State.raise_keeps _ .screening)).then (baskets _)).then (State.closeTest_keeps _ i)).within (by decide)

theorem State.closeDue_keeps (now : SiteTime) : Keeps [.sbu, .hlc, .klc] s (s.closeDue now) := by
  refine Keeps.foldl (fun t i => ?_) _ s
  unfold State.closeIfDue
  split
  · rename_i sc hi
    exact .whenever fun _ => t.enterClosing_keeps hi sc.withdrawn
  · exact (Keeps.refl t).within (by decide)

/-! ### The requests on layouts (R3 to R5) -/

/-- A layout no screening is in may change, being READY with its count of seats alone (R2, R5). -/
theorem State.setLayout_keeps (i : Fin 8) (l : Layout) (ready : l.state = .ready → l.sellable = some l.countSeats)
    (unused : s.seatLaw → ∀ j sc, s.screening j = some sc → sc.layout ≠ i) : Keeps [.sbu] s (s.setLayout i l) := by
  refine .of_one (s.setLayout_kept i l (by decide)) ⟨fun h => h, fun h => ?_, fun _ _ h => h⟩
  have free := unused h
  obtain ⟨counts, seated⟩ := h
  refine ⟨fun j => ?_, fun j sc hj => ?_⟩
  · rw [State.setLayout_layout]
    split
    · exact ready
    · exact counts j
  · rw [State.setLayout_layout_ne _ _ _ (free j sc hj)]
    exact seated j sc hj

theorem State.layoutInUse_eq_false {i : Fin 8} (h : s.layoutInUse i = false) {j : Fin 16} {sc : Screening}
    (hj : s.screening j = some sc) : sc.layout ≠ i := by
  intro e
  simp only [State.layoutInUse, List.any_eq_false] at h
  refine h (some sc) ?_ (by simpa using e)
  rw [← hj]
  simp only [State.screening, vget, Vector.mem_toList_iff]
  exact Vector.getElem_mem _

theorem State.layoutBegin_keeps (h : HostTag) (r : LayoutBeginReq) : Keeps [.sbu, .hlc] s (State.layoutBegin h r s) := by
  unfold State.layoutBegin
  split
  · refine .ite (fun _ => .ite (fun _ => (s.replyHost_keeps _ _ _).within (by decide)) fun free => ?_) fun _ => (s.replyHost_keeps _ _ _).within (by decide)
    refine Keeps.within (by decide) (Keeps.then (L := [.sbu]) ?_ (State.replyHost_keeps _ _ _ _))
    exact s.setLayout_keeps _ _ (by simp) fun _ j sc hj => s.layoutInUse_eq_false (by simpa using free) hj
  · exact (s.replyHost_keeps _ _ _).within (by decide)

/-- No screening is in a layout that is not READY (R7). -/
theorem State.seatLaw.unused {s : State} (h : s.seatLaw) {i : Fin 8} (st : (s.layout i).state ≠ .ready) :
    ∀ j sc, s.screening j = some sc → sc.layout ≠ i := fun _ _ hj e => st (e ▸ (h.seated hj).2.1)

theorem State.rowTaken_keeps (h : HostTag) (i : Fin 8) (l : Layout) (own : l.state = .loading)
    (loading : (s.layout i).state = .loading) : Keeps [.sbu, .hlc] s (State.rowTaken h i l s) := by
  have unused : s.seatLaw → ∀ j sc, s.screening j = some sc → sc.layout ≠ i := fun law => law.unused (by rw [loading]; simp)
  unfold State.rowTaken
  refine .ite (fun _ => ?_) fun _ => .ite (fun _ => ?_) fun _ => ?_
  · exact ((s.setLayout_keeps i l (by rw [own]; simp) unused).then (State.replyHost_keeps _ _ _ _)).within (by decide)
  · exact ((s.setLayout_keeps i l.invalidated (by simp [Layout.invalidated]) unused).then (State.replyHost_keeps _ _ _ _)).within (by decide)
  · exact ((s.setLayout_keeps i { l with state := .ready, sellable := some l.countSeats } (fun _ => rfl) unused).then
      (State.replyHost_keeps _ _ _ _)).within (by decide)

theorem State.layoutRow_keeps (h : HostTag) (r : LayoutRowReq) : Keeps [.sbu, .hlc] s (State.layoutRow h r s) := by
  have refused : ∀ c, Keeps [.sbu, .hlc] s (s.replyHost h c .none) := fun c => (s.replyHost_keeps h c _).within (by decide)
  unfold State.layoutRow
  dsimp only
  split
  · refine .ite (fun _ => refused _) fun loading => .ite (fun _ => ?_) fun _ => ?_
    · exact ((s.setLayout_keeps _ _ (by simp [Layout.invalidated]) fun law => law.unused (by rw [not_not.1 loading]; simp)).then
        (State.replyHost_keeps _ _ _ _)).within (by decide)
    · split
      · exact .ite (fun _ => s.rowTaken_keeps h _ _ (not_not.1 loading) (not_not.1 loading)) fun _ => refused _
      · exact refused _
  · exact refused _

end

/-! ### The seats of a layout (R2) -/

theorem mem_rowAddrs {row : Nat} {r : LayoutRow} {a : SeatAddr} :
    a ∈ rowAddrs row r ↔ a.row = row ∧ a.pos < r.kinds.length ∧ r.kinds[a.pos]? ≠ some .aisle := by
  obtain ⟨x, p⟩ := a
  simp only [rowAddrs, List.mem_filterMap, List.mem_range]
  constructor
  · rintro ⟨q, hq, e⟩
    split at e
    · cases e
    · rename_i h
      cases e
      exact ⟨rfl, hq, by simpa using h⟩
  · rintro ⟨rfl, hp, h⟩
    exact ⟨p, hp, by simp [h]⟩

theorem rowAddrs_nodup (row : Nat) (r : LayoutRow) : (rowAddrs row r).Nodup := by
  refine List.Nodup.filterMap (fun p q a hp hq => ?_) List.nodup_range
  simp only [Option.mem_def] at hp hq
  split at hp
  · cases hp
  · split at hq
    · cases hq
    · cases hp; cases hq; rfl

theorem rowAddrs_length (row : Nat) (r : LayoutRow) : (rowAddrs row r).length = rowSeatCount r := by
  obtain ⟨label, kinds⟩ := r
  simp only [rowAddrs, rowSeatCount]
  induction kinds using List.reverseRecOn with
  | nil => rfl
  | append_singleton ks k ih =>
    rw [List.length_append, List.length_singleton, List.range_succ, List.filterMap_append, List.filter_append,
      List.length_append, List.length_append]
    congr 1
    · rw [← ih]
      congr 1
      refine List.filterMap_congr fun p hp => ?_
      rw [List.getElem?_append_left (List.mem_range.1 hp)]
    · by_cases aisle : k = .aisle <;> simp [aisle]

theorem Layout.seatAddrs_nodup (l : Layout) : l.seatAddrs.Nodup := by
  unfold Layout.seatAddrs
  rw [List.nodup_flatten]
  refine ⟨fun x hx => ?_, ?_⟩
  · obtain ⟨p, -, rfl⟩ := List.mem_map.1 hx
    exact rowAddrs_nodup _ _
  · rw [List.pairwise_map, List.pairwise_iff_getElem]
    intro i j hi hj lt a ha hb
    rw [mem_rowAddrs] at ha hb
    simp only [List.getElem_zipIdx] at ha hb
    omega

theorem Layout.seatAddrs_length (l : Layout) : l.seatAddrs.length = l.countSeats := by
  unfold Layout.seatAddrs Layout.countSeats
  rw [List.length_flatten, List.map_map]
  have : ((List.length ∘ fun p : LayoutRow × Nat => rowAddrs p.2 p.1) : LayoutRow × Nat → Nat) = rowSeatCount ∘ Prod.fst := by
    funext p; exact rowAddrs_length _ _
  rw [this, ← List.map_map, List.zipIdx_map_fst]

end Sys2Proof.Machine
end

section
/-! What the requests on screenings and their seats keep (R6 to R21). -/

namespace Sys2Proof.Machine

section
variable (s : State)

/-! ### The screening table (R7 to R14) -/

/-- A new screening has every seat FREE (R7). -/
theorem newScreening_stateAt {r : ScreeningLoadReq} {i : Fin 8} {gap : Bool} {l : Layout} {a : SeatAddr} {x : SeatState}
    (h : (newScreening r i gap l).stateAt a = some x) : x = .free := by
  obtain ⟨z, hz, rfl⟩ := Option.map_eq_some_iff.1 h
  obtain ⟨b, -, rfl⟩ := List.mem_map.1 (List.mem_of_find?_eq_some hz)
  rfl

theorem newScreening_counted {r : ScreeningLoadReq} {i : Fin 8} {gap : Bool} {l : Layout}
    (sellable : l.sellable = some l.countSeats) : (newScreening r i gap l).counted := by
  have addrs : (newScreening r i gap l).seats.map (·.addr) = l.seatAddrs := by simp [newScreening, Function.comp_def]
  refine ⟨by rw [addrs]; exact l.seatAddrs_nodup, ?_⟩
  have notBlocked : (SeatState.free == SeatState.blocked) = false := rfl
  simp [newScreening, Screening.countOf, sellable, List.filter_map, Function.comp_def, SeatState.isHeld, SeatState.isSold,
    l.seatAddrs_length, notBlocked]

/-- A slot is filled with a screening of a new number, in a READY layout (R7). -/
theorem State.loadScreening_keeps {r : ScreeningLoadReq} {i : Fin 16} {j : Fin 8} {gap : Bool}
    (free : s.screening i = none) (new : s.findScreening r.number = none) (ready : (s.layout j).state = .ready) :
    Keeps [.sbu] s (s.setScreening i (some (newScreening r j gap (s.layout j)))) := by
  let y := newScreening r j gap (s.layout j)
  have other : ∀ k z, (s.setScreening i (some y)).screening k = some z → (k = i ∧ z = y) ∨ (k ≠ i ∧ s.screening k = some z) := by
    intro k z hz
    rw [State.setScreening_screening] at hz
    split at hz
    · rename_i e; exact .inl ⟨e, (Option.some.inj hz).symm⟩
    · rename_i e; exact .inr ⟨e, hz⟩
  refine .of_one (s.setScreening_kept i _ (by decide))
    ⟨fun h => h, fun h => State.setScreening_seatLaw i h fun z hz => ?_, fun _ seat hold => ?_⟩
  · obtain rfl := Option.some.inj hz
    exact ⟨newScreening_counted (h.1 j ready), ready, by simp [newScreening, Function.comp_def]⟩
  obtain ⟨distinct, idle, line, held⟩ := hold
  have fresh : ∀ k z, s.screening k = some z → z.number ≠ r.number := fun k z hz => State.findScreening_none new hz
  refine ⟨fun k m x z hx hz e => ?_, fun k z hz _ => ?_, fun k z a d n hz state => ?_, fun d n number a l hl ln => ?_⟩
  · rcases other k x hx with ⟨rfl, rfl⟩ | ⟨-, hx'⟩
    · rcases other m z hz with ⟨rfl, -⟩ | ⟨-, hz'⟩
      · rfl
      · exact absurd e.symm (fresh m z hz')
    · rcases other m z hz with ⟨-, rfl⟩ | ⟨-, hz'⟩
      · exact absurd e (fresh k x hx')
      · exact distinct k m x z hx' hz' e
  · rcases other k z hz with ⟨-, rfl⟩ | ⟨-, hz'⟩
    · intro x hx
      obtain ⟨b, -, rfl⟩ := List.mem_map.1 hx
      rfl
    · exact idle k z hz' ‹_›
  · rcases other k z hz with ⟨-, rfl⟩ | ⟨-, hz'⟩
    · cases newScreening_stateAt state
    · exact line k z a d n hz' state
  · obtain ⟨k, x, hx, num, state⟩ := held d n number a l hl ln
    have : k ≠ i := fun e => by rw [e, free] at hx; cases hx
    exact ⟨k, x, by rw [State.setScreening_screening_ne _ _ _ this]; exact hx, num, state⟩

/-- A CLOSED screening holds no seat, so it may go (R14). -/
theorem State.unloadScreening_keeps {i : Fin 16} {sc : Screening} (hi : s.screening i = some sc) (closed : sc.state = .closed) :
    Keeps [.sbu] s (s.setScreening i none) := by
  have other : ∀ k z, (s.setScreening i none).screening k = some z → s.screening k = some z := by
    intro k z hz
    rw [State.setScreening_screening] at hz
    split at hz
    · cases hz
    · exact hz
  refine .of_one (s.setScreening_kept i _ (by decide))
    ⟨fun h => h, fun h => State.setScreening_seatLaw i h (by simp), fun _ seat hold => ?_⟩
  obtain ⟨distinct, idle, line, held⟩ := hold
  refine ⟨fun k m x z hx hz e => distinct k m x z (other k x hx) (other m z hz) e, fun k z hz => idle k z (other k z hz),
    fun k z a d n hz => line k z a d n (other k z hz), fun d n number a l hl ln => ?_⟩
  obtain ⟨k, x, hx, num, state⟩ := held d n number a l hl ln
  have : k ≠ i := by
    rintro rfl
    rw [hi] at hx
    obtain rfl := Option.some.inj hx
    exact (Screening.noHeld_iff (seat.seated hi).1.1).1 (idle k sc hi (.inr closed)) a d n state
  exact ⟨k, x, by rw [State.setScreening_screening_ne _ _ _ this]; exact hx, num, state⟩

theorem State.freeSlot_free {i : Fin 16} (h : s.freeSlot = some i) : s.screening i = none := by
  simpa using List.find?_some h

theorem State.screeningLoad_keeps (h : HostTag) (r : ScreeningLoadReq) : Keeps [.sbu, .hlc] s (State.screeningLoad h r s) := by
  have refused : ∀ c, Keeps [.sbu, .hlc] s (s.replyHost h c .none) := fun c => (s.replyHost_keeps h c _).within (by decide)
  unfold State.screeningLoad
  split
  · split
    · refine .ite (fun _ => refused _) fun new => .ite (fun _ => refused _) fun ready => ?_
      split
      · exact refused _
      · rename_i i free
        exact ((s.loadScreening_keeps (s.freeSlot_free free) (by simpa using new) (not_not.1 ready)).then
          (State.replyHost_keeps _ _ _ _)).within (by decide)
    · exact refused _
  · exact refused _

/-- A request that names a screening acts on the one found, or on nothing (R6). -/
theorem State.onScreening_keeps {L : List Block} (m : .hlc ∈ L) (h : HostTag) (n : Nat) {act : Fin 16 → Screening → State}
    (ha : ∀ i sc, s.findScreening n = some (i, sc) → s.screening i = some sc → Keeps L s (act i sc)) :
    Keeps L s (s.onScreening h n act) := by
  unfold State.onScreening
  split
  · rename_i i sc found
    exact ha i sc found (State.findScreening_slot found)
  · exact (s.replyHost_keeps h _ _).mono (by simpa using m)

theorem State.screeningOpen_keeps (h : HostTag) (n : Nat) : Keeps [.sbu, .hlc] s (State.screeningOpen h n s) := by
  have replied : ∀ c, Keeps [.sbu, .hlc] s (s.replyHost h c .none) := fun c => (s.replyHost_keeps h c _).within (by decide)
  refine s.onScreening_keeps (by decide) h n fun i sc _ hi => ?_
  split
  · exact .ite (fun _ => ((s.moveScreening_keeps hi sc.withdrawn .onSale (by simp)).then
      (State.replyHost_keeps _ _ _ _)).within (by decide)) fun _ => replied _
  all_goals exact replied _

theorem State.screeningClose_keeps (h : HostTag) (n : Nat) : Keeps [.sbu, .hlc, .klc] s (State.screeningClose h n s) := by
  have replied : ∀ c, Keeps [.sbu, .hlc, .klc] s (s.replyHost h c .none) := fun c => (s.replyHost_keeps h c _).within (by decide)
  refine s.onScreening_keeps (by decide) h n fun i sc _ hi => ?_
  split
  · exact ((s.enterClosing_keeps hi sc.withdrawn).then (State.replyHost_keeps _ _ _ _)).within (by decide)
  all_goals exact replied _

theorem State.screeningWithdraw_keeps (h : HostTag) (n : Nat) :
    Keeps [.sbu, .hlc, .klc] s (State.screeningWithdraw h n s) := by
  refine s.onScreening_keeps (by decide) h n fun i sc _ hi => ?_
  have flagged := ((s.moveScreening_keeps hi true sc.state id).then (State.replyHost_keeps _ h .ok .none)).within (by decide)
    (M := [.sbu, .hlc, .klc])
  split
  · exact ((s.enterClosing_keeps hi true).then (State.replyHost_keeps _ _ _ _)).within (by decide)
  · rename_i loaded
    exact (((s.moveScreening_keeps hi true .closed fun _ => .inl loaded).then (State.raise_keeps _ _)).then
      (State.replyHost_keeps _ _ _ _)).within (by decide)
  · exact flagged
  · exact flagged

theorem State.screeningUnload_keeps (h : HostTag) (n : Nat) : Keeps [.sbu, .hlc] s (State.screeningUnload h n s) :=
  s.onScreening_keeps (by decide) h n fun _ _ _ hi =>
    .ite (fun closed => ((s.unloadScreening_keeps hi closed).then (State.replyHost_keeps _ _ _ _)).within (by decide)) fun _ =>
      (s.replyHost_keeps _ _ _).within (by decide)

/-! ### The host's seat operations (R17 to R21) -/

/-- A screening that keeps its holds and its state, and a reply. -/
theorem State.putScreening_keeps {i : Fin 16} {sc y : Screening} (hi : s.screening i = some sc) (same : sameHolds sc y)
    (state : y.state = sc.state) (h : HostTag) (c : Code) (x : HostData) :
    Keeps [.sbu, .hlc] s ((s.setScreening i (some y)).replyHost h c x) :=
  ((s.setScreening_keeps hi same fun _ st => .inl (by rwa [state] at st)).then (State.replyHost_keeps _ _ _ _)).within (by decide)

/-- Moving seats between FREE and BLOCKED moves none into or out of HELD (R18). -/
theorem moveSeat_sameHolds (l : Layout) {old new : SeatState} (ho : old.isHeld = false) (hn : new.isHeld = false) (code : Code)
    (acc : Screening × List RefusedSeat) (a : SeatAddr) :
    sameHolds acc.1 (moveSeat l old new code acc a).1 ∧ (moveSeat l old new code acc a).1.state = acc.1.state := by
  unfold moveSeat
  split
  · rename_i st _ at_
    split
    · rename_i e
      refine ⟨Screening.setSeat_sameHolds hn fun x hx => ?_, by simp⟩
      rw [at_] at hx
      obtain rfl := Option.some.inj hx
      rw [e]; exact ho
    · exact ⟨.refl _, rfl⟩
  · exact ⟨.refl _, rfl⟩

theorem State.moveSeats_keeps {i : Fin 16} {sc : Screening} (hi : s.screening i = some sc) (h : HostTag) {old new : SeatState}
    (ho : old.isHeld = false) (hn : new.isHeld = false) (code : Code) (seats : List SeatAddr) :
    Keeps [.sbu, .hlc] s (s.moveSeats h i sc old new code seats) := by
  have moved : sameHolds sc (seats.foldl (moveSeat (s.layout sc.layout) old new code) (sc, [])).1 ∧
      (seats.foldl (moveSeat (s.layout sc.layout) old new code) (sc, [])).1.state = sc.state := by
    refine List.foldlRecOn (motive := fun acc : Screening × List RefusedSeat => sameHolds sc acc.1 ∧ acc.1.state = sc.state)
      seats _ ⟨.refl sc, rfl⟩ fun acc hacc a _ => ?_
    obtain ⟨same, state⟩ := moveSeat_sameHolds (s.layout sc.layout) ho hn code acc a
    exact ⟨hacc.1.trans same, state.trans hacc.2⟩
  unfold State.moveSeats
  dsimp only
  exact .ite (fun _ => s.putScreening_keeps hi moved.1 moved.2 _ _ _) fun _ => s.putScreening_keeps hi moved.1 moved.2 _ _ _

theorem State.onSeats_keeps {L : List Block} (m : .hlc ∈ L) (h : HostTag) (n : Nat) (seats : List SeatAddr) {act : Fin 16 →
    Screening → State}
    (ha : ∀ i sc, s.screening i = some sc → Keeps L s (act i sc)) :
    Keeps L s (s.onSeats h n seats act) :=
  .ite (fun _ => s.onScreening_keeps m h n fun i sc _ hi => ha i sc hi) fun _ =>
    (s.replyHost_keeps h _ _).mono (by simpa using m)

theorem State.seatBlock_keeps (h : HostTag) (r : SeatListReq) : Keeps [.sbu, .hlc] s (State.seatBlock h r s) :=
  s.onSeats_keeps (by decide) h _ _ fun _ _ hi => s.moveSeats_keeps hi h rfl rfl _ _

theorem State.seatUnblock_keeps (h : HostTag) (r : SeatListReq) : Keeps [.sbu, .hlc] s (State.seatUnblock h r s) :=
  s.onSeats_keeps (by decide) h _ _ fun _ _ hi => s.moveSeats_keeps hi h rfl rfl _ _

@[simp] theorem Screening.setSeats_state (sc : Screening) (l : List SeatAddr) (x : SeatState) :
    (sc.setSeats l x).state = sc.state := by
  induction l generalizing sc with
  | nil => rfl
  | cons a l ih => exact (ih (sc.setSeat a x)).trans (sc.setSeat_state a x)

theorem Screening.setSeats_sameHolds {sc : Screening} {new : SeatState} (hn : new.isHeld = false) {l : List SeatAddr}
    (ho : ∀ a ∈ l, ∀ x, sc.stateAt a = some x → x.isHeld = false) : sameHolds sc (sc.setSeats l new) := by
  induction l generalizing sc with
  | nil => exact .refl sc
  | cons a l ih =>
    have first : sameHolds sc (sc.setSeat a new) := Screening.setSeat_sameHolds hn (ho a (by simp))
    refine first.trans (ih fun b hb x hx => ?_)
    rw [Screening.stateAt_setSeat] at hx
    split at hx
    · obtain ⟨_, -, rfl⟩ := Option.map_eq_some_iff.1 hx
      exact hn
    · exact ho b (List.mem_cons_of_mem a hb) x hx

/-- No seat of a list is in a state that the test picks. -/
theorem firstInState_none {sc : Screening} {p : SeatState → Bool} {l : List SeatAddr} (h : firstInState sc p l = none)
    {a : SeatAddr} (ha : a ∈ l) {x : SeatState} (hx : sc.stateAt a = some x) : p x = false := by
  have := List.findSome?_eq_none_iff.1 h a ha
  simpa [hx] using this

theorem State.seatSell_keeps (h : HostTag) (r : SeatSellReq) : Keeps [.sbu, .hlc] s (State.seatSell h r s) := by
  have refused : ∀ c x, Keeps [.sbu, .hlc] s (s.replyHost h c x) := fun c x => (s.replyHost_keeps h c x).within (by decide)
  refine s.onSeats_keeps (by decide) h _ _ fun i sc hi => .ite (fun _ => refused _ _) fun _ => .ite (fun _ => refused _ _) fun _ =>
    .ite (fun _ => refused _ _) fun _ => ?_
  split
  · exact refused _ _
  · exact refused _ _
  · rename_i _ untaken
    refine s.putScreening_keeps hi (Screening.setSeats_sameHolds rfl fun a ha x hx => ?_) (by simp) _ _ _
    have := firstInState_none untaken ha hx
    cases x <;> first | rfl | cases this

theorem State.seatRefund_keeps (h : HostTag) (r : SeatListReq) : Keeps [.sbu, .hlc] s (State.seatRefund h r s) := by
  have refused : ∀ c x, Keeps [.sbu, .hlc] s (s.replyHost h c x) := fun c x => (s.replyHost_keeps h c x).within (by decide)
  refine s.onSeats_keeps (by decide) h _ _ fun i sc hi => .ite (fun _ => refused _ _) fun _ => .ite (fun _ => refused _ _) fun _ => ?_
  split
  · exact refused _ _
  · exact refused _ _
  · rename_i _ sold
    refine s.putScreening_keeps hi (Screening.setSeats_sameHolds rfl fun a ha x hx => ?_) (by simp) _ _ _
    have := firstInState_none sold ha hx
    cases x <;> first | rfl | cases this

theorem State.seatQuery_keeps (h : HostTag) (r : SeatQueryReq) : Keeps [.hlc] s (State.seatQuery h r s) :=
  .ite (fun _ => s.replyHost_keeps _ _ _) fun _ => s.onScreening_keeps (by decide) h _ fun _ _ _ _ =>
    .ite (fun _ => s.replyHost_keeps _ _ _) fun _ => s.replyHost_keeps _ _ _

end

end Sys2Proof.Machine
end

section
/-! What the holding of seats keeps (R15, R29). -/

namespace Sys2Proof.Machine

/-! ## Holding seats (R15, R29) -/

namespace Screening

@[simp] theorem holdFrom_state (d : Drop) (l : List SeatAddr) (k : Nat) (sc : Screening) : (sc.holdFrom d k l).state = sc.state := by
  induction l generalizing sc k with
  | nil => rfl
  | cons a l ih => exact (ih _ _).trans (sc.setSeat_state a _)

@[simp] theorem holdFrom_number (d : Drop) (l : List SeatAddr) (k : Nat) (sc : Screening) :
    (sc.holdFrom d k l).number = sc.number := by
  induction l generalizing sc k with
  | nil => rfl
  | cons a l ih => exact (ih _ _).trans (sc.setSeat_number a _)

theorem holdFrom_seated {s : State} (d : Drop) (l : List SeatAddr) (k : Nat) {sc : Screening} (h : s.seated sc) :
    s.seated (sc.holdFrom d k l) := by
  induction l generalizing sc k with
  | nil => exact h
  | cons a l ih => exact ih _ (h.congr (h.1.setSeat a _) (by simp) (by simp))

theorem stateAt_holdFrom_other (d : Drop) {l : List SeatAddr} {a : SeatAddr} (ha : a ∉ l) (k : Nat) (sc : Screening) :
    (sc.holdFrom d k l).stateAt a = sc.stateAt a := by
  induction l generalizing sc k with
  | nil => rfl
  | cons b l ih =>
    obtain ⟨hb, hl⟩ : a ≠ b ∧ a ∉ l := by simpa using ha
    rw [holdFrom, ih hl, stateAt_setSeat, if_neg hb]

theorem stateAt_holdFrom (d : Drop) {l : List SeatAddr} (nodup : l.Nodup) {j : Nat} {a : SeatAddr} (hj : l[j]? = some a) (k : Nat)
    (sc : Screening) : (sc.holdFrom d k l).stateAt a = (sc.stateAt a).map fun _ => .held d (k + j) := by
  induction l generalizing sc k j with
  | nil => simp at hj
  | cons b l ih =>
    obtain ⟨hb, hl⟩ := List.nodup_cons.1 nodup
    cases j with
    | zero =>
      obtain rfl : b = a := by simpa using hj
      rw [holdFrom, stateAt_holdFrom_other d hb, stateAt_setSeat, if_pos rfl]; rfl
    | succ j =>
      have hj : l[j]? = some a := hj
      have ne : a ≠ b := fun e => hb (e ▸ List.mem_of_getElem? hj)
      rw [holdFrom, ih hl hj, stateAt_setSeat, if_neg ne]
      simp only [show k + 1 + j = k + (j + 1) by omega]

end Screening

/-- What the checks of SELECT and BEST leave true of the seats to be held: the basket has room for them, and no screening but theirs is
bound (R29, R53). -/
structure State.fits (s : State) (d : Drop) (i : Fin 16) (sc : Screening) (l : List SeatAddr) : Prop where
  slot : s.screening i = some sc
  onSale : sc.state = .onSale
  opens : (s.basket d).state ≠ .tender
  bound : (s.basket d).boundElsewhere sc.number = false
  lines : (s.basket d).lines.length + l.length ≤ 10
  seats : (s.basket d).seatCount + l.length ≤ 8
  nonempty : l ≠ []
  nodup : l.Nodup
  free : s.seatLaw → ∀ a ∈ l, sc.stateAt a = some SeatState.free

theorem Basket.accepts_self {b : Basket} (h : b.state ≠ .tender) : b.accepts b.serial := by
  cases e : b.state with
  | idle => exact .inl e
  | opened => exact .inr ⟨e, rfl⟩
  | tender => exact absurd e h

theorem State.openedBasket_lines (s : State) {b : Basket} (law : b.lawful) (h : b.state ≠ .tender) :
    (s.openedBasket b).lines = b.lines := by
  rw [s.openedBasket_eq law (Basket.accepts_self h)]

/-- A basket takes lines pushed on its stack (R24 to R27). -/
theorem State.pushed_lawful (s : State) {b c : Basket} (law : b.lawful) (opens : b.state ≠ .tender) (ls : List BasketLine)
    (state : c.state = .opened) (frozen : c.frozen = (s.openedBasket b).frozen) (saved : c.saved = (s.openedBasket b).saved)
    (lines : c.lines = (s.openedBasket b).lines ++ ls) (some : ls.any BasketLine.live = true) (length : b.lines.length + ls.length ≤ 10)
    (seats : b.seatCount + (ls.filter BasketLine.isSeat).length ≤ 8) (snacks : b.snackCount + (ls.filter BasketLine.isSnack).length ≤ 8)
    (old : b.lines.any BasketLine.isSeat = true → c.bound = b.bound)
    (new : ∀ l ∈ ls, l.isSeat = true → l.screening = c.bound) (none : c.lines.any BasketLine.isSeat = false → c.bound = none) :
    c.lawful := by
  have accepts := Basket.accepts_self opens
  obtain ⟨noFrozen, noSaved⟩ := law.unfrozen accepts
  have bound := law.stacked.bound
  rw [s.openedBasket_eq law accepts] at lines frozen saved
  refine Basket.stacked.lawful ⟨?_, ?_, ?_, fun l hl seat => ?_, fun _ => by simp [state], ?_, ?_⟩ ?_ none
  · simpa [lines] using length
  · simpa [Basket.seatCount, lines] using seats
  · simpa [Basket.snackCount, lines] using snacks
  · rw [lines] at hl
    rcases List.mem_append.1 hl with hl | hl
    · rw [old (List.any_eq_true.2 ⟨l, hl, seat⟩)]; exact bound l hl seat
    · exact new l hl seat
  · rw [frozen, state]; simp [noFrozen]
  · rw [saved, state]; simp [noSaved]
  · simp only [Basket.hasLine, lines, List.any_append, some, Bool.or_true]

section
variable {s : State} {d : Drop} {i : Fin 16} {sc : Screening} {ps : List PricedSeat}

@[simp] theorem PricedSeat.line_isSeat (p : PricedSeat) (n g : Nat) : (p.line n g).isSeat = true := rfl
@[simp] theorem PricedSeat.line_isSnack (p : PricedSeat) (n g : Nat) : (p.line n g).isSnack = false := rfl
@[simp] theorem PricedSeat.line_live (p : PricedSeat) (n g : Nat) : (p.line n g).live = true := rfl

theorem State.openedBasket_state (s : State) {b : Basket} (h : b.state ≠ .tender) : (s.openedBasket b).state = .opened := by
  unfold State.openedBasket
  cases e : b.state with
  | idle => rfl
  | opened => exact e
  | tender => exact absurd e h

theorem State.basketHolding_lawful (h : s.fits d i sc (ps.map (·.addr))) (law : (s.basket d).lawful) :
    (s.basketHolding (s.basket d) sc.number ps).lawful := by
  obtain ⟨-, -, opens, elsewhere, lines, seats, nonempty, -, -⟩ := h
  simp only [List.length_map, ne_eq, List.map_eq_nil_iff] at lines seats nonempty
  obtain ⟨p, rest, rfl⟩ := List.exists_cons_of_ne_nil nonempty
  have noSnack : ∀ ps : List PricedSeat, (ps.map fun p => p.line sc.number s.fau.generation).filter BasketLine.isSnack = [] := by
    simp
  have allSeats : ∀ ps : List PricedSeat, (ps.map fun p => p.line sc.number s.fau.generation).filter BasketLine.isSeat =
      ps.map fun p => p.line sc.number s.fau.generation := by
    simp
  refine s.pushed_lawful law opens ((p :: rest).map fun p => p.line sc.number s.fau.generation)
    (s.openedBasket_state opens) rfl rfl rfl (by simp) (by simpa using lines) ?_ ?_ (fun any => ?_) (fun l hl _ => ?_) fun none => ?_
  · rw [allSeats]; simpa using seats
  · rw [noSnack]; simpa using law.stacked.snacks
  · obtain ⟨l, hl, seat⟩ := List.any_eq_true.1 any
    have bound := law.stacked.bound l hl seat
    cases l with
    | seat n _ _ _ _ _ =>
      have here : (s.basket d).bound = some n := bound.symm
      simp only [Basket.boundElsewhere, here, bne_eq_false_iff_eq] at elsewhere
      rw [here, elsewhere]; rfl
    | snack _ _ _ => cases seat
    | void => cases seat
  · obtain ⟨q, -, rfl⟩ := List.mem_map.1 hl
    rfl
  · simp [State.basketHolding, Basket.withTotals] at none

theorem State.holdSeats_holdLaw (h : s.fits d i sc (ps.map (·.addr))) (law : (s.basket d).lawful) (seat : s.seatLaw)
    (hold : s.holdLaw) : (s.holdSeats d i sc ps).holdLaw := by
  obtain ⟨hi, onSale, opens, -, -, -, -, nodup, free⟩ := h
  replace free := free seat
  obtain ⟨distinct, idle, line, held⟩ := hold
  have lines : (s.openedBasket (s.basket d)).lines = (s.basket d).lines := s.openedBasket_lines law opens
  let len := (s.basket d).lines.length
  let y := sc.holdFrom d len (ps.map (·.addr))
  -- the baskets and screenings of the new state
  have basket : ∀ e, ((s.holdSeats d i sc ps).basket e).lines = if e = d then
      (s.basket d).lines ++ ps.map fun p => p.line sc.number s.fau.generation else (s.basket e).lines := by
    intro e
    rw [State.holdSeats, State.setBasket_basket]
    split
    · rw [← lines]; rfl
    · rfl
  have screening : ∀ j, (s.holdSeats d i sc ps).screening j = if j = i then some y else s.screening j := by
    intro j
    rw [State.holdSeats, State.setBasket_screening, State.setScreening_screening, lines]
  have origin : ∀ j z, (s.holdSeats d i sc ps).screening j = some z → (j = i ∧ z = y) ∨ (j ≠ i ∧ s.screening j = some z) := by
    intro j z hz
    rw [screening] at hz
    split at hz
    · exact .inl ⟨‹_›, (Option.some.inj hz).symm⟩
    · exact .inr ⟨‹_›, hz⟩
  have number : ∀ j z, (s.holdSeats d i sc ps).screening j = some z → ∃ x, s.screening j = some x ∧ x.number = z.number := by
    intro j z hz
    rcases origin j z hz with ⟨rfl, rfl⟩ | ⟨-, hz⟩
    · exact ⟨sc, hi, by simp [y]⟩
    · exact ⟨z, hz, rfl⟩
  have place : ∀ a ∈ ps.map (·.addr), ∃ j p, ps[j]? = some p ∧ p.addr = a ∧ y.stateAt a = some (.held d (len + j)) := by
    intro a ha
    obtain ⟨j, hj⟩ := List.mem_iff_getElem?.1 ha
    have state := Screening.stateAt_holdFrom d nodup hj len sc
    rw [free a ha] at state
    rw [List.getElem?_map] at hj
    obtain ⟨p, hp, addr⟩ := Option.map_eq_some_iff.1 hj
    exact ⟨j, p, hp, addr, state⟩
  refine ⟨fun j k x z hx hz e => ?_, fun j z hz st => ?_, fun j z a e k hz state => ?_, fun e k n a l hl ln => ?_⟩
  · obtain ⟨x', hx', ex⟩ := number j x hx
    obtain ⟨z', hz', ez⟩ := number k z hz
    exact distinct j k x' z' hx' hz' (by rw [ex, ez, e])
  · rcases origin j z hz with ⟨-, rfl⟩ | ⟨-, hz⟩
    · simp [y, onSale] at st
    · exact idle j z hz st
  · -- a HELD seat has its line
    have stays : holdsAt (s.basket e).lines k z.number a → ∃ l, ((s.holdSeats d i sc ps).basket e).lines[k]? = some l ∧
        l.names z.number a = true := by
      rintro ⟨l, hl, ln⟩
      refine ⟨l, ?_, ln⟩
      rw [basket]
      split
      · rename_i same
        rw [same] at hl
        rw [List.getElem?_append_left (List.getElem?_eq_some_iff.1 hl).1]; exact hl
      · exact hl
    rcases origin j z hz with ⟨-, rfl⟩ | ⟨-, hz⟩
    · by_cases ha : a ∈ ps.map (·.addr)
      · obtain ⟨j, p, hp, rfl, now⟩ := place a ha
        rw [now] at state
        simp only [Option.some.injEq, SeatState.held.injEq] at state
        obtain ⟨rfl, rfl⟩ := state
        refine ⟨p.line sc.number s.fau.generation, ?_, by simp [y, PricedSeat.line, BasketLine.names]⟩
        rw [basket, if_pos rfl, List.getElem?_append_right (by omega)]
        simp [len, hp]
      · have was : sc.stateAt a = some (.held e k) := by rw [← state]; exact (Screening.stateAt_holdFrom_other d ha len sc).symm
        exact stays (by simpa [y, holdsAt] using line i sc a e k hi was)
    · exact stays (line j z a e k hz state)
  · -- a SEAT line has its HELD seat
    have stays : holdsAt (s.basket e).lines k n a →
        ∃ j x, (s.holdSeats d i sc ps).screening j = some x ∧ x.number = n ∧ x.stateAt a = some (.held e k) := by
      rintro ⟨l, hl, ln⟩
      obtain ⟨j, x, hx, num, state⟩ := held e k n a l hl ln
      by_cases same : j = i
      · subst same
        obtain rfl : sc = x := by rw [hi] at hx; exact Option.some.inj hx
        have other : a ∉ ps.map (·.addr) := fun ha => by
          have := free a ha
          rw [state] at this; cases this
        exact ⟨j, y, by rw [screening, if_pos rfl], by simpa [y] using num,
          (Screening.stateAt_holdFrom_other d other len sc).trans state⟩
      · exact ⟨j, x, by rw [screening, if_neg same]; exact hx, num, state⟩
    rw [basket] at hl
    split at hl
    · rename_i same
      subst same
      rw [List.getElem?_append] at hl
      split at hl
      · exact stays ⟨l, hl, ln⟩
      · rename_i above
        rw [List.getElem?_map] at hl
        obtain ⟨p, hp, rfl⟩ := Option.map_eq_some_iff.1 hl
        simp only [PricedSeat.line, BasketLine.names, Bool.and_eq_true, beq_iff_eq] at ln
        obtain ⟨rfl, rfl⟩ := ln
        have spot : (ps.map (·.addr))[k - len]? = some p.addr := by simp [len, hp]
        have state := Screening.stateAt_holdFrom e nodup spot len sc
        rw [free _ (List.mem_of_getElem? spot)] at state
        refine ⟨i, y, by rw [screening, if_pos rfl], by simp [y], state.trans ?_⟩
        simp only [Option.map_some, show len + (k - len) = k by simp only [len]; omega]
    · exact stays ⟨l, hl, ln⟩

theorem State.holdSeats_keeps (h : s.fits d i sc (ps.map (·.addr))) : Keeps [.sbu] s (s.holdSeats d i sc ps) := by
  refine .of_one ((s.setScreening_kept i _ (by decide)).trans (State.setBasket_kept _ d _ (by decide)))
    ⟨fun law e => ?_, fun seat => ?_, fun law seat hold => State.holdSeats_holdLaw h (law d) seat hold⟩
  · rw [State.holdSeats, State.setBasket_basket]
    split
    · exact State.basketHolding_lawful h (law d)
    · exact law e
  · refine (State.setScreening_seatLaw i seat fun y hy => ?_).of_screenings (fun _ => rfl) fun _ _ => .inl
    obtain rfl := Option.some.inj hy
    exact Screening.holdFrom_seated d _ _ (seat.seated h.slot)

end

end Sys2Proof.Machine
end

section
/-! What SELECT, BEST and SNACK_ADD keep (R28 to R30, R52 to R61). -/

namespace Sys2Proof.Machine

/-! ## The seats asked for and found (R29, R52 to R60) -/

theorem Layout.mem_seatAddrs_of_seatExists {l : Layout} {a : SeatAddr} (h : l.seatExists a = true) : a ∈ l.seatAddrs := by
  simp only [Layout.seatExists, Bool.and_eq_true, Layout.seatKind, Layout.kindAt, Option.isSome_iff_exists,
    Option.bind_eq_some_iff] at h
  obtain ⟨-, k, p, ⟨r, hr, hp⟩, seat⟩ := h
  refine List.mem_flatten.2 ⟨_, List.mem_map.2 ⟨(r, a.row), List.mem_zipIdx_iff_getElem?.2 hr, rfl⟩, ?_⟩
  refine mem_rowAddrs.2 ⟨rfl, (List.getElem?_eq_some_iff.1 hp).1, fun aisle => ?_⟩
  rw [hp] at aisle
  obtain rfl := Option.some.inj aisle
  cases seat

theorem noRepeats_iff {l : List SeatAddr} : noRepeats l = true ↔ l.Nodup := by
  induction l with
  | nil => simp [noRepeats]
  | cons a l ih => simp [noRepeats, ih]

/-- The seats of a request that pass the first two seat checks are FREE, where the records are those of the layout (R17, R29). -/
theorem free_of_seatDenial {l : Layout} {sc : Screening} {b : Basket} {seats : List SeatAddr} (h : seatDenial l sc b seats = none)
    (addrs : sc.seats.map (·.addr) = l.seatAddrs) (distinct : (sc.seats.map (·.addr)).Nodup) :
    ∀ a ∈ seats, sc.stateAt a = some .free := by
  unfold seatDenial at h
  split at h <;> try cases h
  rename_i missing taken _ _
  intro a ha
  have there : l.seatExists a = true := by simpa using List.find?_eq_none.1 missing a ha
  have mem := Layout.mem_seatAddrs_of_seatExists there
  rw [← addrs] at mem
  obtain ⟨⟨b, x⟩, hr, rfl⟩ := List.mem_map.1 mem
  have state := (Screening.stateAt_eq_some distinct).2 hr
  have := firstInState_none taken ha state
  rw [state]
  simpa using this

theorem runSeats_nodup (row start n : Nat) : (runSeats row start n).Nodup := by
  refine List.Nodup.map (fun i j h => ?_) List.nodup_range
  simp only [SeatAddr.mk.injEq] at h
  omega

@[simp] theorem runSeats_length (row start n : Nat) : (runSeats row start n).length = n := by simp [runSeats]

theorem runSeats_row {row start n : Nat} {a : SeatAddr} (h : a ∈ runSeats row start n) : a.row = row := by
  obtain ⟨i, -, rfl⟩ := List.mem_map.1 h
  rfl

theorem rowRuns_row {l : Layout} {sc : Screening} {k : SeatKind} {n row : Nat} {r : Run} (h : r ∈ rowRuns l sc k n row) :
    r.row = row := by
  obtain ⟨st, -, rfl⟩ := List.mem_map.1 h
  rfl

theorem upperSize_le {n : Nat} (h : 2 ≤ n) : upperSize n ≤ n := by unfold upperSize; omega

/-- A placement is of as many seats as were asked for, all different (R54, R57). -/
theorem findPlacement_distinct {l : Layout} {sc : Screening} {k : SeatKind} {n : Nat} {range : Option (Nat × Nat)} {split : Bool}
    {p : Placement} (h : findPlacement l sc k n range split = some p) : p.seats.length = n ∧ p.seats.Nodup := by
  unfold findPlacement at h
  split at h
  · rename_i q single
    obtain rfl := Option.some.inj h
    obtain ⟨r, -, rfl⟩ := Option.map_eq_some_iff.1 single
    exact ⟨runSeats_length _ _ _, runSeats_nodup _ _ _⟩
  split at h
  · rename_i two
    obtain ⟨⟨u, w⟩, least, rfl⟩ := Option.map_eq_some_iff.1 h
    obtain ⟨row, -, pair⟩ := List.mem_flatMap.1 (leastBy_mem _ least)
    have := upperSize_le two.1
    refine ⟨by simp [pairSeats]; omega, ?_⟩
    unfold rowPairs at pair
    split at pair
    · obtain ⟨u', hu, pair⟩ := List.mem_flatMap.1 pair
      obtain ⟨w', hw, e⟩ := List.mem_map.1 (List.mem_filter.1 pair).1
      cases e
      refine List.nodup_append.2 ⟨runSeats_nodup _ _ _, runSeats_nodup _ _ _, fun a ha b hb e => ?_⟩
      have up := runSeats_row ha
      have low := runSeats_row hb
      rw [rowRuns_row hu] at up
      rw [rowRuns_row hw] at low
      rw [e] at up
      omega
    · cases pair
  · cases h

/-- What the checks on the screening leave true (R29, R53). -/
theorem State.screeningDenial_none {s : State} {b : Basket} {number count : Nat} {i : Fin 16} {sc : Screening}
    (h : s.screeningDenial b number count = none) (found : s.findScreening number = some (i, sc)) :
    sc.state = .onSale ∧ b.boundElsewhere sc.number = false ∧ b.lines.length + count ≤ 10 ∧ b.seatCount + count ≤ 8 := by
  obtain rfl := State.findScreening_number found
  simp only [State.screeningDenial, found] at h
  cases state : sc.state <;> simp only [state, reduceCtorEq] at h
  split at h
  · cases h
  · split at h
    · cases h
    · rename_i elsewhere full
      exact ⟨rfl, by simpa using elsewhere, by omega, by omega⟩

/-! ## Basket requests (R28 to R36) -/

section
variable {s : State} {d : Drop}

/-- A basket request replies, or its own rule acts: on an IDLE basket when it opens one, on an OPEN one, on one in TENDER when it views
(R28). -/
theorem State.basketRequest_keeps {L : List Block} (m : .klc ∈ L) {α : Type} {body : Body α} {serialOf : α → Nat} {opens views : Bool}
    {act : α → State → State}
    (ha : ∀ r, (opens = false → (s.basket d).state ≠ .idle) → (views = false → (s.basket d).state ≠ .tender) → Keeps L s (act r s)) :
    Keeps L s (s.basketRequest d body serialOf opens views act) := by
  have replied : ∀ c, Keeps L s (s.basketReply d c .none) := fun c => (s.basketReply_keeps d c .none).mono (by simpa using m)
  have serial : ∀ c, Keeps L s (s.serialReply d c) := fun c => (s.serialReply_keeps d c).mono (by simpa using m)
  unfold State.basketRequest
  split
  · exact replied _
  refine .ite (fun _ => serial _) fun _ => .ite (fun _ => serial _) fun _ => ?_
  split
  · rename_i idle
    exact .ite (fun opens => ha _ (by simp [opens]) (by simp [idle])) fun _ => replied _
  · rename_i opened
    exact .ite (fun _ => ha _ (by simp [opened]) (by simp [opened])) fun _ => serial _
  · rename_i tender
    exact .ite (fun _ => .ite (fun views => ha _ (by simp [tender]) (by simp [views])) fun _ => replied _) fun _ => serial _

/-- A basket request with its order taken off the list. -/
theorem Answers.basketRequest {L : List Block} (m : .klc ∈ L) {α : Type} (c : Instr) {body : Body α} {serialOf : α →
    Nat} {opens views : Bool}
    {act : α → State → State}
    (ha : ∀ r t, (opens = false → (t.basket d).state ≠ .idle) → (views = false → (t.basket d).state ≠ .tender) →
      Keeps L t (act r t)) :
    Answers (.orders :: .hlc :: L) s ((s.accept c).basketRequest d body serialOf opens views act).done := by
  refine Keeps.done (by simp) (Keeps.mono ((s.accept_keeps c).then (State.basketRequest_keeps m fun r => ha r _)) ?_)
  intro b hb
  simp only [List.mem_append, List.mem_cons, List.not_mem_nil, or_false] at hb ⊢
  tauto

/-- What the checks of SELECT and BEST leave true, and the seats they ask for put together (R29, R53). -/
theorem State.fits_of_checks {i : Fin 16} {sc : Screening} {number : Nat} {l : List SeatAddr} (opens : (s.basket d).state ≠ .tender)
    (checked : s.screeningDenial (s.basket d) number l.length = none) (found : s.findScreening number = some (i, sc))
    (seats : seatDenial (s.layout sc.layout) sc (s.basket d) l = none) (nonempty : l ≠ []) (nodup : l.Nodup) :
    s.fits d i sc l := by
  obtain ⟨onSale, bound, lines, room⟩ := State.screeningDenial_none checked found
  have slot := State.findScreening_slot found
  refine ⟨slot, onSale, opens, bound, lines, room, nonempty, nodup, fun law => ?_⟩
  obtain ⟨⟨distinct, -⟩, -, addrs⟩ := law.seated slot
  exact free_of_seatDenial seats addrs distinct

theorem priceHeld_addrs (f : Fau) (l : Layout) (sc : Screening) (xs : List (SeatAddr × Concession)) :
    (xs.map (f.priceHeld l sc)).map (·.addr) = xs.map (·.1) := by
  simp [Function.comp_def, Fau.priceHeld]

theorem State.priceAndHold_keeps {i : Fin 16} {sc : Screening} {xs : List (SeatAddr × Concession)} (h : s.fits d i sc (xs.map (·.1)))
    (detail : ReplyDetail) : Keeps [.sbu, .klc] s (s.priceAndHold d i sc xs detail) := by
  unfold State.priceAndHold
  dsimp only
  split
  · exact (s.basketReply_keeps d _ _).within (by decide)
  · exact ((State.holdSeats_keeps (ps := xs.map (s.fau.priceHeld (s.layout sc.layout) sc)) (by rw [priceHeld_addrs]; exact h)).then
      (State.basketReply_keeps _ d _ _)).within (by decide)

/-- The form of a SELECT asks for one to eight seats, all different (R29 check 1). -/
theorem selectSeats_distinct {r : SelectReq} {xs : List (SeatAddr × Concession)} (h : selectSeats r = some xs) :
    xs.map (·.1) ≠ [] ∧ (xs.map (·.1)).Nodup := by
  unfold selectSeats at h
  split at h
  · split at h
    · rename_i form
      obtain rfl := Option.some.inj h
      obtain ⟨one, -, -, distinct⟩ := form
      exact ⟨by rintro e; simp only [List.map_eq_nil_iff] at e; simp [e] at one, noRepeats_iff.1 distinct⟩
    · cases h
  · cases h

theorem State.select_keeps (r : SelectReq) (opens : (s.basket d).state ≠ .tender) : Keeps [.sbu, .klc] s (s.select d r) := by
  have refused : ∀ c x, Keeps [.sbu, .klc] s (s.basketReply d c x) := fun c x => (s.basketReply_keeps d c x).within (by decide)
  unfold State.select
  split
  · exact refused _ _
  · rename_i xs form
    obtain ⟨nonempty, nodup⟩ := selectSeats_distinct form
    split
    · rename_i i sc checked found
      split
      · exact refused _ _
      · rename_i seats
        exact State.priceAndHold_keeps (State.fits_of_checks opens (by simpa using checked) found seats nonempty nodup) _
    · exact refused _ _
    · exact refused _ _

/-- The form of a BEST names a concession for each of the one or more seats it asks for (R52). -/
theorem bestForm_count {r : BestReq} {f : BestForm} (h : bestForm r = some f) : 1 ≤ r.count ∧ f.concessions.length = r.count := by
  unfold bestForm at h
  split at h
  · split at h
    · rename_i form
      obtain rfl := Option.some.inj h
      exact ⟨form.1, form.2.2.1⟩
    · cases h
  · cases h

theorem State.best_keeps (r : BestReq) (opens : (s.basket d).state ≠ .tender) : Keeps [.sbu, .klc] s (s.best d r) := by
  have refused : ∀ c x, Keeps [.sbu, .klc] s (s.basketReply d c x) := fun c x => (s.basketReply_keeps d c x).within (by decide)
  unfold State.best
  split
  · exact refused _ _
  · rename_i f form
    obtain ⟨one, concessions⟩ := bestForm_count form
    split
    · rename_i i sc checked found
      split
      · exact refused _ _
      · rename_i p placed
        obtain ⟨count, nodup⟩ := findPlacement_distinct placed
        have zipped : (p.seats.zip f.concessions).map (·.1) = p.seats := List.map_fst_zip (by omega)
        split
        · exact refused _ _
        · rename_i seats
          refine State.priceAndHold_keeps ?_ _
          rw [zipped]
          exact State.fits_of_checks opens (by rw [count]; exact checked) found seats (by rintro e; simp [e] at count; omega) nodup
    · exact refused _ _
    · exact refused _ _

/-! ### Lines pushed and popped (R30 to R35) -/

theorem State.basketWithSnack_lawful {item price : Nat} (law : (s.basket d).lawful) (opens : (s.basket d).state ≠ .tender)
    (lines : (s.basket d).lines.length < 10) (snacks : (s.basket d).snackCount < 8) :
    (s.basketWithSnack (s.basket d) item price).lawful := by
  have stack : (s.openedBasket (s.basket d)).lines = (s.basket d).lines := s.openedBasket_lines law opens
  have bound : (s.openedBasket (s.basket d)).bound = (s.basket d).bound := by
    rw [s.openedBasket_eq law (Basket.accepts_self opens)]
  refine s.pushed_lawful law opens [.snack item price s.fau.generation] (s.openedBasket_state opens) rfl rfl rfl rfl
    (by simpa using lines) ?_ ?_ (fun _ => bound) ?_ fun none => ?_
  · simpa [BasketLine.isSeat] using law.stacked.seats
  · show (s.basket d).snackCount + 1 ≤ 8
    omega
  · simp [BasketLine.isSeat]
  · obtain ⟨-, -, -, -, -, -, unbound, -⟩ := law
    refine bound.trans (unbound ?_)
    rw [State.basketWithSnack, Basket.withTotals] at none
    simp only [List.any_append, Bool.or_eq_false_iff, stack] at none
    exact none.1

theorem State.snackAdd_keeps (r : SnackReq) (opens : (s.basket d).state ≠ .tender) : Keeps [.sbu, .klc] s (s.snackAdd d r) := by
  have refused : ∀ c x, Keeps [.sbu, .klc] s (s.basketReply d c x) := fun c x => (s.basketReply_keeps d c x).within (by decide)
  unfold State.snackAdd
  refine .ite (fun _ => refused _ _) fun _ => .ite (fun _ => refused _ _) fun room => ?_
  split
  · exact refused _ _
  · refine Keeps.within (by decide) (Keeps.then (L := [.sbu]) (s.setBasket_keeps d _ (fun law => ?_) fun law k n a => ?_)
      (State.basketReply_keeps _ d _ _))
    · exact State.basketWithSnack_lawful (law d) opens (by omega) (by omega)
    · show holdsAt ((s.openedBasket (s.basket d)).lines ++ _) k n a ↔ _
      rw [s.openedBasket_lines (law d) opens]
      constructor
      · rintro ⟨l, hl, ln⟩
        rw [List.getElem?_append] at hl
        split at hl
        · exact ⟨l, hl, ln⟩
        · obtain rfl := List.mem_singleton.1 (List.mem_of_getElem? hl)
          cases ln
      · rintro ⟨l, hl, ln⟩
        exact ⟨l, by rw [List.getElem?_append_left (List.getElem?_eq_some_iff.1 hl).1]; exact hl, ln⟩

end

end Sys2Proof.Machine
end

section
/-! What the rest of the commands on a basket keep (R31 to R51). -/

namespace Sys2Proof.Machine

/-! ### Lines taken away (R31, R32, R35) -/

theorem Thins.of_same {ls ms : List BasketLine} (h : ∀ (k : Nat) (l : BasketLine), ls[k]? = some l → ms[k]? = some l ∨
    (l = .void ∧ k < ms.length)) : Thins ls ms := fun k l hl => by
  rcases h k l hl with hm | ⟨rfl, lt⟩
  · exact ⟨l, hm, .inr l.priced_self⟩
  · exact ⟨ms[k], List.getElem?_eq_getElem lt, .inl rfl⟩

/-- A stack is what UNDO leaves, the line it removes, and VOID slots (R31). -/
theorem liveTop_append (ls : List BasketLine) :
    ∃ voids : List BasketLine, ls = (liveTop ls).reverse ++ voids ∧ ∀ l ∈ voids, l = .void := by
  refine ⟨(ls.reverse.takeWhile fun l => !l.live).reverse, ?_, fun l hl => ?_⟩
  · rw [← List.reverse_append, liveTop, List.takeWhile_append_dropWhile, List.reverse_reverse]
  · have := List.mem_takeWhile_imp (List.mem_reverse.1 hl)
    cases l <;> simp_all [BasketLine.live]

theorem liveTop_cons {ls : List BasketLine} {x : BasketLine} {rest : List BasketLine} (h : liveTop ls = x :: rest) :
    ∃ voids : List BasketLine, ls = rest.reverse ++ x :: voids ∧ ∀ l ∈ voids, l = .void := by
  obtain ⟨voids, e, void⟩ := liveTop_append ls
  exact ⟨voids, by rw [h] at e; simpa using e, void⟩

section
variable {s : State} {d : Drop}

theorem undone_linesGo (ls : List BasketLine) :
    Thins (undoneLines ls) ls ∧ LinesGo (undoneLine ls).toList ls (undoneLines ls) := by
  unfold undoneLine undoneLines
  cases top : liveTop ls with
  | nil =>
    obtain ⟨voids, e, void⟩ := liveTop_append ls
    rw [top] at e
    obtain rfl : ls = voids := e
    refine ⟨fun k l hl => by simp at hl, fun _ hg => by simp at hg, fun k n a h => absurd h holdsAt_nil, fun k n a h => ?_⟩
    obtain ⟨l, hl, ln⟩ := h
    rw [void l (List.mem_of_getElem? hl)] at ln
    cases ln
  | cons x rest =>
    obtain ⟨voids, rfl, void⟩ := liveTop_cons top
    have below : ∀ (k : Nat) (l : BasketLine), rest.reverse[k]? = some l → (rest.reverse ++ x :: voids)[k]? = some l :=
      fun k l hl => by rw [List.getElem?_append_left (List.getElem?_eq_some_iff.1 hl).1]; exact hl
    refine ⟨Thins.of_same fun k l hl => .inl (below k l hl), fun g hg n a gn => ?_, fun k n a ⟨l, hl, ln⟩ =>
      ⟨l, below k l hl, ln⟩, fun k n a ⟨l, hl, ln⟩ => ?_⟩
    · obtain rfl : g = x := by simpa using hg
      refine ⟨rest.reverse.length, by simp, fun m b ⟨l, hl, _⟩ => ?_⟩
      simp at hl
    · rw [List.getElem?_append] at hl
      split at hl
      · exact .inl ⟨l, hl, ln⟩
      · rcases List.mem_cons.1 (List.mem_of_getElem? hl) with rfl | v
        · exact .inr ⟨l, by simp, ln⟩
        · rw [void l v] at ln; cases ln

theorem voided_linesGo {ls : List BasketLine} {k : Nat} {x : BasketLine} (hk : ls[k]? = some x) :
    Thins (ls.set k .void) ls ∧ LinesGo [x] ls (ls.set k .void) := by
  have lt := (List.getElem?_eq_some_iff.1 hk).1
  have other : ∀ (m : Nat) (l : BasketLine), (ls.set k .void)[m]? = some l → (m = k ∧ l = .void) ∨ ls[m]? = some l := by
    intro m l hl
    by_cases e : m = k
    · subst e; rw [List.getElem?_set_self lt] at hl; exact .inl ⟨rfl, (Option.some.inj hl).symm⟩
    · rw [List.getElem?_set_ne (Ne.symm e)] at hl; exact .inr hl
  refine ⟨Thins.of_same fun m l hl => ?_, fun g hg n a gn => ?_, fun m n a ⟨l, hl, ln⟩ => ?_, fun m n a ⟨l, hl, ln⟩ => ?_⟩
  · rcases other m l hl with ⟨rfl, rfl⟩ | hl
    · exact .inr ⟨rfl, lt⟩
    · exact .inl hl
  · obtain rfl : g = x := by simpa using hg
    refine ⟨k, hk, fun m b ⟨l, hl, ln⟩ => ?_⟩
    rw [List.getElem?_set_self lt] at hl
    obtain rfl := Option.some.inj hl
    cases ln
  · rcases other m l hl with ⟨-, rfl⟩ | hl
    · cases ln
    · exact ⟨l, hl, ln⟩
  · by_cases e : m = k
    · subst e
      rw [hk] at hl
      obtain rfl := Option.some.inj hl
      exact .inr ⟨x, by simp, ln⟩
    · exact .inl ⟨l, by rw [List.getElem?_set_ne (Ne.symm e)]; exact hl, ln⟩

theorem State.undo_keeps (n : Nat) : Keeps [.sbu, .hlc, .klc] s (s.undo d n) := by
  obtain ⟨thin, go⟩ := undone_linesGo (s.basket d).lines
  exact ((s.changeLines_keeps d thin go).then (State.basketReply_keeps _ d _ _)).within (by decide)

theorem State.voidLine_keeps (r : VoidLineReq) : Keeps [.sbu, .hlc, .klc] s (s.voidLine d r) := by
  have refused : ∀ c x, Keeps [.sbu, .hlc, .klc] s (s.basketReply d c x) := fun c x => (s.basketReply_keeps d c x).within (by decide)
  unfold State.voidLine
  refine .ite (fun _ => refused _ _) fun _ => ?_
  split
  · exact refused _ _
  · exact refused _ _
  · rename_i l _ hl
    obtain ⟨thin, go⟩ := voided_linesGo hl
    exact ((s.changeLines_keeps d thin go).then (State.basketReply_keeps _ d _ _)).within (by decide)

theorem State.clear_keeps (n : Nat) : Keeps [.sbu, .hlc, .klc] s (s.clear d n) :=
  ((s.dropBasket_keeps d).then (State.basketReply_keeps _ d _ _)).within (by decide)

/-! ### The basket's own fields (R33, R38, R39, R45, R46) -/

/-- A basket in use may change all but its lines and its bound screening, the frozen amount and the saved countdown going with
TENDER. -/
theorem Basket.lawful.sameLines {b c : Basket} (h : b.lawful) (line : b.hasLine = true) (lines : c.lines = b.lines)
    (bound : c.bound = b.bound) (state : c.state ≠ .idle) (frozen : c.frozen.isSome = true ↔ c.state = .tender)
    (saved : c.saved.isSome = true ↔ c.state = .tender) : c.lawful := by
  obtain ⟨-, -, length, seats, snacks, screening, unbound, -, -⟩ := h
  refine ⟨fun e => absurd e state, fun _ => ?_, ?_, ?_, ?_, ?_, ?_, frozen, saved⟩
  · simpa only [Basket.hasLine, lines] using line
  · rwa [lines]
  · simpa only [Basket.seatCount, lines] using seats
  · simpa only [Basket.snackCount, lines] using snacks
  · rw [lines, bound]; exact screening
  · rw [lines, bound]; exact unbound

theorem Basket.lawful.line {b : Basket} (h : b.lawful) (used : b.state ≠ .idle) : b.hasLine = true := h.2.1 used

/-- A basket in use keeps its lines and its state while others of its fields change. -/
theorem State.setBasket_sameLines_keeps (b : Basket) (used : (s.basket d).state ≠ .idle) (lines : b.lines = (s.basket d).lines)
    (bound : b.bound = (s.basket d).bound) (state : b.state = (s.basket d).state) (frozen : b.frozen = (s.basket d).frozen)
    (saved : b.saved = (s.basket d).saved) : Keeps [.sbu] s (s.setBasket d b) := by
  refine s.setBasket_keeps d b (fun law => ?_) fun _ k n a => by rw [lines]
  have stacked := (law d).stacked
  refine (law d).sameLines ((law d).line used) lines bound (by rwa [state]) ?_ ?_
  · rw [frozen, state]; exact stacked.frozen
  · rw [saved, state]; exact stacked.saved

theorem State.extend_keeps (n : Nat) (used : (s.basket d).state ≠ .idle) : Keeps [.sbu, .klc] s (s.extend d n) := by
  unfold State.extend
  dsimp only
  refine .ite (fun _ => Keeps.within (by decide) (Keeps.then (L := [.sbu]) ?_ (State.basketReply_keeps _ d _ _))) fun _ =>
    (s.basketReply_keeps d _ _).within (by decide)
  exact State.setBasket_sameLines_keeps _ used rfl rfl rfl rfl rfl

theorem State.view_keeps (n : Nat) : Keeps [.klc] s (s.view d n) := s.basketReply_keeps d _ _

theorem State.countHold_keeps : Keeps [.sbu, .hlc, .klc, .orders] s (s.countHold d) := by
  unfold State.countHold
  dsimp only
  refine .whenever fun open_ => ?_
  have used : (s.basket d).state ≠ .idle := by rw [open_.1]; simp
  have counted : ∀ w, Keeps [.sbu] s (s.setBasket d { (s.basket d).counted with warned := w }) :=
    fun w => State.setBasket_sameLines_keeps _ used rfl rfl rfl rfl rfl
  exact .ite (fun _ => ((counted true).then (State.pushBasket_keeps _ d _)).within (by decide)) fun _ =>
    .ite (fun _ => ((counted _).then (State.send_keeps _ _)).within (by decide)) fun _ => (counted _).within (by decide)

/-! ### TENDER (R43 to R46) -/

/-- The basket as a TENDER freezes it (R45). -/
def Basket.frozenNow (b : Basket) : Basket :=
  { b with frozen := some b.totals.gross, saved := some b.countdown, state := .tender }

theorem Basket.lawful.frozenNow {b : Basket} (h : b.lawful) (line : b.hasLine = true) : b.frozenNow.lawful :=
  h.sameLines line rfl rfl (by simp [Basket.frozenNow]) (by simp [Basket.frozenNow]) (by simp [Basket.frozenNow])

/-- What a freeze tells the TDU (R45). -/
def Basket.tenderStart (b : Basket) (d : Drop) : Instr :=
  .tenderStart d { serial := b.serial, frozen := b.totals.gross, seats := b.seatCount, snacks := b.snackCount, attempts := b.attempts }

theorem State.freeze_eq (s : State) (d : Drop) :
    s.freeze d = (s.setBasket d (s.basket d).frozenNow).send [(s.basket d).tenderStart d] := rfl

theorem State.freeze_keeps (opens : (s.basket d).state = .opened) : Keeps [.sbu, .orders] s (s.freeze d) := by
  rw [State.freeze_eq]
  refine Keeps.within (by decide) (Keeps.then (L := [.sbu]) ?_ (State.send_keeps _ _))
  exact s.setBasket_keeps d _ (fun law => (law d).frozenNow ((law d).line (by rw [opens]; simp))) fun _ _ _ _ => Iff.rfl

@[simp] theorem State.setBasket_setBasket (b c : Basket) : (s.setBasket d b).setBasket d c = s.setBasket d c := by
  simp [State.setBasket, vput]

/-- Where repricing voids no line, a basket with a line keeps one. -/
theorem State.repricedBasket_hasLine (line : (s.basket d).hasLine = true) (none : s.repriceVoids d = false) :
    (s.repricedBasket (s.basket d)).hasLine = true := by
  obtain ⟨l, hl, live⟩ := List.any_eq_true.1 line
  refine List.any_eq_true.2 ⟨_, List.mem_map.2 ⟨l, hl, rfl⟩, ?_⟩
  have kept : refusedOutcome (s.lineOutcome l) = false := by simpa using List.any_eq_false.1 none l hl
  rcases l.repriced_cases s.fau.generation (s.lineOutcome l) with ⟨refused, -⟩ | ⟨-, m, g, priced⟩
  · rw [refused] at kept; cases kept
  · rw [priced, BasketLine.priced_live]; exact live

theorem State.reprice_freeze_keeps (opens : (s.basket d).state = .opened) (none : s.repriceVoids d = false) :
    Keeps [.sbu, .hlc, .orders] s ((s.reprice d).freeze d) := by
  rw [State.freeze_eq, State.reprice]
  rw [State.setBasket_setBasket, State.setBasket_basket_same, State.releaseLines_eq]
  refine Keeps.within (by decide) (Keeps.then (L := [.sbu, .hlc]) ?_ (State.send_keeps _ _))
  refine s.putLines_setBasket_keeps d rfl _ _ (fun law => ?_) (s.repricedBasket_linesGo d).2
  refine (s.repricedBasket_lawful d (law d)).frozenNow ?_
  have line := s.repricedBasket_hasLine ((law d).line (by rw [opens]; simp)) none
  rw [Basket.settled, if_pos line]
  exact line

theorem State.tender_keeps (n : Nat) (opens : (s.basket d).state = .opened) :
    Keeps [.sbu, .hlc, .klc, .orders] s (s.tender d n) := by
  unfold State.tender
  split
  · exact (s.basketReply_keeps d _ _).within (by decide)
  refine .ite (fun _ => (State.freeze_keeps opens).within (by decide)) fun _ => .ite (fun _ => ?_) fun same => ?_
  · exact ((s.reprice_keeps d).then (State.basketReply_keeps _ d _ _)).within (by decide)
  · exact (State.reprice_freeze_keeps opens (by simpa using (not_or.1 same).1)).within (by decide)

/-! ### Orders on a basket in TENDER, and COMMIT (R46 to R51) -/

theorem State.tenderOrder_keeps {L : List Block} {n : Nat} {act : State → State}
    (ha : (s.basket d).state = .tender → Keeps L s (act s)) : Keeps L s (s.tenderOrder d n act) :=
  .whenever fun h => ha h.1

theorem State.attempt_keeps (tender : (s.basket d).state = .tender) : Keeps [.sbu] s (s.attempt d) :=
  State.setBasket_sameLines_keeps _ (by rw [tender]; simp) rfl rfl rfl rfl rfl

theorem State.unfreeze_keeps (cause : TenderOutcome) (tender : (s.basket d).state = .tender) :
    Keeps [.sbu, .hlc, .klc] s (s.unfreeze d cause) := by
  unfold State.unfreeze
  dsimp only
  refine Keeps.within (by decide) (Keeps.then (L := [.sbu]) ?_ (State.pushBasket_keeps _ d _))
  exact s.setBasket_keeps d _ (fun law => (law d).sameLines ((law d).line (by rw [tender]; simp)) rfl rfl (by simp) (by simp) (by simp))
    fun _ _ _ _ => Iff.rfl

theorem State.holdExpiry_keeps : Keeps [.sbu, .hlc, .klc] s (s.holdExpiry d) := .whenever fun _ => s.expireBasket_keeps d

theorem State.commit_keeps (c : CommitOrder) : Keeps [.sbu, .hlc, .klc, .orders] s (s.commit d c) := by
  have sold := s.putLines_setBasket_keeps d (new := .sold c.sale .kiosk) rfl (s.basket d).lines (s.basket d).cleared
    (fun _ => Basket.cleared_lawful _) (.all _)
  unfold State.commit
  dsimp only
  rw [State.sellBasket_eq]
  exact (((sold.then (State.send_keeps _ (s.commitOrders d (s.basket d) c))).then (State.pushBasket_keeps _ d _)).then
    (State.send_keeps _ _)).within (by decide)

theorem State.resetBasket_keeps : Keeps [.sbu, .hlc, .klc, .orders] s (s.resetBasket d) := by
  have dropped := (s.dropBasket_keeps d).then (State.pushBasket_keeps _ d .reset)
  unfold State.resetBasket
  split
  · exact (Keeps.refl s).within (by decide)
  · exact dropped.within (by decide)
  · exact (dropped.then (State.send_keeps _ _)).within (by decide)

end

end Sys2Proof.Machine
end

section
/-! What the resets, the taking of a request and the site clock keep (R180, R185, R186, R188, R190, R191). -/

namespace Sys2Proof.Machine

/-! ## Resets of the whole part (R188, R190) -/

section
variable {s t : State}

theorem State.basketLaw_of_reset (h : t.sbu = .reset) : t.basketLaw := fun d => by
  have e : t.basket d = Basket.reset := by simp [State.basket, h, Sbu.reset]
  rw [e]
  exact Basket.cleared_lawful Basket.reset

theorem State.noScreening_of_reset (h : t.sbu = .reset) (i : Fin 16) : t.screening i = none := by
  simp [State.screening, h, Sbu.reset]

theorem State.seatLaw_of_reset (h : t.sbu = .reset) : t.seatLaw := by
  have layout : ∀ i, t.layout i = Layout.reset := fun i => by simp [State.layout, h, Sbu.reset]
  refine ⟨fun i ready => ?_, fun i sc hi => ?_⟩
  · rw [layout] at ready; cases ready
  · rw [State.noScreening_of_reset h] at hi; cases hi

theorem State.holdLaw_of_reset (h : t.sbu = .reset) : t.holdLaw := by
  have none : ∀ i sc, t.screening i ≠ some sc := fun i sc => by rw [State.noScreening_of_reset h]; simp
  refine ⟨fun i _ x _ hx => absurd hx (none i x), fun i sc hi => absurd hi (none i sc), fun i sc _ _ _ hi => absurd hi (none i sc),
    fun d k n a l hl => ?_⟩
  simp [State.basket, h, Sbu.reset, Basket.reset] at hl

theorem State.sbuLaws_of_reset (h : t.sbu = .reset) : Block.lawsKept s t .sbu :=
  ⟨fun _ => State.basketLaw_of_reset h, fun _ => State.seatLaw_of_reset h, fun _ _ _ => State.holdLaw_of_reset h⟩

theorem State.readerLaw_of_reset (h : t.tdu = .reset) : t.readerLaw := fun d => by
  have e : t.reader d = ReaderSlot.reset := by simp [State.reader, h, Tdu.reset]
  rw [e]
  exact ReaderSlot.reset_lawful

theorem State.queueLaw_of_reset (h : t.pru = .reset) : t.queueLaw := fun d => by
  simp [State.queuePlaces, State.queue, h, Pru.reset, Pru.reservedFor]

theorem State.dropLaws_of_reset (h : t.klc = .reset) : t.dropLaw ∧ t.lineLaw := by
  have drop : ∀ d, t.dropRec d = DropRecord.reset := fun d => by simp [State.dropRec, h, Klc.reset]
  have line : ∀ l, t.line l = KioskLine.reset := fun l => by cases l <;> simp [State.line, h, Klc.reset]
  refine ⟨⟨fun d => ?_, fun l v hv => ?_⟩, ?_⟩
  · rw [drop]; simp [DropRecord.reset]
  · rw [line] at hv; cases hv
  · rw [State.lineLaw, h]; simp [Klc.reset, KioskLine.reset, KioskLine.lawful]

/-- The blocks of the part, all but the queue of commands, which stands outside it. -/
def partBlocks : List Block := [.sbu, .fau, .tdu, .jnu, .vcu, .pru, .klc, .hlc, .orders, .priceAnswer]

theorem keptBut_partBlocks (h : t.pending = s.pending) : keptBut partBlocks s t := by
  intro b hb
  cases b <;> first | exact h | exact absurd hb (by decide)

theorem State.powerOn_keeps (x : Straps) : Keeps partBlocks s (s.powerOn x) :=
  .of_frame (keptBut_partBlocks rfl) fun b _ => match b with
    | .sbu => State.sbuLaws_of_reset rfl
    | .tdu => fun _ => State.readerLaw_of_reset rfl
    | .jnu => fun _ => ⟨by simp [State.powerOn, Jnu.places, Jnu.reset], List.nodup_nil⟩
    | .vcu => fun _ => ⟨by simp [State.powerOn, Vcu.places, Vcu.reservedCount, Vcu.reset], List.nodup_nil⟩
    | .pru => fun _ => State.queueLaw_of_reset rfl
    | .klc => fun _ _ => State.dropLaws_of_reset rfl
    | .hlc => fun _ => ⟨by simp [State.powerOn, Hlc.reset], by simp [State.powerOn, Hlc.reset, Hlc.occupancy],
      by simp [State.powerOn, Hlc.reset], rfl⟩
    | .fau | .orders | .priceAnswer | .pending => trivial

theorem State.powerOn_transmitLaw (x : Straps) : (s.powerOn x).transmitLaw := fun _ => ⟨rfl, rfl⟩

theorem State.restart_dropRec (h : HostTag) (d : Drop) : (s.restart h).dropRec d = (s.dropRec d).restart := vget_map _ _ _

theorem State.restart_line (h : HostTag) (l : LineId) : (s.restart h).line l = (s.line l).restart := by cases l <;> rfl

theorem State.restart_keeps (h : HostTag) : Keeps partBlocks s (s.restart h) := by
  refine .of_frame (keptBut_partBlocks rfl) fun b _ => match b with
    | .sbu => State.sbuLaws_of_reset rfl
    | .tdu => fun _ => State.readerLaw_of_reset rfl
    | .jnu => fun _ => ⟨by simp [State.restart, Jnu.places, Jnu.restart], List.nodup_nil⟩
    | .vcu => fun _ => ⟨by simp [State.restart, Vcu.places, Vcu.reservedCount, Vcu.restart], List.nodup_nil⟩
    | .pru => fun _ => State.queueLaw_of_reset rfl
    | .klc => fun drops _ => ⟨⟨fun d => ?_, fun l v hv => ?_⟩, ?_⟩
    | .hlc => fun _ => ⟨by simp [State.restart, Hlc.restart], by simp [State.restart, Hlc.restart, Hlc.reset, Hlc.occupancy],
      by simp [State.restart, Hlc.restart, Hlc.reset], rfl⟩
    | .fau | .orders | .priceAnswer | .pending => trivial
  · rw [State.restart_dropRec]; simp [DropRecord.restart, DropRecord.reset]
  · rw [State.restart_line] at hv
    obtain ⟨w, hw, rfl⟩ := Option.map_eq_some_iff.1 hv
    exact ⟨(drops.2 l w hw).1, fun counts => by cases counts⟩
  · simp [State.lineLaw, State.restart, Klc.restart, KioskLine.restart, KioskLine.reset, KioskLine.lawful]

/-! ## Requests taken, the clock and DROP_RESET (R180, R185, R186, R191) -/

theorem State.takeRequest_keeps : Keeps partBlocks s s.takeRequest := by
  unfold State.takeRequest
  split
  · exact (Keeps.refl s).within (by decide)
  rename_i f rest oldest
  refine .whenever fun _ => Keeps.within (by decide) (Keeps.then (L := [.hlc]) (M := partBlocks) (s.takeFrame_keeps oldest) ?_)
  generalize s.takeFrame f rest = t
  unfold State.routeFrame
  refine .ite (fun _ => t.restart_keeps _) fun _ => ?_
  split
  · exact (t.send_keeps _).within (by decide)
  · exact .ite (fun _ => .ite (fun _ => (t.takeStatus_keeps f).within (by decide)) fun _ => (t.send_keeps _).within (by decide)) fun _ =>
      (t.replyHost_keeps _ _ _).within (by decide)

theorem State.setClockTime_keeps (now : SiteTime) : Keeps [.hlc] s (s.setHlc { s.hlc with clock := now }) := s.setHlc_keeps _ id

theorem State.stepClock_keeps (now : SiteTime) : Keeps [.sbu, .vcu, .klc, .hlc] s (s.stepClock now) :=
  (((s.setClockTime_keeps now).then (State.closeDue_keeps _ now)).then (State.sweep_keeps _ now)).within (by decide)

theorem State.setClock_keeps (h : HostTag) (now : SiteTime) : Keeps [.sbu, .vcu, .klc, .hlc] s (State.setClock h now s) := by
  have refused : ∀ c, Keeps [.sbu, .vcu, .klc, .hlc] s (s.replyHost h c .none) := fun c => (s.replyHost_keeps h c _).within (by decide)
  exact .ite (fun _ => .ite (fun _ => refused _) fun _ => ((s.stepClock_keeps now).then (State.replyHost_keeps _ _ _ _)).within (by decide))
    fun _ => refused _

theorem State.advanceClock_keeps : Keeps [.sbu, .vcu, .klc, .hlc] s s.advanceClock := by
  have told := (s.setClockTime_keeps (nextTime s.hlc.clock)).then (State.closeDue_keeps _ (nextTime s.hlc.clock))
  unfold State.advanceClock
  dsimp only
  refine .ite (fun _ => (Keeps.refl s).within (by decide)) fun _ => .ite (fun _ => ?_) fun _ => told.within (by decide)
  exact (told.then (State.sweep_keeps _ _)).within (by decide)

theorem State.second_keeps : Keeps [.sbu, .tdu, .vcu, .klc, .hlc, .orders] s s.second := by
  have holds := fun t => Keeps.foldl (f := State.countHold) (fun t d => t.countHold_keeps (d := d)) (List.finRange 16) t
  have sessions := fun t => Keeps.foldl (f := fun u d => (u.countCardWait d).countAuth d) (L := [.tdu, .orders])
    (fun t d => ((t.countCardWait_keeps d).then (State.countAuth_keeps _ d)).within (by decide)) (List.finRange 16) t
  unfold State.second
  generalize List.finRange 16 = ds at *
  exact (((s.advanceClock_keeps.then (holds _)).then (sessions _)).then (State.countStore_keeps _)).within (by decide)

theorem State.dropReset_keeps (h : HostTag) (n : Nat) :
    Keeps [.sbu, .tdu, .pru, .klc, .hlc, .orders] s (State.dropReset h n s) := by
  have refused : ∀ c, Keeps [.sbu, .tdu, .pru, .klc, .hlc, .orders] s (s.replyHost h c .none) := fun c =>
    (s.replyHost_keeps h c _).within (by decide)
  unfold State.dropReset
  split
  · refine .ite (fun _ => .ite (fun _ => refused _) fun _ => ?_) fun _ => refused _
    exact ((((((s.resetTender_keeps _).then (State.resetBasket_keeps (d := ⟨n, by assumption⟩))).then
      (State.resetPrinter_keeps _ _)).then (State.resetDrop_keeps _ _)).then (State.raise_keeps _ _)).then
      (State.replyHost_keeps _ _ _ _)).within (by decide)
  · exact refused _

end

end Sys2Proof.Machine
end

section
/-! The parts each command may change, and the laws that all of them keep. -/

namespace Sys2Proof.Machine

/-! ## What each command may change -/

/-- The parts that a command may change. -/
def touches : Instr → List Block
  | .powerOnReset _ | .pinReset _ | .hostRequestTake | .restart _ => partBlocks
  | .hostByteReceived _ | .hostFrameEnd => [.hlc]
  | .unknownRequestKind _ | .seatQuery _ _ | .fareQuote _ _ | .journalRead _ _ | .voucherQuery _ _ | .status _ _
  | .noticeLevels _ _ => [.orders, .hlc]
  | .layoutBegin _ _ | .layoutRow _ _ | .screeningLoad _ _ | .screeningOpen _ _ | .screeningUnload _ _ | .seatBlock _ _
  | .seatUnblock _ _ | .seatSell _ _ | .seatRefund _ _ => [.orders, .sbu, .hlc]
  | .screeningClose _ _ | .screeningWithdraw _ _ => [.orders, .sbu, .hlc, .klc]
  | .tariffLoad _ _ | .daypartLoad _ _ | .overlaySet _ _ | .catalogueLoad _ _ => [.orders, .fau, .hlc]
  | .authResult _ _ | .reservationRefusal _ _ _ _ | .cardWaitTimeout _ | .authTimeout _ | .cancel _ _ | .readerOffDelivered _
  | .dropOfflineTdu _ | .release _ _ => [.orders, .tdu, .klc, .hlc]
  | .journalTake _ _ | .counterBase _ _ | .saleRecord _ | .timeoutVoidOrder _ | .storeReadTryEnd _ | .storeWriteTryEnd _ =>
    [.orders, .jnu, .hlc]
  | .voucherVoid _ _ => [.orders, .vcu, .hlc]
  | .printRedirect _ _ | .printFlush _ _ | .printOrder _ _ | .failed _ _ | .printerStatus _ _ => [.orders, .pru, .klc, .hlc]
  | .dropConfig _ _ | .goodAnswer _ _ | .visitMiss _ => [.orders, .klc, .hlc]
  | .dropReset _ _ => [.orders, .sbu, .tdu, .pru, .klc, .hlc]
  | .setClock _ _ => [.orders, .sbu, .vcu, .klc, .hlc]
  | .setSite _ _ => [.orders, .fau, .pru, .vcu, .hlc]
  | .clockSecond => [.orders, .sbu, .tdu, .vcu, .klc, .hlc]
  | .select _ _ | .best _ _ | .snackAdd _ _ | .extend _ _ | .undo _ _ | .voidLine _ _ | .clear _ _ | .tender _ _ | .view _ _
  | .unfreeze _ _ _ | .expire _ _ | .holdExpiry _ | .commit _ _ | .dropOnlineSbu _ => [.orders, .sbu, .klc, .hlc]
  | .attempt _ _ => [.orders, .sbu]
  | .priceOrder _ => [.orders, .priceAnswer]
  | .tenderStart _ _ | .reservationGrant _ _ _ | .commitConfirmation _ _ | .contacts _ _ | .powerDone _ _ | .token _ _
  | .readFailed _ _ | .readerPartialTimeout _ | .readerSettleEnd _ | .readerPowerUpAckTimeout _ | .readerPowerUpDelayEnd _
  | .readerPowerDownAckTimeout _ | .readerPowerDownDelayEnd _ | .dropOnlineTdu _ | .dropKindChangeTdu _ _ => [.orders, .tdu, .klc]
  | .journalGrantRequest _ _ | .journalReturn _ | .storeRetry | .voucherCounterReport _ => [.orders, .jnu]
  | .voucherGrantRequest _ _ _ | .voucherReturn _ _ | .voucherCounterStart _ _ | .voucherMarkUpdate _ | .voucherBaseSet _
  | .issueOrder _ => [.orders, .vcu]
  | .redeem _ _ | .check _ _ => [.orders, .vcu, .klc]
  | .printGrantRequest _ _ _ | .printReturn _ _ => [.orders, .pru]
  | .printed _ _ | .dropOfflinePru _ | .dropOnlinePru _ | .dropKindChangePru _ _ => [.orders, .pru, .klc]
  | .visitStart _ | .roundIdleEnd _ => [.klc]

section
variable {L M : List Block} {s u : State} {r : Result}

theorem Answers.within (hs : decide (L ⊆ M) = true) (h : Answers L s r) : Answers M s r := by
  obtain ⟨t, e, keeps, transmit⟩ := h
  exact ⟨t, e, keeps.mono (of_decide_eq_true hs), transmit⟩

/-- A command with an order taken off the list, which ends with the transmitter's choice. -/
theorem Answers.doneAfter (m : .hlc ∈ L) (c : Instr) (h : Keeps L (s.accept c) u) :
    Answers (.orders :: L) s u.done := Keeps.done (L := .orders :: L) (List.mem_cons_of_mem _ m) ((s.accept_keeps c).then h)

/-- A command with an order taken off the list, which leaves the host link alone. -/
theorem Answers.nextAfter (m : .hlc ∉ L) (c : Instr) (h : Keeps L (s.accept c) u) :
    Answers (.orders :: L) s (.next u) := Keeps.next (L := .orders :: L) (by simpa using m) ((s.accept_keeps c).then h)

/-- A host request to the FAU (R69). -/
theorem Answers.servePricing {α : Type} (hm : .hlc ∈ M) (c : Instr) (h : HostTag) (body : Body α) {act : α → State → State}
    (ha : ∀ r t, Keeps M t (act r t)) :
    Answers (.orders :: M) s ((s.accept c).servePricing h body act) :=
  Answers.serveWith s hm (s.accept_keeps c) h readyOnly body _ fun r _ => ha r _

end

section
variable (s : State)

theorem State.setPriceAnswer_keeps (a : Option PriceAnswer) : Keeps [.priceAnswer] s { s with priceAnswer := a } :=
  .of_one (fun b hb => by cases b <;> first | rfl | exact absurd hb (by decide)) trivial

theorem execCancel_answers (d : Drop) (serial : Body Nat) : Answers (touches (.cancel d serial)) s (execCancel d serial s) := by
  have replied : ∀ t r, Keeps [.tdu, .klc, .hlc, .orders] t (t.replyDrop d r) := fun t r => (t.replyDrop_keeps d r).within (by decide)
  refine (Answers.doneAfter (L := [.tdu, .klc, .hlc, .orders]) (by decide) (.cancel d serial) ?_).within rfl
  split
  · exact replied _ _
  · exact .ite (fun _ => replied _ _) fun _ => .ite (fun _ => replied _ _) fun _ => State.cancel_keeps _ d _

theorem execReservationGrant_answers (d : Drop) (ref : Nat) (g : Grant) :
    Answers (touches (.reservationGrant d ref g)) s (execReservationGrant d ref g s) :=
  (Answers.nextAfter (L := [.tdu, .klc, .orders]) (by decide) (.reservationGrant d ref g)
    (.ite (fun _ => State.granted_keeps _ d g) fun _ => (State.send_keeps _ _).within (by decide))).within rfl

theorem execReservationRefusal_answers (d : Drop) (ref : Nat) (phase : Phase) (code : Code) :
    Answers (touches (.reservationRefusal d ref phase code)) s (execReservationRefusal d ref phase code s) :=
  (Answers.doneAfter (L := [.tdu, .klc, .hlc, .orders]) (by decide) (.reservationRefusal d ref phase code)
    (.whenever fun _ => ((State.basketReply_keeps _ d _ _).then (State.endSession_keeps _ d _ _ _)).within (by decide))).within rfl

theorem execDropKindChangeTdu_answers (d : Drop) (kind : DropKind) :
    Answers (touches (.dropKindChangeTdu d kind)) s (execDropKindChangeTdu d kind s) := by
  have reset := State.resetSlot_keeps (s.accept (.dropKindChangeTdu d kind)) d
  exact (Answers.nextAfter (L := [.tdu, .klc]) (by decide) (.dropKindChangeTdu d kind)
    (.ite (fun _ => (reset.then (State.setSession_keeps _ d _)).within (by decide)) fun _ => reset)).within rfl

theorem execDropOfflineTdu_answers (d : Drop) : Answers (touches (.dropOfflineTdu d)) s (execDropOfflineTdu d s) :=
  (Answers.doneAfter (L := [.tdu, .klc, .hlc, .orders]) (by decide) (.dropOfflineTdu d)
    (.whenever fun _ => ((State.loseSession_keeps _ d).then (State.loseSlot_keeps _ d)).within (by decide))).within rfl

/-- Every command answers a next state, in which only the parts it touches differ, every law that held still holds, and the link is not
idle while a frame is due. -/
theorem exec_answers (i : Instr) : Answers (touches i) s (exec i s) := by
  cases i with
  | powerOnReset x => exact ⟨_, rfl, s.powerOn_keeps x, fun _ => s.powerOn_transmitLaw x⟩
  | pinReset x => exact ⟨_, rfl, s.powerOn_keeps x, fun _ => s.powerOn_transmitLaw x⟩
  | restart h => exact (Keeps.done (by decide) (s.restart_keeps h)).within rfl
  | hostRequestTake => exact (Keeps.done (by decide) s.takeRequest_keeps).within rfl
  | hostByteReceived b => exact (Keeps.done (by decide) (s.receive_keeps b)).within rfl
  | hostFrameEnd => exact (Keeps.done (by decide) s.frameEnd_keeps).within rfl
  | unknownRequestKind h => exact .doneAfter (by decide) (.unknownRequestKind h) (State.replyHost_keeps _ h _ _)
  | layoutBegin h r => exact .serve s (by decide) _ h _ _ fun r t => t.layoutBegin_keeps h r
  | layoutRow h r => exact .serve s (by decide) _ h _ _ fun r t => t.layoutRow_keeps h r
  | screeningLoad h r => exact .serve s (by decide) _ h _ _ fun r t => t.screeningLoad_keeps h r
  | screeningOpen h r => exact .serve s (by decide) _ h _ _ fun r t => t.screeningOpen_keeps h r
  | screeningClose h r => exact .serve s (by decide) _ h _ _ fun r t => t.screeningClose_keeps h r
  | screeningWithdraw h r => exact .serve s (by decide) _ h _ _ fun r t => t.screeningWithdraw_keeps h r
  | screeningUnload h r => exact .serve s (by decide) _ h _ _ fun r t => t.screeningUnload_keeps h r
  | seatBlock h r => exact .serve s (by decide) _ h _ _ fun r t => t.seatBlock_keeps h r
  | seatUnblock h r => exact .serve s (by decide) _ h _ _ fun r t => t.seatUnblock_keeps h r
  | seatSell h r => exact .serve s (by decide) _ h _ _ fun r t => t.seatSell_keeps h r
  | seatRefund h r => exact .serve s (by decide) _ h _ _ fun r t => t.seatRefund_keeps h r
  | seatQuery h r => exact .serve s (by decide) _ h _ _ fun r t => t.seatQuery_keeps h r
  | tariffLoad h r => exact .servePricing (by decide) _ h r fun r t => t.tariffLoad_keeps h r
  | daypartLoad h r => exact .servePricing (by decide) _ h r fun r t => t.daypartLoad_keeps h r
  | overlaySet h r => exact .servePricing (by decide) _ h r fun r t => t.overlaySet_keeps h r
  | catalogueLoad h r => exact .servePricing (by decide) _ h r fun r t => t.catalogueLoad_keeps h r
  | fareQuote h r => exact .servePricing (by decide) _ h r fun r t => t.fareQuote_keeps h r
  | authResult h r => exact (Answers.serve s (by decide) _ h _ _ fun r t => t.authResult_keeps h r).within rfl
  | journalRead h r => exact .serve s (by decide) _ h _ _ fun r t => t.journalRead_keeps h r
  | journalTake h r => exact .serve s (by decide) _ h _ _ fun r t => t.journalTake_keeps h r
  | counterBase h r => exact (Answers.serve s (by decide) _ h _ _ fun r t => t.counterBase_keeps h r).within rfl
  | voucherVoid h r => exact .serve s (by decide) _ h _ _ fun r t => t.voucherVoid_keeps h r
  | voucherQuery h r => exact .serve s (by decide) _ h _ _ fun r t => t.voucherQuery_keeps h r
  | printRedirect h r => exact .serve s (by decide) _ h _ _ fun r t => t.printRedirect_keeps h r
  | printFlush h r => exact .serve s (by decide) _ h _ _ fun r t => t.printFlush_keeps h r
  | dropConfig h r => exact (Answers.serve s (by decide) _ h _ _ fun r t => t.dropConfig_keeps h r).within rfl
  | dropKindChangeTdu d k => exact execDropKindChangeTdu_answers s d k
  | dropKindChangePru d k => exact .nextAfter (by decide) (.dropKindChangePru d k) (State.resetPrinter_keeps _ d)
  | dropReset h r => exact (Answers.serve s (by decide) _ h _ _ fun r t => t.dropReset_keeps h r).within rfl
  | status h r => exact .serve s (by decide) (.status h r) h (fun _ => true) r fun r t => t.status_keeps h r
  | setClock h r => exact .serve s (by decide) _ h _ _ fun r t => t.setClock_keeps h r
  | setSite h r => exact .serve s (by decide) _ h _ _ fun r t => t.setSite_keeps h r
  | noticeLevels h r => exact .serve s (by decide) _ h _ _ fun r t => t.noticeLevels_keeps h r
  | clockSecond => exact (Keeps.done (by decide) s.second_keeps).within rfl
  | holdExpiry d => exact (Answers.doneAfter (by decide) (.holdExpiry d) State.holdExpiry_keeps).within rfl
  | cardWaitTimeout d => exact (Answers.doneAfter (by decide) (.cardWaitTimeout d) (State.cardWaitTimeout_keeps _ d)).within rfl
  | authTimeout d => exact (Answers.doneAfter (by decide) (.authTimeout d) (State.authTimeout_keeps _ d)).within rfl
  | select d r =>
    exact (Answers.basketRequest (by decide) _ (L := [.sbu, .klc]) fun r _ _ tender => State.select_keeps r (tender rfl)).within rfl
  | best d r =>
    exact (Answers.basketRequest (by decide) _ (L := [.sbu, .klc]) fun r _ _ tender => State.best_keeps r (tender rfl)).within rfl
  | snackAdd d r =>
    exact (Answers.basketRequest (by decide) _ (L := [.sbu, .klc]) fun r _ _ tender => State.snackAdd_keeps r (tender rfl)).within rfl
  | undo d n => exact (Answers.basketRequest (by decide) _ fun n _ _ _ => State.undo_keeps n).within rfl
  | voidLine d r => exact (Answers.basketRequest (by decide) _ fun r _ _ _ => State.voidLine_keeps r).within rfl
  | extend d n =>
    exact (Answers.basketRequest (by decide) _ (L := [.sbu, .klc]) fun n _ idle _ => State.extend_keeps n (idle rfl)).within rfl
  | view d n => exact (Answers.basketRequest (by decide) _ (L := [.klc]) fun n _ _ _ => State.view_keeps n).within rfl
  | clear d n => exact (Answers.basketRequest (by decide) _ fun n _ _ _ => State.clear_keeps n).within rfl
  | tender d n =>
    refine (Answers.basketRequest (by decide) _ (L := [.sbu, .hlc, .klc, .orders]) fun n t idle tender => State.tender_keeps n ?_).within rfl
    cases e : (t.basket d).state with
    | idle => exact absurd e (idle rfl)
    | opened => rfl
    | tender => exact absurd e (tender rfl)
  | priceOrder o => exact .nextAfter (by decide) (.priceOrder o) (State.setPriceAnswer_keeps _ _)
  | tenderStart d x => exact (Answers.nextAfter (by decide) (.tenderStart d x) (State.tenderStart_keeps _ d x)).within rfl
  | reservationGrant d ref g => exact execReservationGrant_answers s d ref g
  | reservationRefusal d ref p c => exact execReservationRefusal_answers s d ref p c
  | journalGrantRequest d ref => exact (Answers.nextAfter (by decide) (.journalGrantRequest d ref) (State.journalGrant_keeps _ d ref)).within rfl
  | voucherGrantRequest d ref n =>
    exact (Answers.nextAfter (by decide) (.voucherGrantRequest d ref n) (State.voucherGrant_keeps _ d ref n)).within rfl
  | printGrantRequest d ref n => exact (Answers.nextAfter (by decide) (.printGrantRequest d ref n) (State.printGrant_keeps _ d ref n)).within rfl
  | journalReturn n => exact .nextAfter (by decide) (.journalReturn n) (State.journalReturn_keeps _ n)
  | voucherReturn n k => exact .nextAfter (by decide) (.voucherReturn n k) (State.unreserve_keeps _ n)
  | printReturn d ref => exact .nextAfter (by decide) (.printReturn d ref) (State.fewerReservations_keeps _ List.eraseP_sublist)
  | attempt d n => exact .nextAfter (by decide) (.attempt d n) (State.tenderOrder_keeps State.attempt_keeps)
  | unfreeze d n o => exact (Answers.doneAfter (by decide) (.unfreeze d n o) (State.tenderOrder_keeps (State.unfreeze_keeps o))).within rfl
  | expire d n =>
    exact (Answers.doneAfter (by decide) (.expire d n) (State.tenderOrder_keeps (act := (State.expireBasket · d)) fun _ =>
      State.expireBasket_keeps _ d)).within rfl
  | commit d c => exact (Answers.doneAfter (by decide) (.commit d c) (State.tenderOrder_keeps fun _ => State.commit_keeps c)).within rfl
  | commitConfirmation d n => exact .nextAfter (by decide) (.commitConfirmation d n) (State.confirm_keeps _ d n)
  | release d n => exact (Answers.doneAfter (by decide) (.release d n) (State.release_keeps _ d n)).within rfl
  | cancel d n => exact execCancel_answers s d n
  | readerOffDelivered d => exact (Answers.doneAfter (by decide) (.readerOffDelivered d) (State.offDelivered_keeps _ d)).within rfl
  | contacts d c => exact .nextAfter (by decide) (.contacts d c) (State.readerReport_keeps _ d _ fun c => State.contacts_keeps _ d c)
  | powerDone d x => exact .nextAfter (by decide) (.powerDone d x) (State.readerReport_keeps _ d _ fun x => State.powerDone_keeps _ d x)
  | token d x => exact .nextAfter (by decide) (.token d x) (State.readerReport_keeps _ d _ fun x => State.token_keeps _ d x)
  | readFailed d x => exact .nextAfter (by decide) (.readFailed d x) (State.readerReport_keeps _ d _ fun x => State.readFailed_keeps _ d x)
  | readerPartialTimeout d => exact (Keeps.next (by decide) (s.partialTimeout_keeps d)).within rfl
  | readerSettleEnd d => exact (Keeps.next (by decide) (s.settleEnd_keeps d)).within rfl
  | readerPowerUpAckTimeout d => exact (Keeps.next (by decide) (s.powerUpAckTimeout_keeps d)).within rfl
  | readerPowerUpDelayEnd d => exact (Keeps.next (by decide) (s.powerUpDelayEnd_keeps d)).within rfl
  | readerPowerDownAckTimeout d => exact (Keeps.next (by decide) (s.powerDownAckTimeout_keeps d)).within rfl
  | readerPowerDownDelayEnd d => exact (Keeps.next (by decide) (s.powerDownDelayEnd_keeps d)).within rfl
  | saleRecord r => exact .doneAfter (by decide) (.saleRecord r) (State.takeRecord_keeps _ _)
  | timeoutVoidOrder v => exact .doneAfter (by decide) (.timeoutVoidOrder v) (State.takeRecord_keeps _ _)
  | storeReadTryEnd a => exact (Keeps.done (by decide) (s.storeReadTryEnd_keeps a)).within rfl
  | storeWriteTryEnd n => exact (Keeps.done (by decide) (s.storeWriteTryEnd_keeps n)).within rfl
  | storeRetry => exact .nextAfter (by decide) .storeRetry (State.setJnu_retry_keeps _)
  | voucherCounterReport n => exact .nextAfter (by decide) (.voucherCounterReport n) (State.setJnu_report_keeps _ n)
  | voucherCounterStart n m => exact .nextAfter (by decide) (.voucherCounterStart n m) (State.setVcu_keeps_table _ rfl rfl)
  | voucherMarkUpdate m => exact .nextAfter (by decide) (.voucherMarkUpdate m) (State.setVcu_keeps_table _ rfl rfl)
  | voucherBaseSet n => exact .nextAfter (by decide) (.voucherBaseSet n) (State.setVcu_keeps_table _ rfl rfl)
  | issueOrder o => exact .nextAfter (by decide) (.issueOrder o) (State.issue_keeps _ o)
  | redeem d c => exact .nextAfter (by decide) (.redeem d c) (State.counterRequest_keeps _ d c fun c => State.redeem_keeps _ d c)
  | check d c =>
    exact .nextAfter (by decide) (.check d c) (State.counterRequest_keeps _ d c fun c => (State.check_keeps _ d c).within (by decide))
  | printOrder d l => exact .doneAfter (by decide) (.printOrder d l) (State.printOrder_keeps _ d l)
  | printed d x => exact .nextAfter (by decide) (.printed d x) (State.printerReport_keeps _ d _ fun x => State.printed_keeps _ d x)
  | failed d x => exact .doneAfter (by decide) (.failed d x) (State.printerReport_keeps _ d _ fun x => State.failed_keeps _ d x)
  | printerStatus d x =>
    exact .doneAfter (by decide) (.printerStatus d x) (State.printerReport_keeps _ d _ fun x => State.printerStatus_keeps _ d x)
  | visitStart l => exact (Keeps.next (by decide) (s.visitStart_keeps l)).within rfl
  | roundIdleEnd l => exact (Keeps.next (by decide) (s.roundIdleEnd_keeps l)).within rfl
  | goodAnswer l a => exact (Keeps.done (by decide) (s.goodAnswer_keeps l a)).within rfl
  | visitMiss l => exact (Keeps.done (by decide) (s.visitMiss_keeps l)).within rfl
  | dropOnlineSbu d =>
    exact (Answers.doneAfter (by decide) (.dropOnlineSbu d) (.whenever fun _ => State.pushBasket_keeps _ d _)).within rfl
  | dropOnlineTdu d => exact .nextAfter (by decide) (.dropOnlineTdu d) (L := [.tdu, .klc]) (.whenever fun _ => (State.pushSlot_keeps _ d _).within (by decide))
  | dropOnlinePru d => exact .nextAfter (by decide) (.dropOnlinePru d) (.whenever fun _ => State.printerReady_keeps _ d)
  | dropOfflineTdu d => exact execDropOfflineTdu_answers s d
  | dropOfflinePru d => exact .nextAfter (by decide) (.dropOfflinePru d) (.whenever fun _ => State.losePrinter_keeps _ d)

end

end Sys2Proof.Machine
end

section
/-! The step, and the laws it keeps. -/

namespace Sys2Proof.Machine

/-! ## The step -/

theorem pending_not_touched (i : Instr) : .pending ∉ touches i := by
  cases i <;> exact of_decide_eq_true rfl

theorem Answers.next_iff {L : List Block} {s t : State} : Answers L s (.next t) ↔ Keeps L s t ∧ (s.transmitLaw → t.transmitLaw) := by
  constructor
  · rintro ⟨u, e, h⟩
    cases e
    exact h
  · exact fun h => ⟨t, rfl, h⟩

theorem exec_keeps {i : Instr} {s t : State} (h : exec i s = .next t) : Keeps (touches i) s t :=
  (Answers.next_iff.1 (h ▸ exec_answers s i)).1

theorem exec_transmitLaw {i : Instr} {s t : State} (h : exec i s = .next t) (law : s.transmitLaw) : t.transmitLaw :=
  (Answers.next_iff.1 (h ▸ exec_answers s i)).2 law

theorem State.popPending_keeps (s : State) (rest : List Instr) : Keeps [.pending] s { s with pending := rest } :=
  .of_one (fun b hb => by cases b <;> first | rfl | exact absurd hb (by decide)) trivial

/-- A step keeps the laws: the queue it takes a command from stands in none of them. -/
theorem step_keeps {s t : State} (h : step s = .next t) :
    (∃ L, Keeps L s t) ∧ (s.transmitLaw → t.transmitLaw) := by
  unfold step at h
  split at h
  · exact ⟨⟨_, (s.popPending_keeps _).then (exec_keeps h)⟩, fun law => exec_transmitLaw h law⟩
  · exact ⟨⟨_, exec_keeps h⟩, exec_transmitLaw h⟩
  · cases h
    exact ⟨⟨_, .refl s⟩, id⟩

/-- Settles O1: the three branches of the step. -/
theorem stepRunsTheFrontCommand : Obligations.StepRunsTheFrontCommand := by
  unfold Obligations.StepRunsTheFrontCommand
  refine ⟨fun c rest s pending => ?_, fun c rest s pending orders => ?_, fun s pending orders => ?_⟩
  · unfold step; rw [pending]
  · unfold step; rw [pending, orders]
  · unfold step; rw [pending, orders]

/-- Settles O2: no command touches the queue. -/
theorem everyCommandAnswersNextAndKeepsTheQueue : Obligations.EveryCommandAnswersNextAndKeepsTheQueue := by
  unfold Obligations.EveryCommandAnswersNextAndKeepsTheQueue
  intro i s
  obtain ⟨t, h, keeps, -⟩ := exec_answers s i
  exact ⟨t, h, keeps.frame .pending (pending_not_touched i)⟩

/-- Settles O3: the laws of blocks as the reset leaves them. -/
theorem lawsHoldAtReset : Obligations.LawsHoldAtReset := by
  unfold Obligations.LawsHoldAtReset
  obtain ⟨drops, lines⟩ := State.dropLaws_of_reset (t := State.reset) rfl
  refine ⟨⟨?_, List.nodup_nil⟩, ⟨?_, List.nodup_nil⟩, State.queueLaw_of_reset rfl, ⟨?_, ?_, ?_, rfl⟩, State.basketLaw_of_reset rfl,
    State.seatLaw_of_reset rfl, State.holdLaw_of_reset rfl, State.readerLaw_of_reset rfl, drops, lines,
    State.powerOn_transmitLaw (s := State.reset) Config.resetStraps⟩
  all_goals decide +kernel

/-- Settles O4. -/
theorem stepKeepsTableLaws : Obligations.StepKeepsTableLaws := by
  unfold Obligations.StepKeepsTableLaws
  refine ⟨fun s t law h => ?_, fun s t law h => ?_, fun s t law h => ?_⟩ <;> obtain ⟨⟨L, keeps⟩, -⟩ := step_keeps h
  · exact keeps.journal law
  · exact keeps.voucher law
  · exact keeps.queue law

/-- Settles O5. -/
theorem stepKeepsLinkLaws : Obligations.StepKeepsLinkLaws := by
  unfold Obligations.StepKeepsLinkLaws
  refine ⟨fun s t law h => ?_, fun s t law h => (step_keeps h).2 law⟩
  obtain ⟨⟨L, keeps⟩, -⟩ := step_keeps h
  exact keeps.link law

/-- Settles O6. -/
theorem stepKeepsBasketLaw : Obligations.StepKeepsBasketLaw := by
  unfold Obligations.StepKeepsBasketLaw
  intro s t law h
  obtain ⟨⟨L, keeps⟩, -⟩ := step_keeps h
  exact keeps.basket law

/-- Settles O7. -/
theorem stepKeepsSeatAndHoldLaws : Obligations.StepKeepsSeatAndHoldLaws := by
  unfold Obligations.StepKeepsSeatAndHoldLaws
  refine ⟨fun s t law h => ?_, fun s t basket seat hold h => ?_⟩ <;> obtain ⟨⟨L, keeps⟩, -⟩ := step_keeps h
  · exact keeps.seat law
  · exact keeps.hold basket seat hold

/-- Settles O8. -/
theorem stepKeepsReaderAndDropLaws : Obligations.StepKeepsReaderAndDropLaws := by
  unfold Obligations.StepKeepsReaderAndDropLaws
  refine ⟨fun s t law h => ?_, fun s t drops lines h => ?_⟩ <;> obtain ⟨⟨L, keeps⟩, -⟩ := step_keeps h
  · exact keeps.reader law
  · exact keeps.drops drops lines

end Sys2Proof.Machine
end

section
/-! Frames of one drop at the TDU, and slots that stay under card power (R83, R88 to R93). -/

namespace Sys2Proof.Machine

/-! ## Frames of one drop -/

section
variable {d : Drop} {s t u : State}

theorem slotsKeptBut.of_klc (h : t.klc = s.klc) : slotsKeptBut d s t := by
  refine ⟨fun e _ => ?_, ?_, ?_, ?_⟩ <;> simp [State.dropRec, h]

theorem slotsKeptBut.refl (d : Drop) (s : State) : slotsKeptBut d s s := .of_klc rfl

theorem slotsKeptBut.trans (h : slotsKeptBut d s t) (k : slotsKeptBut d t u) : slotsKeptBut d s u := by
  obtain ⟨others, own, a, b⟩ := h
  obtain ⟨others', own', a', b'⟩ := k
  refine ⟨fun e he => (others' e he).trans (others e he), ?_, a'.trans a, b'.trans b⟩
  rw [own', own]

theorem hlcKept.of_hlc (h : t.hlc = s.hlc) : hlcKept s t := by unfold hlcKept; rw [h]

theorem hlcKept.trans (h : hlcKept s t) (k : hlcKept t u) : hlcKept s u := by
  unfold hlcKept at *
  rw [k, h]

/-! ### The frame of a session and a reader slot (R83, R93) -/

theorem sessionFrame.refl (d : Drop) (s : State) : sessionFrame d s s :=
  ⟨fun _ _ => rfl, fun _ _ => rfl, .refl d s, .refl _ s⟩

theorem sessionFrame.trans (h : sessionFrame d s t) (k : sessionFrame d t u) : sessionFrame d s u := by
  obtain ⟨sessions, readers, slots, kept⟩ := h
  obtain ⟨sessions', readers', slots', kept'⟩ := k
  exact ⟨fun e he => (sessions' e he).trans (sessions e he), fun e he => (readers' e he).trans (readers e he), slots.trans slots',
    kept.trans kept'⟩

theorem sessionFrame.ite {c : Prop} [Decidable c] (h : c → sessionFrame d s t) (k : ¬c → sessionFrame d s u) :
    sessionFrame d s (if c then t else u) := by
  split
  · exact h ‹_›
  · exact k ‹_›

theorem sessionFrame.whenever {c : Prop} [Decidable c] (h : c → sessionFrame d s t) :
    sessionFrame d s (if c then t else s) := .ite h fun _ => .refl d s

end

section
variable (s : State) (d : Drop)

theorem State.setReader_frame (r : ReaderSlot) : sessionFrame d s (s.setReader d r) :=
  ⟨fun _ _ => rfl, fun _ he => s.setReader_reader_ne d r he, .of_klc rfl, s.setReader_kept d r (by decide)⟩

theorem State.setSession_frame (x : Session) : sessionFrame d s (s.setSession d x) :=
  ⟨fun _ he => s.setSession_session_ne d x he, fun _ _ => rfl, .of_klc rfl, s.setSession_kept d x (by decide)⟩

theorem State.place_frame (i : SlotId) (f : OutFrame) : sessionFrame d s (s.place d i f) :=
  ⟨fun _ _ => rfl, fun _ _ => rfl, s.place_slotsKeptBut d i f, s.place_kept d i f (by decide)⟩

theorem State.withdraw_frame (i : SlotId) : sessionFrame d s (s.withdraw d i) :=
  ⟨fun _ _ => rfl, fun _ _ => rfl, s.withdraw_slotsKeptBut d i, s.withdraw_kept d i (by decide)⟩

theorem State.send_frame (cs : List Instr) : sessionFrame d s (s.send cs) :=
  ⟨fun _ _ => rfl, fun _ _ => rfl, .of_klc rfl, s.send_kept cs (by decide)⟩

theorem State.accept_frame (c : Instr) : sessionFrame d s (s.accept c) :=
  ⟨fun _ _ => rfl, fun _ _ => rfl, .of_klc rfl, s.accept_kept c (by decide)⟩

theorem State.raise_frame (k : Condition) : sessionFrame d s (s.raise k) :=
  ⟨fun _ _ => rfl, fun _ _ => rfl, .of_klc rfl, s.raise_kept k (by decide)⟩

theorem State.unraise_frame (k : Condition) : sessionFrame d s (s.unraise k) :=
  ⟨fun _ _ => rfl, fun _ _ => rfl, .of_klc rfl, s.unraise_kept k (by decide)⟩

theorem State.pushSlotAfter_frame (b : ReaderState) (o : Option SlotReason) : sessionFrame d s (s.pushSlotAfter d b o) := by
  cases o with
  | none => exact .ite (fun _ => .refl d s) fun _ => s.place_frame d _ _
  | some r => exact s.place_frame d _ _

theorem State.powerOff_frame : sessionFrame d s (s.powerOff d) := (s.setReader_frame d _).trans (State.place_frame _ d _ _)

theorem State.powerTest_frame : sessionFrame d s (s.powerTest d) :=
  .whenever fun _ => (s.setReader_frame d _).trans (State.place_frame _ d _ _)

theorem State.powerOffPush_frame : sessionFrame d s (s.powerOffPush d) :=
  (s.powerOff_frame d).trans (State.pushSlotAfter_frame _ d _ _)

theorem State.leaveCardWait_frame : sessionFrame d s (s.leaveCardWait d) := .whenever fun _ => s.powerOffPush_frame d

theorem State.settleEnd_frame : sessionFrame d s (State.settleEnd d s) :=
  .whenever fun _ => ((s.setReader_frame d _).trans (State.powerTest_frame _ d)).trans (State.pushSlotAfter_frame _ d _ _)

theorem State.powerDownDelayEnd_frame : sessionFrame d s (State.powerDownDelayEnd d s) :=
  .whenever fun _ => ((s.setReader_frame d _).trans (State.powerTest_frame _ d)).trans (State.pushSlotAfter_frame _ d _ _)

theorem State.loseSlot_frame : sessionFrame d s (s.loseSlot d) :=
  ((s.setReader_frame d _).trans (State.withdraw_frame _ d _)).trans (State.pushSlotAfter_frame _ d _ _)

theorem State.resetSlot_frame : sessionFrame d s (s.resetSlot d) := by
  unfold State.resetSlot
  dsimp only
  refine sessionFrame.trans (.ite (fun _ => (s.setReader_frame d _).trans (State.place_frame _ d _ _)) fun _ =>
    s.setReader_frame d _) (State.pushSlotAfter_frame _ d _ _)

theorem State.idleSession_frame (o : TenderOutcome) : sessionFrame d s (s.idleSession d o) :=
  (s.setSession_frame d _).trans (State.place_frame _ d _ _)

theorem State.endSession_frame (o : TenderOutcome) (returns order : List Instr) :
    sessionFrame d s (s.endSession d o returns order) :=
  ((((s.send_frame d _).trans (State.unraise_frame _ d _)).trans (State.leaveCardWait_frame _ d)).trans
    (State.send_frame _ d _)).trans (State.idleSession_frame _ d o)

theorem State.cancelSession_frame : sessionFrame d s (s.cancelSession d) := s.endSession_frame d _ _ _

theorem State.loseSession_frame : sessionFrame d s (s.loseSession d) := by
  unfold State.loseSession
  split
  · exact (s.place_frame d _ _).trans (State.cancelSession_frame _ d)
  · exact s.cancelSession_frame d
  · exact s.cancelSession_frame d
  all_goals exact .refl d s

theorem State.resetTender_frame : sessionFrame d s (s.resetTender d) :=
  sessionFrame.trans (.ite (fun _ => .refl d s) fun _ => (s.send_frame d _).trans (State.idleSession_frame _ d _))
    (State.resetSlot_frame _ d)

end

/-! ## Cards under power (R88 to R90) -/

/-- A card under power is still under power, or powering down. -/
def powerKept (s t : State) : Prop := ∀ d : Drop, (s.reader d).state.powered = true → (t.reader d).state.powered = true

section
variable {s t u : State} {d : Drop}

theorem powerKept.of_same (h : ∀ d, t.reader d = s.reader d) : powerKept s t := fun d => by rw [h]; exact id

theorem powerKept.trans (h : powerKept s t) (k : powerKept t u) : powerKept s u := fun d => k d ∘ h d

theorem powerKept.ite {c : Prop} [Decidable c] (h : c → powerKept s t) (k : ¬c → powerKept s u) : powerKept s (if c then t else u) := by
  split
  · exact h ‹_›
  · exact k ‹_›

theorem powerKept.whenever {c : Prop} [Decidable c] (h : c → powerKept s t) : powerKept s (if c then t else s) :=
  .ite h fun _ => .of_same fun _ => rfl

theorem Keeps.powerKept {L : List Block} (m : .tdu ∉ L) (h : Keeps L s t) : powerKept s t :=
  .of_same fun d => by
    have e : t.tdu = s.tdu := h.frame .tdu m
    simp [State.reader, e]

end

section
variable (s : State) (d : Drop)

theorem State.setReader_powerKept (r : ReaderSlot) (h : (s.reader d).state.powered = true → r.state.powered = true) :
    powerKept s (s.setReader d r) := fun e => by
  rw [State.setReader_reader]
  split
  · rename_i same; subst same; exact h
  · exact id

theorem State.powerOff_powerKept : powerKept s (s.powerOff d) :=
  (s.setReader_powerKept d _ fun _ => rfl).trans ((State.place_keeps _ d _ _).powerKept (by decide))

theorem State.powerTest_powerKept : powerKept s (s.powerTest d) :=
  .whenever fun _ => (s.setReader_powerKept d _ fun _ => rfl).trans ((State.place_keeps _ d _ _).powerKept (by decide))

theorem State.cardRemoved_powerKept : powerKept s (s.cardRemoved d) :=
  ((s.setReader_powerKept d { s.reader d with dataLost := true } id).trans (State.powerOff_powerKept _ d)).trans
    ((State.pushSlot_keeps _ d _).powerKept (by decide))

theorem State.powerOffPush_powerKept : powerKept s (s.powerOffPush d) :=
  (s.powerOff_powerKept d).trans ((State.pushSlotAfter_keeps _ d _ _).powerKept (by decide))

theorem State.leaveCardWait_powerKept : powerKept s (s.leaveCardWait d) := .whenever fun _ => s.powerOffPush_powerKept d

theorem State.idleSession_powerKept (o : TenderOutcome) : powerKept s (s.idleSession d o) := .of_same fun _ => rfl

theorem State.endSession_powerKept (o : TenderOutcome) (returns order : List Instr) :
    powerKept s (s.endSession d o returns order) :=
  ((((s.send_keeps _).then (State.unraise_keeps _ _)).powerKept (by decide)).trans (State.leaveCardWait_powerKept _ d)).trans
    (((State.send_keeps _ _).powerKept (by decide)).trans (State.idleSession_powerKept _ d o))

theorem State.endVoid_powerKept (o : TenderOutcome) (order : List Instr) : powerKept s (s.endVoid d o order) :=
  powerKept.trans (t := s.keepTimedOut d) (.of_same fun _ => rfl) (State.endSession_powerKept _ d _ _ _)

/-- The contacts never end card power but by the off command (R88 to R90). -/
theorem ReaderSlot.contactsMove_powered {r : ReaderSlot} (c : Contacts) (h : r.state.powered = true) :
    (r.contactsMove c).state = r.state := by
  unfold contactsMove
  cases e : r.state <;> simp_all [ReaderState.powered]

theorem State.contacts_powerKept (c : Contacts) : powerKept s (State.contacts d c s) := by
  have moved := s.setReader_powerKept d ((s.reader d).contactsMove c) fun h => by rw [ReaderSlot.contactsMove_powered c h, h]
  have pushed := moved.trans ((State.pushSlotAfter_keeps (s.setReader d ((s.reader d).contactsMove c)) d
    (s.reader d).state none).powerKept (by decide))
  unfold State.contacts
  dsimp only
  split
  case h_1 => exact .ite (fun _ => moved) fun _ => .ite (fun _ => moved.trans (State.cardRemoved_powerKept _ d)) fun _ =>
    moved.trans (State.setReader_powerKept _ d _ id)
  case h_2 => exact .ite (fun _ => moved) fun _ => moved.trans (State.cardRemoved_powerKept _ d)
  case h_3 => exact moved
  all_goals exact pushed

theorem State.powerDoneOn_powerKept : powerKept s (s.powerDoneOn d) := by
  have acknowledged := s.setReader_powerKept d { s.reader d with outstanding := .none } id
  unfold State.powerDoneOn
  exact .ite (fun _ => acknowledged.trans (State.powerOffPush_powerKept _ d)) fun _ => s.setReader_powerKept d _ id

theorem State.powerDone_powerKept (on : Bool) : powerKept s (State.powerDone d on s) := by
  have acknowledged := s.setReader_powerKept d
    { s.reader d with outstanding := .none, timer := some { purpose := .delay, ms := 40 } } id
  unfold State.powerDone
  split
  · exact s.powerDoneOn_powerKept d
  · exact acknowledged
  · exact powerKept.of_same fun _ => rfl

theorem State.takeToken_powerKept (x : Token) : powerKept s (s.takeToken d x) := .of_same fun _ => rfl

theorem State.token_powerKept (x : Token) : powerKept s (State.token d x s) := by
  unfold State.token
  refine .whenever fun _ => ?_
  split
  · exact (s.takeToken_powerKept d x).trans (State.powerOffPush_powerKept _ d)
  · exact s.powerOffPush_powerKept d

theorem State.powerUpAckTimeout_powerKept : powerKept s (State.powerUpAckTimeout d s) :=
  .whenever fun _ => (s.setReader_powerKept d { s.reader d with outstanding := .none } id).trans
    (State.powerOffPush_powerKept _ d)

theorem State.powerUpDelayEnd_powerKept : powerKept s (State.powerUpDelayEnd d s) :=
  .whenever fun _ => .ite (fun _ => (s.setReader_powerKept d _ fun _ => rfl).trans
    ((State.pushSlot_keeps _ d _).powerKept (by decide))) fun _ => s.powerOffPush_powerKept d

theorem State.readFailed_powerKept (x : Unit) : powerKept s (State.readFailed d x s) :=
  .whenever fun _ => (s.powerOff_powerKept d).trans ((State.pushSlot_keeps _ d _).powerKept (by decide))

end

end Sys2Proof.Machine
end

section
/-! A card under power leaves it by POWERING_DOWN alone (R90). -/

namespace Sys2Proof.Machine

/-! ## A card under power leaves it by POWERING_DOWN alone (R90) -/

/-- A slot powering up or READY. -/
def ReaderSlot.live (r : ReaderSlot) : Prop := r.state = .poweringUp ∨ r.state = .ready

theorem ReaderSlot.live.powered {r : ReaderSlot} (h : r.live) : r.state.powered = true := by
  obtain h | h := h <;> rw [h] <;> rfl

theorem ReaderState.powered_cases {x : ReaderState} (h : x.powered = true) :
    x = .poweringUp ∨ x = .ready ∨ x = .poweringDown := by
  cases x <;> simp_all [ReaderState.powered]

/-- What a command answers: a next state, in which a drop's slot that was live is under card power. -/
def PowerStays (d : Drop) (s : State) (r : Result) : Prop :=
  ∃ t, r = .next t ∧ ((s.reader d).live → (t.reader d).state.powered = true)

section
variable {d e : Drop} {s t u : State} {r : Result}

theorem Keeps.reader_same {L : List Block} (h : Keeps L s t) (m : .tdu ∉ L) : t.reader d = s.reader d := by
  have e : t.tdu = s.tdu := h.frame .tdu m
  rw [State.reader, e]; rfl

theorem powerKept.next (h : powerKept s t) : PowerStays d s (.next t) := ⟨t, rfl, fun live => h d live.powered⟩

theorem powerKept.done (h : powerKept s t) : PowerStays d s t.done :=
  (h.trans ((Keeps.transmit t).powerKept (by decide))).next

/-- The orders on their way are no matter of card power. -/
theorem powerKept.after (c : Instr) (h : powerKept (s.accept c) t) : powerKept s t := h

theorem PowerStays.of_answers {L : List Block} (m : .tdu ∉ L) (h : Answers L s r) : PowerStays d s r := by
  obtain ⟨t, rfl, k, -⟩ := h
  exact (k.powerKept m).next

theorem PowerStays.of_same (h : t.reader d = s.reader d) : PowerStays d s (.next t) :=
  ⟨t, rfl, fun live => h ▸ live.powered⟩

theorem PowerStays.done_of_same (h : t.reader d = s.reader d) : PowerStays d s t.done :=
  .of_same (((Keeps.transmit t).reader_same (by decide)).trans h)

/-- A host request keeps card power when its owner's act does, since a refusal only replies. -/
theorem PowerStays.serve {α : Type} (c : Instr) (h : HostTag) (allowed : PartState → Bool) (body : Body α)
    {act : α → State → State} (ha : ∀ x, body = some x → PowerStays d s (act x (s.accept c)).done) :
    PowerStays d s ((s.accept c).serve h allowed body act) := by
  have refusal : ∀ code, PowerStays d s ((s.accept c).replyHost h code .none).done := fun _ => .done_of_same rfl
  unfold State.serve State.serveWith
  split
  · cases body with
    | none => exact refusal .badValue
    | some x => exact ha x rfl
  · exact refusal _

end

section
variable (s : State) (d : Drop)

theorem State.readerReport_powerKept {α : Type} (body : Body α) {act : α → State → State}
    (ha : ∀ x, powerKept s (act x s)) : powerKept s (s.readerReport d body act) := by
  unfold State.readerReport
  split
  · exact .whenever fun _ => ha _
  · exact .of_same fun _ => rfl

/-! ### The commands of the TDU (R84 to R111) -/

theorem State.tenderStart_powerKept (t : TenderStart) : powerKept s (s.tenderStart d t) := .whenever fun _ => .of_same fun _ => rfl

theorem State.enterCardWait_powerKept : powerKept s (s.enterCardWait d) := by
  unfold State.enterCardWait
  dsimp only
  refine ((powerKept.trans ?_ ((State.basketReply_keeps _ d _ _).then (State.pushTender_keeps _ d)
    |>.powerKept (by decide))).trans (State.powerTest_powerKept _ d)).trans
      ((State.pushSlotAfter_keeps _ d _ _).powerKept (by decide))
  exact State.setReader_powerKept _ d { s.reader d with spent := false } id

theorem State.granted_powerKept (g : Grant) : powerKept s (s.granted d g) := by
  cases g with
  | journal n => exact .ite (fun _ => .of_same fun _ => rfl) fun _ => .of_same fun _ => rfl
  | voucher f c => exact .of_same fun _ => rfl
  | print c =>
    have recorded : powerKept s (s.setSession d ((s.session d).record (.print c))) := .of_same fun _ => rfl
    exact recorded.trans (.ite (fun _ => .of_same fun _ => rfl) fun _ => State.enterCardWait_powerKept _ d)

theorem State.cancel_powerKept (serial : Nat) : powerKept s (s.cancel d serial) := by
  have replied : ∀ c, powerKept s (s.cancelReply d c .none) := fun c => (s.cancelReply_keeps d c _).powerKept (by decide)
  have cancelled := (replied .ok).trans (State.endSession_powerKept _ d .cancelled ((s.cancelReply d .ok .none).allReturns d)
    ((s.cancelReply d .ok .none).unfreezeOrder d .cancelled))
  unfold State.cancel
  refine .ite (fun _ => replied _) fun _ => .ite (fun _ => replied _) fun _ => ?_
  split
  · exact cancelled
  · exact cancelled
  all_goals exact replied _

theorem State.authResult_powerKept (h : HostTag) (r : AuthResultReq) : powerKept s (State.authResult h r s) := by
  have replied : ∀ t c, powerKept t (t.replyHost h c .none) := fun t c => (t.replyHost_keeps h c _).powerKept (by decide)
  have declined : ∀ d o, powerKept s (s.decline d o) := fun d o => s.endSession_powerKept d o _ _
  have approved : ∀ d, powerKept s (s.approve d r.approval) := fun d => .of_same fun _ => rfl
  unfold State.authResult
  refine .ite (fun _ => ?_) fun _ => replied _ _
  split
  · exact .ite (fun _ => (declined _ _).trans (replied _ _)) fun _ =>
      .ite (fun _ => (approved _).trans (replied _ _)) fun _ => (declined _ _).trans (replied _ _)
  · exact .ite (fun _ => replied _ _) fun _ => replied _ _

theorem State.release_powerKept (serial : Nat) : powerKept s (s.release d serial) := by
  have ended := s.endSession_powerKept d .cancelled (s.allReturns d) []
  have voided := s.endVoid_powerKept d .cancelled []
  unfold State.release
  refine .whenever fun _ => ?_
  split
  · exact voided
  · exact voided
  · exact ended
  · exact ended
  · exact ended
  · exact .of_same fun _ => rfl

theorem State.offDelivered_powerKept : powerKept s (s.offDelivered d) := .whenever fun _ => .of_same fun _ => rfl

theorem State.partialTimeout_powerKept : powerKept s (State.partialTimeout d s) :=
  .whenever fun _ => (s.setReader_powerKept d { s.reader d with timer := none } id).trans
    ((State.pushSlot_keeps _ d _).powerKept (by decide))

theorem State.countdowns_powerKept : powerKept s ((s.countCardWait d).countAuth d) := by
  have wait : ∀ t : State, powerKept t (t.countCardWait d) := fun t => by
    unfold State.countCardWait
    split
    · exact .ite (fun _ => .of_same fun _ => rfl) fun _ => .of_same fun _ => rfl
    · exact .of_same fun _ => rfl
  have auth : ∀ t : State, powerKept t (t.countAuth d) := fun t => by
    unfold State.countAuth
    split
    · exact .ite (fun _ => .of_same fun _ => rfl) fun _ => .of_same fun _ => rfl
    · exact .of_same fun _ => rfl
  exact (wait s).trans (auth _)

theorem powerKept.foldl {f : State → Drop → State} (hf : ∀ t e, powerKept t (f t e)) (ds : List Drop) :
    ∀ t, powerKept t (ds.foldl f t) := by
  induction ds with
  | nil => exact fun t => .of_same fun _ => rfl
  | cons e ds ih => exact fun t => (hf t e).trans (ih _)

theorem State.second_powerKept : powerKept s s.second := by
  have holds := fun t => Keeps.foldl (f := State.countHold) (fun t d => t.countHold_keeps (d := d)) (List.finRange 16) t
  have sessions := fun t => powerKept.foldl (fun t e => t.countdowns_powerKept e) (List.finRange 16) t
  unfold State.second
  generalize List.finRange 16 = ds at *
  exact (((s.advanceClock_keeps.then (holds _)).powerKept (by decide)).trans (sessions _)).trans
    ((State.countStore_keeps _).powerKept (by decide))

end

section
variable {s : State} {d e : Drop}

/-- A timer of the power-down acts on a slot that powers down, so on no live one (R90). -/
theorem State.powerDown_other (live : (s.reader d).live) (down : (s.reader e).state = .poweringDown) : d ≠ e := by
  rintro rfl
  obtain h | h := live <;> simp [h] at down

theorem State.settleEnd_stays : PowerStays d s (.next (State.settleEnd e s)) := by
  refine ⟨_, rfl, fun live => ?_⟩
  by_cases same : d = e
  · subst same
    have idle : ¬((s.reader d).state = .settling ∧ (s.reader d).timing .settle = true) := fun h => by
      obtain l | l := live <;> simp [l] at h
    rw [State.settleEnd, if_neg idle]
    exact live.powered
  · rw [(State.settleEnd_frame s e).2.1 d same]
    exact live.powered

theorem State.powerDownAckTimeout_stays : PowerStays d s (.next (State.powerDownAckTimeout e s)) := by
  refine ⟨_, rfl, fun live => ?_⟩
  unfold State.powerDownAckTimeout
  split
  · rename_i h
    simpa [State.pushSlot, State.setReader_reader_ne s e _ (State.powerDown_other live h.1)] using live.powered
  · exact live.powered

theorem State.powerDownDelayEnd_stays : PowerStays d s (.next (State.powerDownDelayEnd e s)) := by
  refine ⟨_, rfl, fun live => ?_⟩
  by_cases down : (s.reader e).state = .poweringDown
  · rw [(State.powerDownDelayEnd_frame s e).2.1 d (State.powerDown_other live down)]
    exact live.powered
  · rw [State.powerDownDelayEnd, if_neg fun h => down h.1]
    exact live.powered

theorem State.dropReset_stays (h : HostTag) (n : Nat) (ne : n ≠ d.val) (c : Instr) :
    PowerStays d s (State.dropReset h n (s.accept c)).done := by
  unfold State.dropReset
  split
  · rename_i hn
    have other : d ≠ ⟨n, hn⟩ := fun e => ne (congrArg Fin.val e).symm
    split
    · split
      · exact .done_of_same rfl
      · refine .done_of_same ?_
        have rest := (((State.resetBasket_keeps (s := (s.accept c).resetTender ⟨n, hn⟩) (d := ⟨n, hn⟩)).then
          (State.resetPrinter_keeps _ ⟨n, hn⟩)).then (State.resetDrop_keeps _ ⟨n, hn⟩)).then (State.raise_keeps _ .dropState)
        exact (rest.reader_same (by decide)).trans ((State.resetTender_frame (s.accept c) ⟨n, hn⟩).2.1 d other)
    · exact .done_of_same rfl
  · exact .done_of_same rfl

end

/-- The commands that may leave a drop's slot without card power: the loss of the drop, its resets and its change of kind (R92). -/
def State.mayCutPower (s : State) (d : Drop) (i : Instr) : Prop :=
  i = .dropOfflineTdu d ∨ (∃ k, i = .dropKindChangeTdu d k) ∨ (∃ h, i = .dropReset h (some d.val)) ∨ s.restartsBy i ∨
    (∃ x, i = .powerOnReset x) ∨ ∃ x, i = .pinReset x

/-- A request taken that is no RESTART reaches no block but the HLC (R180). -/
theorem State.takeRequest_other {s : State} (h : ¬ s.restartsBy .hostRequestTake) : keptBut [.hlc, .orders] s s.takeRequest := by
  unfold State.takeRequest
  split
  · exact .refl _ s
  · rename_i f rest oldest
    refine .ite (fun free => ?_) fun _ => .refl _ s
    have taken : keptBut [.hlc, .orders] s (s.takeFrame f rest) := s.setHlc_kept _ (by decide)
    refine taken.trans ?_
    unfold State.routeFrame
    refine .ite (fun hit => ?_) fun _ => ?_
    · exact absurd (.inr ⟨rfl, free.1, free.2, f, rest, oldest, hit.1, List.isEmpty_iff.1 hit.2⟩) h
    · split
      · exact State.send_kept _ _ (by decide)
      · refine .ite (fun _ => .ite (fun _ => ?_) fun _ => State.send_kept _ _ (by decide)) fun _ =>
          State.replyHost_kept _ _ _ _ (by decide)
        exact (State.takeStatus_keeps _ f).frame.mono (by decide)

/-- No other command does (R90). -/
theorem exec_powerStays (i : Instr) (s : State) (d : Drop) (spared : ¬ s.mayCutPower d i) : PowerStays d s (exec i s) := by
  by_cases tdu : .tdu ∈ touches i
  case neg => exact .of_answers tdu (exec_answers s i)
  cases i with
  | powerOnReset x => exact absurd (.inr (.inr (.inr (.inr (.inl ⟨x, rfl⟩))))) spared
  | pinReset x => exact absurd (.inr (.inr (.inr (.inr (.inr ⟨x, rfl⟩))))) spared
  | restart h => exact absurd (.inr (.inr (.inr (.inl (.inl ⟨h, rfl⟩))))) spared
  | hostRequestTake =>
    have kept := State.takeRequest_other fun h => spared (.inr (.inr (.inr (.inl h))))
    have e : s.takeRequest.tdu = s.tdu := kept .tdu (by decide)
    exact .done_of_same (by rw [State.reader, e]; rfl)
  | authResult h r => exact .serve _ h _ _ fun r _ => (powerKept.after _ (State.authResult_powerKept _ h r)).done
  | reservationRefusal e ref p c =>
    refine powerKept.done (.after (.reservationRefusal e ref p c) (.whenever fun _ => ?_))
    exact powerKept.trans ((State.basketReply_keeps _ e _ _).powerKept (by decide)) (State.endSession_powerKept _ e _ _ _)
  | cardWaitTimeout e =>
    exact powerKept.done (.after (.cardWaitTimeout e) (.whenever fun _ =>
      State.endSession_powerKept _ e _ _ _))
  | authTimeout e =>
    exact powerKept.done (.after (.authTimeout e) (.whenever fun _ =>
      State.endVoid_powerKept _ e _ _))
  | cancel e n =>
    have accepted : powerKept s (s.accept (.cancel e n)) := .of_same fun _ => rfl
    have replied : ∀ x, powerKept s ((s.accept (.cancel e n)).replyDrop e x) := fun x => .of_same fun _ => rfl
    cases n with
    | none => exact (replied _).done
    | some n =>
      exact powerKept.done (.ite (fun _ => replied _) fun _ => .ite (fun _ => replied _) fun _ =>
        accepted.trans (State.cancel_powerKept _ e n))
  | readerOffDelivered e =>
    exact powerKept.done (.after (.readerOffDelivered e) (State.offDelivered_powerKept _ e))
  | dropOfflineTdu e =>
    have other : d ≠ e := fun h => spared (.inl (by rw [h]))
    have lost := ((State.loseSession_frame (s.accept (.dropOfflineTdu e)) e).trans (State.loseSlot_frame _ e)).2.1 d other
    refine .done_of_same ?_
    split
    · exact lost
    · rfl
  | release e n =>
    exact powerKept.done (.after (.release e n) (State.release_powerKept _ e n))
  | dropReset h n =>
    refine .serve _ h _ n fun n hn => State.dropReset_stays h n (fun e => ?_) _
    exact spared (.inr (.inr (.inl ⟨h, by rw [hn, e]⟩)))
  | clockSecond => exact s.second_powerKept.done
  | tenderStart e x =>
    exact powerKept.next (.after (.tenderStart e x) (State.tenderStart_powerKept _ e x))
  | reservationGrant e ref g =>
    exact powerKept.next (.after (.reservationGrant e ref g) (.ite (fun _ =>
      State.granted_powerKept _ e g) fun _ => .of_same fun _ => rfl))
  | commitConfirmation e n =>
    exact powerKept.next (.after (.commitConfirmation e n) (.whenever fun _ =>
      .of_same fun _ => rfl))
  | contacts e c =>
    exact powerKept.next (.after (.contacts e c) (State.readerReport_powerKept _ e _ fun c =>
      State.contacts_powerKept _ e c))
  | powerDone e x =>
    exact powerKept.next (.after (.powerDone e x) (State.readerReport_powerKept _ e _ fun x =>
      State.powerDone_powerKept _ e x))
  | token e x =>
    exact powerKept.next (.after (.token e x) (State.readerReport_powerKept _ e _ fun x =>
      State.token_powerKept _ e x))
  | readFailed e x =>
    exact powerKept.next (.after (.readFailed e x) (State.readerReport_powerKept _ e _ fun x =>
      State.readFailed_powerKept _ e x))
  | readerPartialTimeout e => exact (s.partialTimeout_powerKept e).next
  | readerSettleEnd e => exact State.settleEnd_stays
  | readerPowerUpAckTimeout e => exact (s.powerUpAckTimeout_powerKept e).next
  | readerPowerUpDelayEnd e => exact (s.powerUpDelayEnd_powerKept e).next
  | readerPowerDownAckTimeout e => exact State.powerDownAckTimeout_stays
  | readerPowerDownDelayEnd e => exact State.powerDownDelayEnd_stays
  | dropOnlineTdu e => exact powerKept.next (.ite (fun _ => .of_same fun _ => rfl) fun _ => .of_same fun _ => rfl)
  | dropKindChangeTdu e k =>
    have other : d ≠ e := fun h => spared (.inr (.inl ⟨k, by rw [h]⟩))
    have reset := (State.resetSlot_frame (s.accept (.dropKindChangeTdu e k)) e).2.1 d other
    refine .of_same ?_
    split
    · exact reset
    · exact reset
  | _ => exact absurd tdu (of_decide_eq_true rfl)

/-- Settles O9. -/
theorem readerEmptiesOnlyThroughPowerDown : Obligations.ReaderEmptiesOnlyThroughPowerDown := by
  unfold Obligations.ReaderEmptiesOnlyThroughPowerDown
  intro i s t d h live offline kind reset restart powerOn pin
  obtain ⟨u, e, stays⟩ := exec_powerStays i s d (by
    rintro (h | ⟨k, h⟩ | ⟨x, h⟩ | h | ⟨x, h⟩ | ⟨x, h⟩)
    · exact offline h
    · exact kind k h
    · exact reset x h
    · exact restart h
    · exact powerOn x h
    · exact pin x h)
  obtain rfl : t = u := by rw [h] at e; cases e; rfl
  exact ReaderState.powered_cases (stays live)

end Sys2Proof.Machine
end

section
/-! What of the HLC stays: of most commands only conditions are touched (R182). -/

namespace Sys2Proof.Machine

section
variable {s t u : State}

/-- Of the HLC only conditions are touched, and none is cleared (R182). -/
structure Calm (s t : State) : Prop where
  kept : hlcKept s t
  raised : ∀ c, s.hlc.conditions.raised c = true → t.hlc.conditions.raised c = true

theorem Calm.of_hlc (h : t.hlc = s.hlc) : Calm s t := ⟨.of_hlc h, fun c => by rw [h]; exact id⟩

theorem Calm.refl (s : State) : Calm s s := .of_hlc rfl

theorem Calm.trans (h : Calm s t) (k : Calm t u) : Calm s u := ⟨h.kept.trans k.kept, fun c => k.raised c ∘ h.raised c⟩

theorem Keeps.calm {L : List Block} (h : Keeps L s t) (m : .hlc ∉ L) : Calm s t := .of_hlc (h.frame .hlc m)

theorem Calm.ite {c : Prop} [Decidable c] (h : c → Calm s t) (k : ¬c → Calm s u) : Calm s (if c then t else u) := by
  split
  · exact h ‹_›
  · exact k ‹_›

theorem Calm.whenever {c : Prop} [Decidable c] (h : c → Calm s t) : Calm s (if c then t else s) := .ite h fun _ => .refl s

theorem Calm.foldl {α : Type} {f : State → α → State} (hf : ∀ s x, Calm s (f s x)) (l : List α) : ∀ s, Calm s (l.foldl f s) := by
  induction l with
  | nil => exact .refl
  | cons x l ih => exact fun s => (hf s x).trans (ih _)

theorem Conditions.put_raised {x : Conditions} {k c : Condition} (h : x.raised c = true) : (x.put k true).raised c = true := by
  cases k <;> cases c <;> simp_all [Conditions.put, Conditions.raised, vget_vput]

theorem State.raise_calm (s : State) (k : Condition) : Calm s (s.raise k) := ⟨rfl, fun _ => Conditions.put_raised⟩

theorem Calm.clock (h : Calm s t) : t.hlc.clock = s.hlc.clock := by rw [h.kept]

theorem State.transmit_frames (s : State) : s.transmit.hlc.frames = s.hlc.frames := by
  unfold State.transmit
  split
  · rfl
  split
  · rfl
  split
  · rfl
  · rfl

theorem State.transmit_clock (s : State) : s.transmit.hlc.clock = s.hlc.clock := by
  unfold State.transmit
  split
  · rfl
  split
  · rfl
  split
  · rfl
  · rfl

end

section
variable (s : State)

theorem State.setScreening_calm (i : Fin 16) (o : Option Screening) : Calm s (s.setScreening i o) := .of_hlc rfl

theorem State.setBasket_calm (d : Drop) (b : Basket) : Calm s (s.setBasket d b) := .of_hlc rfl

theorem State.place_calm (d : Drop) (i : SlotId) (f : OutFrame) : Calm s (s.place d i f) := .of_hlc rfl

theorem State.closeTest_calm (i : Fin 16) : Calm s (s.closeTest i) := by
  unfold State.closeTest
  split
  · exact .whenever fun _ => (s.setScreening_calm _ _).trans (State.raise_calm _ _)
  · exact .refl s

theorem State.putSeat_calm (n : Nat) (a : SeatAddr) (x : SeatState) : Calm s (s.putSeat n a x) := by
  unfold State.putSeat
  split
  · exact (s.setScreening_calm _ _).trans (State.closeTest_calm _ _)
  · exact .refl s

theorem State.releaseLines_calm (ls : List BasketLine) : Calm s (s.releaseLines ls) := by
  refine Calm.foldl (fun t l => ?_) ls s
  cases l
  · exact t.putSeat_calm _ _ _
  all_goals exact .refl t

theorem State.sellBasket_calm (b : Basket) (n : Nat) : Calm s (s.sellBasket b n) := by
  refine Calm.foldl (fun t l => ?_) _ s
  cases l
  · exact t.putSeat_calm _ _ _
  all_goals exact .refl t

theorem State.reprice_calm (d : Drop) : Calm s (s.reprice d) := (s.releaseLines_calm _).trans (State.setBasket_calm _ d _)

theorem State.pushBasket_calm (d : Drop) (r : PushReason) : Calm s (s.pushBasket d r) :=
  Calm.trans (.whenever fun _ => s.reprice_calm d) (State.place_calm _ d _ _)

theorem State.closeForBasket_calm (n : Nat) (d : Drop) : Calm s (State.closeForBasket n s d) := by
  unfold State.closeForBasket
  exact .whenever fun _ => ((s.releaseLines_calm _).trans (State.setBasket_calm _ d _)).trans (State.pushBasket_calm _ d _)

theorem State.enterClosing_calm (i : Fin 16) (sc : Screening) : Calm s (s.enterClosing i sc) := by
  have begun : Calm s ((s.setScreening i (some { sc with state := .closing })).raise .screening) :=
    (s.setScreening_calm _ _).trans (State.raise_calm _ _)
  have baskets := fun t => Calm.foldl (f := State.closeForBasket sc.number)
    (fun t d => t.closeForBasket_calm sc.number d) (List.finRange 16) t
  unfold State.enterClosing
  generalize List.finRange 16 = ds at *
  exact (begun.trans (baskets _)).trans (State.closeTest_calm _ i)

theorem State.closeDue_calm (now : SiteTime) : Calm s (s.closeDue now) := by
  refine Calm.foldl (fun t i => ?_) _ s
  unfold State.closeIfDue
  split
  · exact .whenever fun _ => t.enterClosing_calm _ _
  · exact .refl t

theorem State.countHold_calm (d : Drop) : Calm s (s.countHold d) := by
  unfold State.countHold
  dsimp only
  refine .whenever fun _ => .ite (fun _ => ?_) fun _ => .ite (fun _ => .of_hlc rfl) fun _ => .of_hlc rfl
  exact (s.setBasket_calm d _).trans (State.pushBasket_calm _ d _)

/-- After its clock has moved, a second touches only conditions of the HLC (R185). -/
theorem State.second_calm : Calm s.advanceClock s.second := by
  have holds := fun t => Calm.foldl (fun t d => t.countHold_calm d) (List.finRange 16) t
  have sessions := fun t => Keeps.foldl (f := fun u d => (u.countCardWait d).countAuth d) (L := [.tdu, .orders])
    (fun t d => ((t.countCardWait_keeps d).then (State.countAuth_keeps _ d)).within (by decide)) (List.finRange 16) t
  unfold State.second
  generalize List.finRange 16 = ds at *
  exact ((holds _).trans ((sessions _).calm (by decide))).trans ((State.countStore_keeps _).calm (by decide))

theorem State.second_vcu : s.second.vcu = s.advanceClock.vcu := by
  have holds := fun t => Keeps.foldl (f := State.countHold) (fun t d => t.countHold_keeps (d := d)) (List.finRange 16) t
  have sessions := fun t => Keeps.foldl (f := fun u d => (u.countCardWait d).countAuth d) (L := [.tdu, .orders])
    (fun t d => ((t.countCardWait_keeps d).then (State.countAuth_keeps _ d)).within (by decide)) (List.finRange 16) t
  unfold State.second
  generalize List.finRange 16 = ds at *
  exact (((holds s.advanceClock).then (sessions _)).then (State.countStore_keeps _)).frame .vcu (by decide)

end

end Sys2Proof.Machine
end

section
/-! Vouchers that stay in the table as they are (R131, R141, R146). -/

namespace Sys2Proof.Machine

/-! ## The table from one command to the next -/

/-- No entry leaves the table, and one that is not ISSUED stays as it is (R141). -/
structure Vcu.Grows (v w : Vcu) : Prop where
  stays : (v.used.map (·.serial)).Nodup → ∀ e ∈ v.used, e.state ≠ .issued → ∀ f ∈ w.used, f.serial = e.serial → f = e
  serials : ∀ e ∈ v.used, ∃ f ∈ w.used, f.serial = e.serial

section
variable {v w x : Vcu}

/-- No two entries share a serial (R131). -/
theorem serial_inj {l : List VoucherEntry} (law : (l.map VoucherEntry.serial).Nodup) {e f : VoucherEntry}
    (he : e ∈ l) (hf : f ∈ l) (h : f.serial = e.serial) : f = e := List.inj_on_of_nodup_map law hf he h

theorem Vcu.Grows.of_used (h : w.used = v.used) : v.Grows w where
  stays law _ he _ _ hf same := serial_inj law he (h ▸ hf) same
  serials e he := ⟨e, h ▸ he, rfl⟩

/-- An ISSUED entry that is redeemed or voided touches no other (R141, R144). -/
theorem Vcu.setState_grows {e : VoucherEntry} (he : e ∈ v.used) (issued : e.state = .issued) (st : VoucherState) :
    v.Grows (v.setState e.serial st) where
  stays law g hg served f hf same := by
    obtain ⟨x, hx, rfl⟩ := List.mem_map.1 hf
    have serial : x.serial = g.serial := by rw [← same]; split <;> rfl
    obtain rfl := serial_inj law hg hx serial
    refine if_neg fun hit => served ?_
    rw [serial_inj law he hx (by simpa using hit)]
    exact issued
  serials g hg := ⟨_, List.mem_map_of_mem hg, by split <;> rfl⟩

theorem Vcu.Grows.trans_used (h : v.Grows w) (k : x.used = w.used) : v.Grows x where
  stays := k ▸ h.stays
  serials := k ▸ h.serials

/-- The entries an issue order leaves: those there were, and new ones with serials that were not in use (R136). -/
theorem Vcu.issueLine_used (o : IssueOrder) (v : Vcu) (l : IssueLine) :
    v.issueLine o l = v ∨ (v.find l.serial).isSome = false ∧
      v.issueLine o l = { v with used := v.used ++ [issuedEntry o l] } := by
  unfold Vcu.issueLine
  split
  · exact .inl rfl
  · rename_i free
    rw [not_or] at free
    exact .inr ⟨by simpa using free.1, rfl⟩

theorem Vcu.issueLine_grows (o : IssueOrder) (v : Vcu) (l : IssueLine) : v.Grows (v.issueLine o l) := by
  obtain h | ⟨free, h⟩ := v.issueLine_used o l <;> rw [h]
  · exact .of_used rfl
  · refine ⟨fun law e he _ f hf same => ?_, fun e he => ⟨e, List.mem_append_left _ he, rfl⟩⟩
    obtain hf | hf := List.mem_append.1 hf
    · exact serial_inj law he hf same
    · obtain rfl := List.mem_singleton.1 hf
      have used : (v.find l.serial).isSome = true := Vcu.find_isSome.2 ⟨e, he, same.symm⟩
      rw [free] at used; cases used

/-- A table that grows in two steps, no serial being given twice. -/
theorem Vcu.Grows.trans (h : v.Grows w) (k : w.Grows x)
    (distinct : (v.used.map (·.serial)).Nodup → (w.used.map (·.serial)).Nodup) : v.Grows x where
  stays law e he served f hf same := by
    obtain ⟨g, hg, hs⟩ := h.serials e he
    obtain rfl := h.stays law e he served g hg hs
    exact k.stays (distinct law) g hg served f hf same
  serials e he := by
    obtain ⟨g, hg, hs⟩ := h.serials e he
    obtain ⟨f, hf, hs'⟩ := k.serials g hg
    exact ⟨f, hf, hs'.trans hs⟩

theorem Vcu.issueLine_distinct (o : IssueOrder) (v : Vcu) (l : IssueLine) (law : (v.used.map (·.serial)).Nodup) :
    ((v.issueLine o l).used.map (·.serial)).Nodup := by
  obtain h | ⟨free, h⟩ := v.issueLine_used o l <;> rw [h]
  · exact law
  · have fresh : ∀ e ∈ v.used, e.serial ≠ l.serial := fun e he same => by
      rw [Vcu.find_isSome.2 ⟨e, he, same⟩] at free; cases free
    rw [List.map_append, List.nodup_append]
    exact ⟨law, by simp, by simpa [issuedEntry] using fresh⟩

theorem Vcu.issueLines_grows (o : IssueOrder) (ls : List IssueLine) (v : Vcu) : v.Grows (ls.foldl (Vcu.issueLine o) v) := by
  induction ls generalizing v with
  | nil => exact .of_used rfl
  | cons l ls ih => exact (v.issueLine_grows o l).trans (ih _) (v.issueLine_distinct o l)

theorem Vcu.issue_grows (o : IssueOrder) (v : Vcu) : v.Grows (v.issue o) :=
  Vcu.Grows.trans (w := v.unreserve (firstSerial o)) (.of_used rfl) (Vcu.issueLines_grows o _ _) id

/-- The sweep takes entries past their retention, and changes no other (R146). -/
theorem Vcu.sweep_stays (v : Vcu) (now : SiteTime) (law : (v.used.map (·.serial)).Nodup) {e f : VoucherEntry} (he : e ∈ v.used)
    (hf : f ∈ (v.sweep now).used) (same : f.serial = e.serial) : f = e :=
  serial_inj law he (List.mem_of_mem_filter hf) same

theorem Vcu.swept_late {v : Vcu} {now : SiteTime} {e : VoucherEntry} (he : e ∈ v.used) (gone : e ∉ (v.sweep now).used) :
    v.retention * 60 < siteSeconds now - siteSeconds e.validUntil := by
  by_contra soon
  exact gone (List.mem_filter.2 ⟨he, by simpa [keptAtSweep] using soon⟩)

end

/-! ## The commands that touch the table -/

/-- What a command answers: a next state, in which the table has grown. -/
def TableGrows (s : State) (r : Result) : Prop := ∃ t, r = .next t ∧ s.vcu.Grows t.vcu

section
variable {s t : State} {r : Result}

theorem State.transmit_vcu (s : State) : s.transmit.vcu = s.vcu := (Keeps.transmit s).frame .vcu (by decide)

theorem TableGrows.next (h : s.vcu.Grows t.vcu) : TableGrows s (.next t) := ⟨t, rfl, h⟩

theorem TableGrows.done (h : s.vcu.Grows t.vcu) : TableGrows s t.done := ⟨_, rfl, h.trans_used (by rw [t.transmit_vcu])⟩

theorem TableGrows.of_answers {L : List Block} (m : .vcu ∉ L) (h : Answers L s r) : TableGrows s r := by
  obtain ⟨t, rfl, k, -⟩ := h
  have same : t.vcu = s.vcu := k.frame .vcu m
  exact .next (.of_used (by rw [same]))

theorem TableGrows.serve {α : Type} (c : Instr) (h : HostTag) (allowed : PartState → Bool) (body : Body α)
    {act : α → State → State} (ha : ∀ x, s.vcu.Grows (act x (s.accept c)).vcu) :
    TableGrows s ((s.accept c).serve h allowed body act) := by
  have refusal : ∀ code, TableGrows s ((s.accept c).replyHost h code .none).done := fun _ => .done (.of_used rfl)
  unfold State.serve State.serveWith
  split
  · cases body with
    | none => exact refusal .badValue
    | some x => exact .done (ha x)
  · exact refusal _

theorem Vcu.find_mem {v : Vcu} {n : Nat} {e : VoucherEntry} (h : v.find n = some e) : e ∈ v.used ∧ e.serial = n :=
  ⟨List.mem_of_find?_eq_some h, by simpa using List.find?_some h⟩

theorem State.voucherVoid_grows (h : HostTag) (n : Nat) (s : State) : s.vcu.Grows (State.voucherVoid h n s).vcu := by
  have replied : ∀ c x, s.vcu.Grows (s.replyHost h c x).vcu := fun _ _ => .of_used rfl
  unfold State.voucherVoid
  split
  · split
    · exact replied _ _
    · rename_i e found
      obtain ⟨he, rfl⟩ := Vcu.find_mem found
      split
      · exact Vcu.setState_grows he (by assumption) _
      · exact replied _ _
      · exact replied _ _
  · exact replied _ _

/-- A servable entry is ISSUED (R140). -/
theorem Vcu.judge_servable {v : Vcu} {now : SiteTime} {t : Text} {e : VoucherEntry} (h : v.judge now t = .servable e) :
    e ∈ v.used ∧ e.state = .issued := by
  unfold Vcu.judge at h
  split at h
  · split at h
    · cases h
    · rename_i x found
      have hx := (Vcu.find_mem found).1
      unfold judgeEntry at h
      split at h
      · cases h
      · cases h
      · rename_i issued
        split at h
        · cases h
        · cases h; exact ⟨hx, issued⟩
  · cases h

theorem State.redeem_grows (d : Drop) (c : Text) (s : State) : s.vcu.Grows (State.redeem d c s).vcu := by
  unfold State.redeem
  split
  · exact .of_used rfl
  · rename_i e servable
    obtain ⟨he, issued⟩ := Vcu.judge_servable servable
    exact Vcu.setState_grows he issued _

theorem State.setSite_grows (h : HostTag) (r : SiteReq) (s : State) : s.vcu.Grows (State.setSite h r s).vcu := by
  unfold State.setSite
  split <;> exact .of_used rfl

theorem State.voucherGrant_grows (d : Drop) (ref n : Nat) (s : State) : s.vcu.Grows (s.voucherGrant d ref n).vcu := by
  unfold State.voucherGrant
  split
  · exact .of_used rfl
  · split
    · exact .of_used rfl
    · split
      · exact .of_used rfl
      · split <;> exact .of_used rfl

/-- Every command but the resets and those of the sweep leaves a table that has grown. -/
theorem exec_tableGrows (i : Instr) (s : State) (reset : (∀ x, i ≠ .powerOnReset x) ∧ (∀ x, i ≠ .pinReset x) ∧ ¬ s.restartsBy i)
    (sweep : i ≠ .clockSecond ∧ ∀ h n, i ≠ .setClock h n) : TableGrows s (exec i s) := by
  obtain ⟨powerOn, pin, restart⟩ := reset
  obtain ⟨second, set⟩ := sweep
  by_cases vcu : .vcu ∈ touches i
  case neg => exact .of_answers vcu (exec_answers s i)
  cases i with
  | powerOnReset x => exact absurd rfl (powerOn x)
  | pinReset x => exact absurd rfl (pin x)
  | restart h => exact absurd (.inl ⟨h, rfl⟩) restart
  | clockSecond => exact absurd rfl second
  | setClock h n => exact absurd rfl (set h n)
  | hostRequestTake =>
    have same : s.takeRequest.vcu = s.vcu := (State.takeRequest_other restart) .vcu (by decide)
    exact .done (.of_used (by rw [same]))
  | voucherVoid h n => exact .serve _ h _ n fun m => State.voucherVoid_grows h m (s.accept (.voucherVoid h n))
  | setSite h r => exact .serve _ h _ r fun q => State.setSite_grows h q (s.accept (.setSite h r))
  | voucherGrantRequest d ref n => exact .next (State.voucherGrant_grows d ref n (s.accept (.voucherGrantRequest d ref n)))
  | voucherReturn n k => exact .next (.of_used rfl)
  | voucherCounterStart n m => exact .next (.of_used rfl)
  | voucherMarkUpdate m => exact .next (.of_used rfl)
  | voucherBaseSet n => exact .next (.of_used rfl)
  | issueOrder o => exact .next (Vcu.issue_grows o _)
  | redeem d c =>
    refine .next ?_
    unfold State.counterRequest
    split
    · exact .of_used rfl
    · split
      · exact .of_used rfl
      · split
        · exact .of_used rfl
        · exact State.redeem_grows d _ (s.accept (.redeem d (some _)))
  | check d c =>
    refine .next (.of_used ?_)
    unfold State.counterRequest State.check
    split
    · rfl
    · split
      · rfl
      · split
        · rfl
        · split <;> rfl
  | _ => exact absurd vcu (of_decide_eq_true rfl)

end

/-! ## The sweep at a second and at a SET_CLOCK (R146, R185, R186) -/

theorem siteSeconds_siteTimeOf (n : Nat) : siteSeconds (siteTimeOf n) = n := by
  simp only [siteSeconds, siteTimeOf]; omega

/-- The clock stays at its last time, or moves by one second (R185). -/
theorem nextTime_seconds {now : SiteTime} (h : nextTime now ≠ now) : siteSeconds (nextTime now) = siteSeconds now + 1 := by
  unfold nextTime at h ⊢
  split
  · rename_i last; exact absurd (if_pos last) h
  · exact siteSeconds_siteTimeOf _

section
variable (s : State)

theorem State.advanceClock_clock : s.advanceClock.hlc.clock = nextTime s.hlc.clock := by
  unfold State.advanceClock
  dsimp only
  generalize nextTime s.hlc.clock = now
  have told := ((s.setHlc { s.hlc with clock := now }).closeDue_calm now).clock
  generalize State.closeDue _ _ = t at told ⊢
  split
  · rename_i last; exact last.symm
  · split
    · exact told
    · exact told

/-- The table is as it was, or was swept at a second that begins a minute (R146). -/
theorem State.advanceClock_vcu : s.advanceClock.vcu = s.vcu ∨
    nextTime s.hlc.clock ≠ s.hlc.clock ∧ (nextTime s.hlc.clock).second % 60 = 0 ∧
      s.advanceClock.vcu = s.vcu.sweep (nextTime s.hlc.clock) := by
  have told : ((s.setHlc { s.hlc with clock := nextTime s.hlc.clock }).closeDue (nextTime s.hlc.clock)).vcu = s.vcu :=
    ((s.setClockTime_keeps _).then (State.closeDue_keeps _ _)).frame .vcu (by decide)
  unfold State.advanceClock
  dsimp only
  generalize State.closeDue _ _ = t at told ⊢
  split
  · exact .inl rfl
  · split
    · exact .inr ⟨by assumption, by assumption, congrArg (Vcu.sweep · _) told⟩
    · exact .inl told

theorem State.stepClock_vcu (now : SiteTime) : (s.stepClock now).vcu = s.vcu.sweep now := by
  have told : ((s.setHlc { s.hlc with clock := now }).closeDue now).vcu = s.vcu :=
    ((s.setClockTime_keeps _).then (State.closeDue_keeps _ _)).frame .vcu (by decide)
  unfold State.stepClock
  generalize State.closeDue _ _ = t at told ⊢
  exact congrArg (Vcu.sweep · now) told

theorem State.stepClock_clock (now : SiteTime) : (s.stepClock now).hlc.clock = now := by
  have told := ((s.setHlc { s.hlc with clock := now }).closeDue_calm now).clock
  unfold State.stepClock
  generalize State.closeDue _ _ = t at told ⊢
  exact told

/-- A SET_CLOCK leaves the table, or sets the clock and sweeps at the new time (R186). -/
theorem State.setClock_vcu (h : HostTag) (now : SiteTime) : (State.setClock h now s).vcu = s.vcu ∨
    (State.setClock h now s).vcu = s.vcu.sweep now ∧ (State.setClock h now s).hlc.clock = now := by
  have vcu := s.stepClock_vcu now
  have clock := s.stepClock_clock now
  unfold State.setClock
  generalize s.stepClock now = t at vcu clock ⊢
  split
  · split
    · exact .inl rfl
    · exact .inr ⟨vcu, clock⟩
  · exact .inl rfl

/-- What a SET_CLOCK as a command leaves of the table. -/
theorem exec_setClock_vcu {h : HostTag} {n : Body SiteTime} {t : State} (e : exec (.setClock h n) s = .next t) :
    t.vcu = s.vcu ∨ t.vcu = s.vcu.sweep t.hlc.clock ∧ n = some t.hlc.clock := by
  have refusal : ∀ c, ((s.accept (.setClock h n)).replyHost h c .none).done = .next t → t.vcu = s.vcu := fun c e => by
    cases e; exact State.transmit_vcu _
  change (s.accept (.setClock h n)).serveWith h readyOrNeed n .none (State.setClock h) = .next t at e
  unfold State.serveWith at e
  split at e
  · cases n with
    | none => exact .inl (refusal _ e)
    | some now =>
      cases e
      rw [State.transmit_vcu, State.transmit_clock]
      obtain same | ⟨swept, clock⟩ := State.setClock_vcu (s.accept (.setClock h (some now))) h now
      · exact .inl same
      · exact .inr ⟨by rw [swept, clock]; rfl, by rw [clock]⟩
  · exact .inl (refusal _ e)

end

/-- How a command leaves the table: emptied by a reset, swept, or grown. -/
theorem exec_table {i : Instr} {s t : State} (e : exec i s = .next t) :
    ((∃ x, i = .powerOnReset x) ∨ (∃ x, i = .pinReset x) ∨ s.restartsBy i) ∧ t.vcu.used = [] ∨
    (i = .clockSecond ∧ siteSeconds t.hlc.clock = siteSeconds s.hlc.clock + 1 ∧ t.hlc.clock.second % 60 = 0 ∨
      ∃ h, i = .setClock h (some t.hlc.clock)) ∧ t.vcu = s.vcu.sweep t.hlc.clock ∨
    s.vcu.Grows t.vcu := by
  by_cases powerOn : ∃ x, i = .powerOnReset x
  · obtain ⟨x, rfl⟩ := powerOn
    cases e
    exact .inl ⟨.inl ⟨x, rfl⟩, rfl⟩
  by_cases pin : ∃ x, i = .pinReset x
  · obtain ⟨x, rfl⟩ := pin
    cases e
    exact .inl ⟨.inr (.inl ⟨x, rfl⟩), rfl⟩
  by_cases restart : s.restartsBy i
  · refine .inl ⟨.inr (.inr restart), ?_⟩
    obtain ⟨h, rfl⟩ | ⟨rfl, free, room, f, rest, oldest, kind, body⟩ := restart
    · cases e
      rw [State.transmit_vcu]; rfl
    · cases e
      rw [State.transmit_vcu, s.takeRequest_restart f rest oldest free room kind body]; rfl
  by_cases second : i = .clockSecond
  · subst second
    obtain rfl : s.second.transmit = t := Host.Outcome.next.inj e
    have clock : s.second.transmit.hlc.clock = nextTime s.hlc.clock := by
      rw [State.transmit_clock, s.second_calm.clock, s.advanceClock_clock]
    rw [clock, State.transmit_vcu, s.second_vcu]
    obtain same | ⟨moved, minute, swept⟩ := s.advanceClock_vcu
    · exact .inr (.inr (.of_used (by rw [same])))
    · exact .inr (.inl ⟨.inl ⟨rfl, nextTime_seconds moved, minute⟩, swept⟩)
  by_cases set : ∃ h n, i = .setClock h n
  · obtain ⟨h, n, rfl⟩ := set
    obtain same | ⟨swept, rfl⟩ := exec_setClock_vcu s e
    · exact .inr (.inr (.of_used (by rw [same])))
    · exact .inr (.inl ⟨.inr ⟨h, rfl⟩, swept⟩)
  obtain ⟨u, eu, grows⟩ := exec_tableGrows i s ⟨not_exists.1 powerOn, not_exists.1 pin, restart⟩
    ⟨second, fun h n hi => set ⟨h, n, hi⟩⟩
  rw [e] at eu
  cases eu
  exact .inr (.inr grows)

/-- Settles O10. -/
theorem servedOrVoidVoucherStaysAsItIs : Obligations.ServedOrVoidVoucherStaysAsItIs := by
  unfold Obligations.ServedOrVoidVoucherStaysAsItIs
  refine ⟨fun i s t e law h he served f hf same => ?_, fun i s t e h he gone => ?_⟩
  · obtain ⟨-, empty⟩ | ⟨-, swept⟩ | grows := exec_table h
    · rw [empty] at hf; cases hf
    · rw [swept] at hf
      exact s.vcu.sweep_stays _ law.2 he hf same
    · exact grows.stays law.2 e he served f hf same
  · obtain ⟨reset, -⟩ | ⟨time, swept⟩ | grows := exec_table h
    · obtain h | h | h := reset
      · exact .inl h
      · exact .inr (.inl h)
      · exact .inr (.inr (.inl h))
    · refine .inr (.inr (.inr ⟨time, Vcu.swept_late he fun kept => ?_⟩))
      rw [← swept] at kept
      exact gone e kept rfl
    · obtain ⟨f, hf, same⟩ := grows.serials e he
      exact absurd same (gone f hf)

end Sys2Proof.Machine
end

section
/-! Encodings read back, and voucher codes (R122, R123, R138, R194, R200). -/

namespace Sys2Proof.Machine

/-! ## Fields and frames (R192, R194, R200) -/

@[simp] theorem beBytes_length (n v : Nat) : (beBytes n v).length = n := by
  induction n with
  | zero => rfl
  | succ n ih => simp [beBytes, ih]

theorem scanHost_nil (fuel : Nat) : scanHost fuel [] = ([], [], 0) := by cases fuel <;> rfl

/-- A frame whose length is in range and whose CRC-16 is right is read, and the search goes on after it (R179). -/
theorem scanHost_good {fuel : Nat} {l1 l2 : Byte} {rest : List Byte} (length : beValue [l1, l2] ≤ 1024)
    (whole : beValue [l1, l2] + 5 ≤ rest.length)
    (crc : beValue ((rest.drop (beValue [l1, l2] + 3)).take 2) = (crc16 (l1 :: l2 :: rest.take (beValue [l1, l2] + 3))).toNat) :
    scanHost (fuel + 1) (90#8 :: l1 :: l2 :: rest) =
      (let r := scanHost fuel (rest.drop (beValue [l1, l2] + 5))
       ({ tag := BitVec.ofNat 16 (beValue (rest.take 2)), kind := (rest.drop 2).headD 0#8
          body := (rest.drop 3).take (beValue [l1, l2]) } :: r.1, r.2.1, r.2.2)) := by
  have skip : (90#8 :: l1 :: l2 :: rest).dropWhile (· != 90#8) = 90#8 :: l1 :: l2 :: rest :=
    List.dropWhile_cons_of_neg (by decide)
  rw [scanHost, skip]
  dsimp only
  rw [if_neg (Nat.not_lt.2 length), if_neg (Nat.not_lt.2 whole), if_pos (by simpa using crc)]

/-- A frame written in the layout of R194 is read back (R179). -/
theorem scanHost_hostFrameBytes (tag : BitVec 16) (kind : Byte) (body : List Byte) (fuel : Nat) (size : body.length ≤ 1024) :
    scanHost (fuel + 1) (hostFrameBytes tag kind.toNat body) = ([{ tag := tag, kind := kind, body := body }], [], 0) := by
  obtain ⟨l1, l2, hl⟩ : ∃ l1 l2, beBytes 2 body.length = [l1, l2] := ⟨_, _, rfl⟩
  have length : beValue [l1, l2] = body.length := by rw [← hl]; exact beValue_beBytes 2 _ (by omega)
  obtain ⟨t1, t2, ht⟩ : ∃ t1 t2, beBytes 2 tag.toNat = [t1, t2] := ⟨_, _, rfl⟩
  have tagRead : BitVec.ofNat 16 (beValue [t1, t2]) = tag := by
    rw [← ht, beValue_beBytes 2 _ (by have := tag.isLt; omega), BitVec.ofNat_toNat, BitVec.setWidth_eq]
  have kindRead : beBytes 1 kind.toNat = [kind] := by simp [beBytes]
  set crc := crc16 (l1 :: l2 :: t1 :: t2 :: kind :: body) with hcrc
  obtain ⟨c1, c2, hc⟩ : ∃ c1 c2, beBytes 2 crc.toNat = [c1, c2] := ⟨_, _, rfl⟩
  have crcRead : beValue [c1, c2] = crc.toNat := by rw [← hc]; exact beValue_beBytes 2 _ (by have := crc.isLt; omega)
  have bytes : hostFrameBytes tag kind.toNat body = 90#8 :: l1 :: l2 :: (t1 :: t2 :: kind :: (body ++ [c1, c2])) := by
    simp only [hostFrameBytes, hl, ht, kindRead, List.cons_append, List.nil_append, ← hcrc, hc]
  have covered : (t1 :: t2 :: kind :: (body ++ [c1, c2])).take (body.length + 3) = t1 :: t2 :: kind :: body := by simp
  have after : (t1 :: t2 :: kind :: (body ++ [c1, c2])).drop (body.length + 3) = [c1, c2] := by simp
  rw [bytes, scanHost_good] <;> rw [length]
  · have left : (t1 :: t2 :: kind :: (body ++ [c1, c2])).drop (body.length + 5) = [] := by simp
    simp [left, scanHost_nil, tagRead]
  · exact size
  · simp
  · rw [covered, after, ← hcrc, ← crcRead]; rfl

theorem readMarks_storeRecordBytes (m : Marks) (range : marksInRange m = true) : readMarks (storeRecordBytes m) = some m := by
  have bounds := range
  simp only [marksInRange, Bool.and_eq_true, decide_eq_true_eq] at bounds
  obtain ⟨⟨⟨-, sale⟩, -⟩, voucher⟩ := bounds
  have marks : (storeRecordBytes m).take 9 = marksBytes m := List.take_left' (by simp [marksBytes])
  have saleRead : beValue ((storeRecordBytes m).take 5) = m.sale := by
    have : (storeRecordBytes m).take 5 = beBytes 5 m.sale := by
      rw [storeRecordBytes, marksBytes, List.append_assoc]; exact List.take_left' (by simp)
    rw [this]; exact beValue_beBytes 5 _ (by omega)
  have voucherRead : beValue (((storeRecordBytes m).drop 5).take 4) = m.voucher := by
    have : ((storeRecordBytes m).drop 5).take 4 = beBytes 4 m.voucher := by
      rw [storeRecordBytes, marksBytes, List.append_assoc, List.drop_left' (by simp)]; exact List.take_left' (by simp)
    rw [this]; exact beValue_beBytes 4 _ (by omega)
  unfold readMarks
  dsimp only
  rw [saleRead, voucherRead, marks]
  simp [storeRecordBytes, marksBytes, range]

/-- Settles O11. -/
theorem frameAndRecordRoundTrips : Obligations.FrameAndRecordRoundTrips := by
  unfold Obligations.FrameAndRecordRoundTrips
  exact ⟨scanHost_hostFrameBytes, readMarks_storeRecordBytes⟩

/-! ## Voucher codes (R138) -/

@[simp] theorem decimalDigits_length (k v : Nat) : (decimalDigits k v).length = k := by
  induction k with
  | zero => rfl
  | succ k ih => simp [decimalDigits, ih]

/-- The characters of a number's last digits. -/
def digitChars (k v : Nat) : Text := (decimalDigits k v).map (· + 48)

theorem digitChars_isDigitChar (k v : Nat) : (digitChars k v).all isDigitChar = true := by
  induction k with
  | zero => rfl
  | succ k ih =>
    have head : isDigitChar (v / 10 ^ k % 10 + 48) = true := by
      simp only [isDigitChar, Bool.and_eq_true, decide_eq_true_eq]; omega
    simpa [digitChars, decimalDigits, head] using ih

theorem digitsValue_append (t u : Text) (k v : Nat) (hu : u = digitChars k v) :
    digitsValue (t ++ u) = digitsValue t * 10 ^ k + v % 10 ^ k := by
  subst hu
  unfold digitsValue
  rw [List.foldl_append]
  generalize t.foldl _ 0 = acc
  induction k generalizing acc with
  | zero => simp [digitChars, decimalDigits, Nat.mod_one]
  | succ k ih =>
    simp only [digitChars, decimalDigits, List.map_cons, List.foldl_cons] at ih ⊢
    rw [ih, Nat.pow_succ, Nat.mod_mul, Nat.add_sub_cancel]
    ring

theorem digitsValue_digitChars {k v : Nat} (h : v < 10 ^ k) : digitsValue (digitChars k v) = v := by
  have := digitsValue_append [] _ k v rfl
  simpa [Nat.mod_eq_of_lt h, digitsValue] using this

/-- The characters of a voucher code: its serial, then its check digits. -/
theorem voucherCode_chars (n : Nat) : (voucherCode n).map (· + 48) = digitChars 8 n ++ digitChars 2 (checkDigits n) := by
  simp [voucherCode, digitChars]

/-- Settles O12. -/
theorem voucherCodeOfSerial : Obligations.VoucherCodeOfSerial := by
  unfold Obligations.VoucherCodeOfSerial
  intro n hn
  have checks : 2 ≤ checkDigits n ∧ checkDigits n ≤ 98 := by unfold checkDigits; omega
  have remainder : (n * 100 + checkDigits n) % 97 = 1 := by unfold checkDigits; omega
  have serial : digitsValue (digitChars 8 n) = n := digitsValue_digitChars (by omega)
  have check : digitsValue (digitChars 2 (checkDigits n)) = checkDigits n := digitsValue_digitChars (by omega)
  have take : (digitChars 8 n ++ digitChars 2 (checkDigits n)).take 8 = digitChars 8 n := List.take_left' (by simp [digitChars])
  have drop : (digitChars 8 n ++ digitChars 2 (checkDigits n)).drop 8 = digitChars 2 (checkDigits n) :=
    List.drop_left' (by simp [digitChars])
  have whole : digitsValue (digitChars 8 n ++ digitChars 2 (checkDigits n)) = n * 100 + checkDigits n := by
    rw [digitsValue_append _ _ _ _ rfl, serial, Nat.mod_eq_of_lt (by omega), show 10 ^ 2 = 100 from rfl]
  rw [voucherCode_chars, take, whole]
  refine ⟨?_, serial, remainder, checks⟩
  unfold wellFormedCode
  rw [take, drop, serial, check, List.all_append, digitChars_isDigitChar, digitChars_isDigitChar]
  simp [digitChars]

end Sys2Proof.Machine
end

section
/-! What the resets leave, and the requests of the HLC (R179 to R190). -/

namespace Sys2Proof.Machine

/-! ## Resets of the part (R188, R190) -/

theorem Conditions.reset_raised (c : Condition) : Conditions.reset.raised c = false := by
  cases c with
  | auth d => exact vget_replicate _ _
  | _ => rfl

section
variable (s : State) (x : Straps)

theorem State.powerOn_layout (i : Fin 8) : (s.powerOn x).layout i = .reset := vget_replicate _ _
theorem State.powerOn_screening (i : Fin 16) : (s.powerOn x).screening i = none := vget_replicate _ _
theorem State.powerOn_basket (d : Drop) : (s.powerOn x).basket d = .reset := vget_replicate _ _
theorem State.powerOn_reader (d : Drop) : (s.powerOn x).reader d = .reset := vget_replicate _ _
theorem State.powerOn_session (d : Drop) : (s.powerOn x).session d = .reset := vget_replicate _ _
theorem State.powerOn_queue (d : Drop) : (s.powerOn x).queue d = [] := vget_replicate _ _
theorem State.powerOn_printer (d : Drop) :
    (s.powerOn x).printer d = { state := .offline, paperLow := false, retries := 0, headSent := false } := vget_replicate _ _
theorem State.powerOn_dropRec (d : Drop) : (s.powerOn x).dropRec d = .reset := vget_replicate _ _
theorem State.powerOn_line (l : LineId) : (s.powerOn x).line l = .reset := by cases l <;> rfl

end

/-- Settles O13. -/
theorem powerOnAndPinReset : Obligations.PowerOnAndPinReset := by
  unfold Obligations.PowerOnAndPinReset
  intro x s
  refine ⟨s.powerOn x, rfl, rfl, fun i => ?_, s.powerOn_screening x, s.powerOn_basket x, fun b n => ?_, fun k => ?_, fun k => ?_,
    fun k => ?_, rfl, rfl, s.powerOn_reader x, s.powerOn_session x, rfl, rfl, fun d => ⟨s.powerOn_queue x d, s.powerOn_printer x d⟩,
    rfl, rfl, rfl, s.powerOn_dropRec x, s.powerOn_line x, rfl, rfl, rfl, rfl, rfl, Conditions.reset_raised, rfl, rfl, rfl, rfl, rfl,
    rfl, rfl, rfl, rfl, rfl, rfl⟩
  · rw [s.powerOn_layout x i]; exact ⟨rfl, rfl⟩
  · simp [State.powerOn, Fau.reset]
  · exact vget_replicate _ _
  · exact vget_replicate _ _
  · exact vget_replicate _ _

/-- Settles O14. -/
theorem restartKeepsCountersAndKinds : Obligations.RestartKeepsCountersAndKinds := by
  unfold Obligations.RestartKeepsCountersAndKinds
  intro h x s
  have marks : ∀ c, c ∈ s.jnu.markAgain ↔ ∃ w, s.jnu.store.written = some w ∧ c = .voucherMarkUpdate w.voucher := by
    intro c
    unfold Jnu.markAgain
    cases s.jnu.store.written <;> simp
  have orders : ∀ c, c ∈ (s.restart h).orders ↔ (c ∈ s.orders ∧ outlastsRestart c = true) ∨ c ∈ s.jnu.markAgain := by
    intro c
    simp [State.restart]
  refine ⟨s.powerOn x, s.restart h, rfl, rfl, rfl, rfl, rfl, rfl, rfl, rfl, rfl, fun d => ?_, fun l => ?_, rfl, fun starting => ?_,
    fun other => ?_, fun c hc => ?_, fun c hc lasts => ?_, fun w hw => ?_, fun c => ?_, rfl⟩
  · rw [s.restart_dropRec h d, s.powerOn_dropRec x d]
    refine ⟨rfl, fun used => ?_, fun unused => ?_⟩
    · cases e : (s.dropRec d).state <;> first | exact absurd e used | simp [DropRecord.restart, e, DropState.probed]
    · simp [DropRecord.restart, unused, DropState.probed]
  · rw [s.restart_line h l]; rfl
  · change s.restartState = .starting
    simp [State.restartState, starting]
  · change s.restartState = _
    unfold State.restartState
    cases e : s.hlc.partState <;> first | exact absurd e other | cases s.jnu.saleCounter <;> rfl
  · exact ((orders c).1 hc).imp_right (marks c).1
  · exact (orders c).2 (.inl ⟨hc, lasts⟩)
  · exact (orders _).2 (.inr ((marks _).2 ⟨w, hw, rfl⟩))
  · cases c <;> simp [outlastsRestart]

/-! ## The host link (R179, R180, R183, R189) -/

/-- Settles O16. -/
theorem hostByteEntersTheBuffer : Obligations.HostByteEntersTheBuffer := by
  unfold Obligations.HostByteEntersTheBuffer
  intro b s
  refine ⟨fun full => ?_, fun room => ?_⟩
  · change (s.receive b).done = _
    rw [State.receive, if_pos full]; rfl
  · refine ⟨s.setHlc (s.hlc.scan (s.hlc.bytes ++ [b])), ?_, s.setHlc_kept _ (by decide), ?_⟩
    · change (s.receive b).done = _
      rw [State.receive, if_neg (Nat.not_le.2 room)]; rfl
    · have fuel : (s.hlc.bytes ++ [b]).length + 1 = s.hlc.bytes.length + 2 := by simp
      simp only [State.setHlc_hlc, Hlc.scan, fuel, true_and, and_true]
      intro some
      rw [if_neg (by omega)]; rfl

/-- Settles O19. -/
theorem statusAndNoticeLevels : Obligations.StatusAndNoticeLevels := by
  unfold Obligations.StatusAndNoticeLevels
  refine ⟨fun h s => ?_, fun h l s ready ok => ?_, fun h l s ready bad => ?_⟩
  · exact State.serveWith_act (allowed := fun _ => true) (s.accept (.status h (some ()))) h .none (State.status h) () rfl
  all_goals
    refine (State.serveWith_act (s.accept (.noticeLevels h (some l))) h .none (State.noticeLevels h) l (by simp [readyOnly, ready])).trans ?_
  · rw [State.noticeLevels, if_pos ok]; rfl
  · rw [State.noticeLevels, if_neg (by simp [bad])]; rfl

/-- An answer joins a queue that has room, and the request is no longer handled (R181). -/
theorem State.replyHost_replies {s : State} (room : s.hlc.replies.length < 4) (h : HostTag) (c : Code) (x : HostData) :
    (s.replyHost h c x).hlc.replies = s.hlc.replies ++ [{ request := h, code := c, data := x }] := if_pos room

theorem State.replyHost_handling {s : State} {h : HostTag} (handled : s.hlc.handling = some h) (c : Code) (x : HostData) :
    (s.replyHost h c x).hlc.handling = none := if_pos (by simp [handled])

theorem requestOf_restartKind : requestOf restartKind = none := by decide

section
variable (s : State) (f : HostFrame) (rest : List HostFrame)

/-- What `State.routeFrame` does with a frame that is no RESTART (R180, R195). -/
theorem State.routeFrame_unknown (other : f.kind = restartKind → f.body ≠ []) (unknown : requestOf f.kind = none) :
    s.routeFrame f = s.send [.unknownRequestKind f.echo] := by
  rw [State.routeFrame, if_neg fun h => other h.1 (List.isEmpty_iff.1 h.2), unknown]

theorem State.routeFrame_known (other : f.kind ≠ restartKind) {q : HostRequest} (known : requestOf f.kind = some q) :
    s.routeFrame f = if allowedIn q s.hlc.partState then
        (if q = .status then s.takeStatus f else s.send [requestCommand f.echo f.body q])
      else s.replyHost f.echo (partStateCode s.hlc.partState) (s.everyReply q) := by
  rw [State.routeFrame, if_neg fun h => other h.1, known]

theorem State.takeStatus_empty (empty : f.body = []) : s.takeStatus f = s.replyHost f.echo .ok (.status s.statusReport) := by
  rw [State.takeStatus, empty]; rfl

theorem State.takeStatus_full (full : f.body ≠ []) : s.takeStatus f = s.replyHost f.echo .badValue .none := by
  unfold State.takeStatus
  cases e : f.body with
  | nil => exact absurd e full
  | cons b bs => rfl

theorem State.takeStatus_frame (h : s.hlc.handling = some f.echo) :
    (s.takeStatus f).orders = s.orders ∧ (s.takeStatus f).hlc.handling = none := by
  by_cases empty : f.body = []
  · rw [s.takeStatus_empty f empty]; exact ⟨rfl, State.replyHost_handling h _ _⟩
  · rw [s.takeStatus_full f empty]; exact ⟨rfl, State.replyHost_handling h _ _⟩

theorem State.takeRequest_idle (h : s.hlc.frames = [] ∨ s.hlc.handling ≠ none ∨ 4 ≤ s.hlc.replies.length) : s.takeRequest = s := by
  unfold State.takeRequest
  split
  · rfl
  · rename_i f rest oldest
    refine if_neg fun free => ?_
    obtain h | h | h := h
    · rw [oldest] at h; cases h
    · exact h free.1
    · omega

end

/-- The frame buffer after a frame that is no RESTART is taken (R180). -/
theorem State.routeFrame_frames (s : State) (f : HostFrame) (other : f.kind = restartKind → f.body ≠ []) :
    (s.routeFrame f).hlc.frames = s.hlc.frames := by
  cases e : requestOf f.kind with
  | none => rw [s.routeFrame_unknown f other e]; rfl
  | some q =>
    rw [s.routeFrame_known f (fun h => by rw [h, requestOf_restartKind] at e; cases e) e]
    split
    · split
      · by_cases empty : f.body = []
        · rw [s.takeStatus_empty f empty]; rfl
        · rw [s.takeStatus_full f empty]; rfl
      · rfl
    · rfl

/-- Settles O17. -/
theorem requestsAreTakenAndRouted : Obligations.RequestsAreTakenAndRouted := by
  unfold Obligations.RequestsAreTakenAndRouted
  refine ⟨fun f rest s oldest free room => ⟨fun kind body => ?_, fun other => ?_⟩, fun s h => ?_, fun h s room => ?_⟩
  · have restarted := s.takeRequest_restart f rest oldest free room kind body
    refine ⟨(s.restart f.echo).transmit, ?_, rfl, ?_⟩
    · change s.takeRequest.done = _
      rw [restarted]; rfl
    · rw [State.transmit_frames]; rfl
  · have noRestart : f.kind = restartKind → f.body ≠ [] := fun kind => other.resolve_left fun h => h kind
    have taken : s.takeRequest = (s.takeFrame f rest).routeFrame f := by
      unfold State.takeRequest; rw [oldest]; exact if_pos ⟨free, room⟩
    have frame : keptBut [.hlc, .orders] s s.takeRequest := State.takeRequest_other fun h => by
      obtain ⟨_, h⟩ | ⟨-, -, -, g, rest', oldest', kind, body⟩ := h
      · cases h
      · rw [oldest] at oldest'; cases oldest'
        exact noRestart kind body
    have room' : (s.takeFrame f rest).hlc.replies.length < 4 := room
    have handled : (s.takeFrame f rest).hlc.handling = some f.echo := rfl
    refine ⟨s.takeRequest, rfl, frame, ?_⟩
    rw [taken]
    refine ⟨State.routeFrame_frames _ f noRestart, fun kind body => ?_, fun kind unknown => ?_, fun kind status => ?_,
      fun q kind known notStatus allowed => ?_, fun q kind known refused => ?_⟩
    · rw [State.routeFrame_unknown _ f noRestart (kind ▸ requestOf_restartKind)]; rfl
    · rw [State.routeFrame_unknown _ f noRestart unknown]; rfl
    · have ok : allowedIn .status (s.takeFrame f rest).hlc.partState = true := rfl
      rw [State.routeFrame_known _ f kind status, if_pos ok, if_pos rfl]
      obtain ⟨orders, handling⟩ := State.takeStatus_frame _ f handled
      refine ⟨orders, handling, fun empty => ?_, fun full => ?_⟩
      · rw [State.takeStatus_empty _ f empty]; exact State.replyHost_replies room' _ _ _
      · rw [State.takeStatus_full _ f full]; exact State.replyHost_replies room' _ _ _
    · have ok : allowedIn q (s.takeFrame f rest).hlc.partState = true := allowed
      rw [State.routeFrame_known _ f kind known, if_pos ok, if_neg notStatus]
      exact ⟨rfl, rfl⟩
    · have no : ¬allowedIn q (s.takeFrame f rest).hlc.partState = true :=
        by rw [show (s.takeFrame f rest).hlc.partState = s.hlc.partState from rfl, refused]; decide
      rw [State.routeFrame_known _ f kind known, if_neg no]
      exact ⟨rfl, State.replyHost_handling handled _ _, State.replyHost_replies room' _ _ _⟩
  · change s.takeRequest.done = _
    rw [s.takeRequest_idle h]; rfl
  · exact ⟨_, rfl, (s.accept_kept _ (by decide)).trans (State.replyHost_kept _ _ _ _ (by decide)),
      State.replyHost_replies (s := s.accept (.unknownRequestKind h)) room _ _ _⟩

/-! ## Site settings (R68, R69, R187) -/

theorem clamp_eq_self {lo hi : Nat} (h : lo ≤ hi) (n : Nat) : clamp lo hi n = n ↔ lo ≤ n ∧ n ≤ hi := by
  unfold clamp; omega

/-- No setting is clamped when each is in its range (R187). -/
theorem clampedFields_eq_nil (r : SiteReq) : clampedFields r = [] ↔ 1 ≤ r.lineCeiling ∧ r.lineCeiling ≤ 99999 ∧
    r.houseFare ≤ 50000 ∧ r.rebate ≤ 5000 ∧ r.seatTax ≤ 3000 ∧ r.snackTax ≤ 3000 ∧ 2 ≤ r.backlog ∧ r.backlog ≤ 16 ∧
    10 ≤ r.retention ∧ r.retention ≤ 1440 ∧ 60 ≤ r.hold ∧ r.hold ≤ 600 ∧ 20 ≤ r.cardWait ∧ r.cardWait ≤ 180 ∧
    15 ≤ r.authTimeout ∧ r.authTimeout ≤ 120 := by
  have fields : clampedFields r = [] ↔ ∀ f ∈ siteFields r, clamp f.2.1 f.2.2.1 f.2.2.2 = f.2.2.2 := by
    simp [clampedFields, List.filterMap_eq_nil_iff]
  rw [fields]
  simp only [siteFields, List.forall_mem_cons, List.not_mem_nil, false_implies, implies_true]
  rw [clamp_eq_self (by decide), clamp_eq_self (by decide), clamp_eq_self (by decide), clamp_eq_self (by decide),
    clamp_eq_self (by decide), clamp_eq_self (by decide), clamp_eq_self (by decide), clamp_eq_self (by decide),
    clamp_eq_self (by decide), clamp_eq_self (by decide)]
  simp only [Nat.zero_le, true_and, and_true, and_assoc]

/-- Settles O20. -/
theorem setSiteStoresAndClamps : Obligations.SetSiteStoresAndClamps := by
  unfold Obligations.SetSiteStoresAndClamps
  intro h r m nf ce pl s notStarting rounding noFare ceiling printLater
  have allowed : readyOrNeed (s.accept (.setSite h (some r))).hlc.partState = true := by simpa [readyOrNeed] using notStarting
  let t := s.accept (.setSite h (some r))
  refine ⟨t.storeSettings r (pricingOf r m nf ce) pl, ?_, ?_, ?_, rfl, rfl, rfl, rfl, rfl, rfl, ?_, rfl, rfl, ?_, clampedFields_eq_nil r⟩
  · refine (State.serveWith_act t h .none (State.setSite h) r allowed).trans ?_
    unfold State.setSite
    rw [rounding, noFare, ceiling, printLater]
    simp only [List.isEmpty_iff]
    rfl
  · change (s.fau.store (pricingOf r m nf ce)).settings = _
    unfold Fau.store
    split
    · rename_i same; exact same.symm
    · rfl
  · change (s.fau.store (pricingOf r m nf ce)).generation = _
    unfold Fau.store
    split <;> rfl
  · change (s.fau.store (pricingOf r m nf ce)).tariff = _
    unfold Fau.store
    split <;> rfl
  · exact (s.accept_kept _ (by decide)).trans ((t.storeSettings_keeps r _ pl).frame.mono (by decide))

end Sys2Proof.Machine
end

section
/-! Layouts, reads and the gate of basket requests (R3 to R5, R21, R28, R70, R80). -/

namespace Sys2Proof.Machine

/-! ## Host requests in a part that takes them (R180, R188) -/

section
variable {α : Type} {s u : State} {c : Instr} {h : HostTag} {act : α → State → State} {r : α}

/-- A request with a good body acts, in a READY part (R180). -/
theorem State.serve_ready (ready : s.hlc.partState = .ready) (e : act r (s.accept c) = u) :
    (s.accept c).serve h readyOnly (some r) act = .next u.transmit := by
  refine (State.serveWith_act (s.accept c) h .none act r ?_).trans (congrArg State.done e)
  simp [readyOnly, ready]

theorem State.servePricing_ready (ready : s.hlc.partState = .ready) (e : act r (s.accept c) = u) :
    (s.accept c).servePricing h (some r) act = .next u.transmit := by
  refine (State.serveWith_act (s.accept c) h _ act r ?_).trans (congrArg State.done e)
  simp [readyOnly, ready]

theorem State.servePricing_wrong (ready : s.hlc.partState = .ready) :
    (s.accept c).servePricing h none act = .next (((s.accept c).replyHost h .badValue (.generation s.fau.generation)).transmit) :=
  State.serveWith_wrong _ h _ act (by simp [readyOnly, ready])

end

/-! ## Layouts (R3 to R5) -/

theorem State.layoutInUse_iff {s : State} {i : Fin 8} :
    s.layoutInUse i = true ↔ ∃ j sc, s.screening j = some sc ∧ sc.layout = i := by
  constructor
  · intro h
    by_contra none
    simp only [not_exists, not_and] at none
    have free : s.layoutInUse i = false := by
      simp only [State.layoutInUse, List.any_eq_false]
      intro o ho
      obtain ⟨j, hj, rfl⟩ := Vector.getElem_of_mem (Vector.mem_toList_iff.1 ho)
      cases e : s.sbu.screenings[j] with
      | none => simp
      | some sc => simpa using none ⟨j, hj⟩ sc e
    rw [free] at h; cases h
  · rintro ⟨j, sc, hj, used⟩
    by_contra free
    exact s.layoutInUse_eq_false (by simpa using free) hj used

section
variable (s : State) (i : Fin 8) (l : Layout)

/-- A layout replaced: every other layout and every screening stays. -/
theorem State.setLayout_frame (c : Instr) :
    (∀ j, j ≠ i → ((s.accept c).setLayout i l).layout j = s.layout j) ∧
      (∀ j, ((s.accept c).setLayout i l).screening j = s.screening j) ∧ keptBut [.sbu, .orders] s ((s.accept c).setLayout i l) := by
  refine ⟨fun j hj => ?_, fun j => rfl, (s.accept_kept c (by decide)).trans (State.setLayout_kept _ _ _ (by decide))⟩
  rw [State.setLayout_layout, if_neg hj]; rfl

end

/-- Settles O23. -/
theorem layoutsLoadRowByRow : Obligations.LayoutsLoadRowByRow := by
  unfold Obligations.LayoutsLoadRowByRow
  refine ⟨fun h r i s ready index rows rows' ideal centre => ⟨fun used => ?_, fun free => ?_⟩,
    fun h r i s ready index loading order => ?_,
    fun h r ks i s ready index loading order kinds positions positions' label fresh => ?_⟩
  · obtain ⟨index', rowCount, ideal', centre'⟩ := r
    dsimp only at *
    subst index
    refine State.serve_ready ready ?_
    have inUse : (s.accept (.layoutBegin h (some ⟨i, rowCount, ideal', centre'⟩))).layoutInUse i = true := State.layoutInUse_iff.2 used
    simp only [State.layoutBegin, i.isLt, dite_true, rows, rows', ideal, centre, and_self, if_true, inUse]
  · obtain ⟨index', rowCount, ideal', centre'⟩ := r
    dsimp only at *
    subst index
    refine State.serve_ready ready ?_
    have unused : (s.accept (.layoutBegin h (some ⟨i, rowCount, ideal', centre'⟩))).layoutInUse i = false := by
      by_contra used
      obtain ⟨j, sc, hj, hi⟩ := State.layoutInUse_iff.1 (by simpa using used)
      exact free j sc hj hi
    simp only [State.layoutBegin, i.isLt, dite_true, rows, rows', ideal, centre, and_self, if_true, unused, Bool.false_eq_true, if_false]
  · obtain ⟨index', row, label, kinds⟩ := r
    dsimp only at *
    subst index
    let c := Instr.layoutRow h (some ⟨i, row, label, kinds⟩)
    obtain ⟨others, screenings, kept⟩ := s.setLayout_frame i (s.layout i).invalidated c
    have own : ((s.accept c).setLayout i (s.layout i).invalidated).layout i = (s.layout i).invalidated := by
      rw [State.setLayout_layout, if_pos rfl]
    refine ⟨(s.accept c).setLayout i (s.layout i).invalidated, State.serve_ready ready ?_, by rw [own]; rfl, by rw [own]; rfl, others,
      screenings, kept⟩
    simp only [State.layoutRow, i.isLt, dite_true, State.accept_layout, loading, ne_eq, not_true_eq_false, if_false,
      Layout.rowsTaken, order, not_false_eq_true, if_true]
    rfl
  · intro l
    let c := Instr.layoutRow h (some r)
    have hi : r.index < 8 := index ▸ i.isLt
    have slot : (⟨r.index, hi⟩ : Fin 8) = i := Fin.ext index
    have unique : ((s.layout i).rows.any fun x => x.label == r.label) = false := by simpa [List.any_eq_false] using fresh
    have taken : State.layoutRow h r (s.accept c) = State.rowTaken h i l (s.accept c) := by
      rw [State.layoutRow, dif_pos hi, slot]
      simp only [State.accept_layout, loading, ne_eq, not_true_eq_false, if_false,
        Layout.rowsTaken, order, kinds, positions, positions', label, unique, and_self, if_true, l]
    have own : ∀ x, ((s.accept c).setLayout i x).layout i = x := fun x => by rw [State.setLayout_layout, if_pos rfl]
    have put := fun x => s.setLayout_frame i x c
    by_cases more : l.rows.length < l.rowCount
    · refine ⟨(s.accept c).setLayout i l, .ok, .none, State.serve_ready ready (taken.trans (if_pos more)),
        fun _ => ⟨own l, rfl, rfl⟩, fun last => absurd last more.ne, fun last => absurd last more.ne, put l⟩
    · have whole : ∀ x : State, State.rowTaken h i l (s.accept c) = x ↔ _ := fun x => by rw [State.rowTaken, Layout.rowsTaken, if_neg more]
      by_cases many : 480 < l.countSeats
      · refine ⟨(s.accept c).setLayout i l.invalidated, .tooManySeats, .none,
          State.serve_ready ready (taken.trans ((whole _).2 (if_pos many))), fun less => absurd less more,
          fun _ few => absurd few (Nat.not_le.2 many), fun _ _ => by rw [own]; exact ⟨rfl, rfl, rfl, rfl⟩, put _⟩
      · refine ⟨(s.accept c).setLayout i { l with state := .ready, sellable := some l.countSeats }, .ok, .sellable l.countSeats,
          State.serve_ready ready (taken.trans ((whole _).2 (if_neg many))), fun less => absurd less more,
          fun _ _ => ⟨own _, rfl, rfl⟩, fun _ excess => absurd excess many, put _⟩

/-! ## Reads (R21, R70, R80) -/

/-- The first refusal of a list of outcomes comes after those that were priced (R70). -/
theorem firstRefusal_append (before : List LineOutcome) (c : Code) (after : List LineOutcome) (i : Nat)
    (priced : ∀ o ∈ before, ∀ e, o ≠ .refused e) :
    firstRefusal (before ++ .refused c :: after) i = some (i + before.length, c) := by
  induction before generalizing i with
  | nil => simp [firstRefusal]
  | cons o before ih =>
    cases o with
    | refused e => exact absurd rfl (priced _ List.mem_cons_self e)
    | priced a x y z =>
      rw [List.cons_append, firstRefusal, ih _ fun o ho => priced o (List.mem_cons_of_mem _ ho), List.length_cons]
      congr 2; omega

theorem firstRefusal_eq_none {os : List LineOutcome} (priced : ∀ o ∈ os, ∀ e, o ≠ .refused e) (i : Nat) :
    firstRefusal os i = none := by
  induction os generalizing i with
  | nil => rfl
  | cons o os ih =>
    cases o with
    | refused e => exact absurd rfl (priced _ List.mem_cons_self e)
    | priced a x y z => exact ih (fun o ho => priced o (List.mem_cons_of_mem _ ho)) _

/-- The lines priced as the totals take them (R70). -/
theorem pricedLines_eq (f : Fau) (ls : List ToPrice) :
    (List.zipWith pricedLine ls (ls.map f.priceLine)).filterMap id = ls.filterMap fun l => pricedLine l (f.priceLine l) := by
  induction ls with
  | nil => rfl
  | cons l ls ih =>
    rw [List.map_cons, List.zipWith_cons_cons, List.filterMap_cons, List.filterMap_cons, ih]
    rfl

/-- Settles O27. -/
theorem queriesAndPriceOrdersChangeNothing : Obligations.QueriesAndPriceOrdersChangeNothing := by
  unfold Obligations.QueriesAndPriceOrdersChangeNothing
  refine ⟨fun h r i sc s ready row found => ?_, fun h r q s ready line => ?_, fun o s => ?_⟩
  · refine State.serve_ready ready ?_
    have found' : (s.accept (.seatQuery h (some r))).findScreening r.screening = some (i, sc) := found
    rw [State.seatQuery, if_neg (Nat.not_lt.2 row), State.onScreening, found']
    by_cases inside : r.row < (s.layout sc.layout).rowCount
    · rw [if_pos inside, if_pos inside]
      exact if_neg (Nat.not_le.2 inside)
    · rw [if_neg inside, if_neg inside]
      exact if_pos (Nat.not_lt.1 inside)
  · refine State.servePricing_ready ready ?_
    rw [State.fareQuote, line]; rfl
  · refine ⟨_, rfl, ?_, fun before l after c split priced refused mode => ?_, fun all => ?_⟩
    · intro b hb
      cases b <;> first | rfl | exact absurd hb (by decide)
    · have first : firstRefusal (o.lines.map s.fau.priceLine) 0 = some (before.length, c) := by
        rw [split, List.map_append, List.map_cons, refused, firstRefusal_append]
        · simp
        · intro x hx
          obtain ⟨y, hy, rfl⟩ := List.mem_map.1 hx
          exact priced y hy
      simp only [Fau.answer, mode, first]
    · have whole : s.fau.answer o = .priced (o.lines.map s.fau.priceLine)
          (s.fau.totals (o.kept ++ o.lines.filterMap fun l => pricedLine l (s.fau.priceLine l))).1
          (s.fau.totals (o.kept ++ o.lines.filterMap fun l => pricedLine l (s.fau.priceLine l))).2 s.fau.generation := by
        simp only [Fau.answer, pricedLines_eq]
        obtain priced | mode := all
        · rw [firstRefusal_eq_none (os := o.lines.map s.fau.priceLine) fun x hx => by
            obtain ⟨y, hy, rfl⟩ := List.mem_map.1 hx
            exact priced y hy]
          cases o.mode <;> rfl
        · rw [mode]
      refine ⟨_, _, congrArg some whole, ?_⟩
      rfl

/-! ## What stops a basket request (R28) -/

section
variable {α : Type} {s : State} {d : Drop} {r : α} {serialOf : α → Nat} {opens views : Bool} {act : α → State → State}

theorem State.basketRequest_wrongDrop (other : (s.dropRec d).kind ≠ .kiosk) :
    s.basketRequest d (some r) serialOf opens views act = s.serialReply d .wrongDrop := by
  have no : s.isKiosk d = false := by simpa [State.isKiosk] using other
  simp [State.basketRequest, no]

theorem State.basketRequest_partState (kiosk : (s.dropRec d).kind = .kiosk) (other : s.hlc.partState ≠ .ready) :
    s.basketRequest d (some r) serialOf opens views act = s.serialReply d (partStateCode s.hlc.partState) := by
  simp [State.basketRequest, State.isKiosk, kiosk, other]

theorem State.basketRequest_noBasket (ready : s.kioskReady d) (idle : (s.basket d).state = .idle) :
    s.basketRequest d (some r) serialOf false views act = s.basketReply d .noBasket .none := by
  simp [State.basketRequest, ready.isKiosk, ready.2, idle]

theorem State.basketRequest_stale (ready : s.kioskReady d) (used : (s.basket d).state ≠ .idle)
    (other : serialOf r ≠ (s.basket d).serial) :
    s.basketRequest d (some r) serialOf opens views act = s.serialReply d .staleBasket := by
  cases e : (s.basket d).state with
  | idle => exact absurd e used
  | opened => simp [State.basketRequest, ready.isKiosk, ready.2, e, other]
  | tender => simp [State.basketRequest, ready.isKiosk, ready.2, e, other]

theorem State.basketRequest_inTender (ready : s.kioskReady d) (tender : (s.basket d).state = .tender)
    (serial : serialOf r = (s.basket d).serial) :
    s.basketRequest d (some r) serialOf opens false act = s.basketReply d .inTender .none := by
  simp [State.basketRequest, ready.isKiosk, ready.2, tender, serial]

end

/-- A basket request with a good body is taken through its gate (R28). -/
theorem exec_basketGate {c : Instr} {d : Drop} {n : Nat} {opens views : Bool} (gate : basketGate c = some (d, n, opens, views))
    (s : State) : ∃ (α : Type) (r : α) (serialOf : α → Nat) (act : α → State → State), serialOf r = n ∧
      exec c s = .next ((s.accept c).basketRequest d (some r) serialOf opens views act).transmit := by
  unfold basketGate at gate
  split at gate
  all_goals cases gate
  all_goals exact ⟨_, _, _, _, rfl, rfl⟩

/-- Settles O30. -/
theorem basketRequestsAreGated : Obligations.BasketRequestsAreGated := by
  unfold Obligations.BasketRequestsAreGated
  intro c s d n opens views gate
  obtain ⟨α, r, serialOf, act, rfl, run⟩ := exec_basketGate gate s
  rw [run]
  refine ⟨fun other => ?_, fun kiosk other => ?_, fun ready idle opens => ?_, fun ready used other => ?_,
    fun ready tender serial views => ?_⟩
  · rw [State.basketRequest_wrongDrop (s := s.accept c) other]
  · rw [State.basketRequest_partState (s := s.accept c) kiosk other]; rfl
  · rw [opens, State.basketRequest_noBasket (ready.accept c) idle]
  · rw [State.basketRequest_stale (ready.accept c) used other]
  · rw [views, State.basketRequest_inTender (ready.accept c) tender serial]

end Sys2Proof.Machine
end

section
/-! Pricing loads, prices and totals (R63 to R79). -/

namespace Sys2Proof.Machine

/-! ## Loads of the pricing state (R64 to R67, R69) -/

/-- No entry is named when every fare is in range (R64). -/
theorem badEntry_eq_none {es : List (Option Nat)} (ok : ∀ e ∈ es, ∀ v, e = some v → v ≤ 50000) (i : Nat) :
    badEntry es i = none := by
  induction es generalizing i with
  | nil => rfl
  | cons e es ih =>
    have rest := ih (fun x hx => ok x (List.mem_cons_of_mem _ hx)) (i + 1)
    cases e with
    | none => exact rest
    | some v => exact (if_neg (Nat.not_lt.2 (ok _ List.mem_cons_self v rfl))).trans rest

/-- The first fare out of range is named by its place (R64). -/
theorem badEntry_append {before : List (Option Nat)} (ok : ∀ e ∈ before, ∀ v, e = some v → v ≤ 50000) {v : Nat} (high : 50000 < v)
    (after : List (Option Nat)) (i : Nat) : badEntry (before ++ some v :: after) i = some (i + before.length) := by
  induction before generalizing i with
  | nil => exact if_pos high
  | cons e before ih =>
    have rest := ih (fun x hx => ok x (List.mem_cons_of_mem _ hx)) (i + 1)
    rw [List.length_cons, show i + (before.length + 1) = i + 1 + before.length by omega, ← rest]
    cases e with
    | none => rfl
    | some w => exact if_neg (Nat.not_lt.2 (ok _ List.mem_cons_self w rfl))

/-- A table read up to one of its places, and from there on. -/
theorem toList_split {α : Type} {n : Nat} (v : Vector α n) (k : Fin n) :
    ∃ before after, v.toList = before ++ vget v k :: after ∧ before.length = k.val ∧
      ∀ x ∈ before, ∃ j, j < k ∧ vget v j = x := by
  have hk : k.val < v.toList.length := by simp
  refine ⟨v.toList.take k, v.toList.drop (k + 1), ?_, by simp, fun x hx => ?_⟩
  · conv_lhs => rw [← List.take_append_drop k v.toList, List.drop_eq_getElem_cons hk]
    simp [vget]
  · obtain ⟨j, hj, rfl⟩ := List.getElem_of_mem hx
    simp only [List.length_take, Vector.length_toList] at hj
    exact ⟨⟨j, by omega⟩, by simp only [Fin.lt_def]; omega, by simp [vget]⟩

theorem applyItem_get (cat : Vector CatalogueItem 32) (x : ItemSetting) (n : Nat) :
    (applyItem cat x)[n]? = if n = x.item then cat[n]?.map (·.apply x.contents) else cat[n]? := by
  unfold applyItem
  by_cases hx : x.item < 32
  · rw [dif_pos hx]
    by_cases h : n = x.item
    · subst h; simp [vput, vget, hx]
    · simp [vput, h, Ne.symm h]
  · rw [dif_neg hx]
    by_cases h : n = x.item
    · subst h; simp [Nat.not_lt.1 hx]
    · simp [h]

/-- A setting that names an item twice is out of range, so each item takes one setting or none (R67). -/
theorem applyItems_get {l : List ItemSetting} (distinct : itemsDistinct l = true) (cat : Vector CatalogueItem 32) :
    (∀ x ∈ l, (l.foldl applyItem cat)[x.item]? = cat[x.item]?.map (·.apply x.contents)) ∧
      ∀ n, (∀ x ∈ l, x.item ≠ n) → (l.foldl applyItem cat)[n]? = cat[n]? := by
  induction l generalizing cat with
  | nil => exact ⟨fun x hx => (List.not_mem_nil hx).elim, fun _ _ => rfl⟩
  | cons y l ih =>
    simp only [itemsDistinct, Bool.and_eq_true, Bool.not_eq_true', List.any_eq_false, beq_iff_eq] at distinct
    obtain ⟨fresh, rest⟩ := distinct
    obtain ⟨named, others⟩ := ih rest (applyItem cat y)
    refine ⟨fun x hx => ?_, fun n none => ?_⟩
    · obtain rfl | hx := List.mem_cons.1 hx
      · rw [List.foldl_cons, others _ fresh, applyItem_get, if_pos rfl]
      · rw [List.foldl_cons, named x hx, applyItem_get, if_neg (fresh x hx)]
    · rw [List.foldl_cons, others n fun x hx => none x (List.mem_cons_of_mem _ hx), applyItem_get,
        if_neg (none y List.mem_cons_self).symm]

/-- Settles O28. -/
theorem pricingLoadsMoveTheGeneration : Obligations.PricingLoadsMoveTheGeneration := by
  unfold Obligations.PricingLoadsMoveTheGeneration
  refine ⟨fun h r b s ready band ok => ?_, fun h r s ready ok => ?_, fun h r i s ready slot ok => ?_, fun h l s ready ok => ?_,
    fun h s ready => ⟨fun r k v hk high low => ?_, fun r ok band => ?_, fun r bad => ?_, fun r bad => ?_, fun l bad => ?_,
      fun r bad => ?_, fun c hc => ?_⟩⟩
  · refine State.servePricing_ready ready ?_
    have hb : r.band < 8 := band ▸ b.isLt
    have named : (⟨r.band, hb⟩ : Fin 8) = b := Fin.ext band
    rw [State.tariffLoad, badEntry_eq_none ok]
    exact (dif_pos hb).trans (by rw [named]; rfl)
  · exact State.servePricing_ready ready (if_pos ok)
  · refine State.servePricing_ready ready ?_
    have hi : r.slot < 16 := slot ▸ i.isLt
    have named : (⟨r.slot, hi⟩ : Fin 16) = i := Fin.ext slot
    have good : optionOk overlayOk r.contents = true := by
      cases e : r.contents with
      | none => rfl
      | some o => exact ok o e
    rw [State.overlaySet, dif_pos hi, if_pos good, named]; rfl
  · let c := Instr.catalogueLoad h (some l)
    have range := ok
    simp only [catalogueOk, Bool.and_eq_true, List.all_eq_true, decide_eq_true_eq] at range
    obtain ⟨⟨-, distinct⟩, items⟩ := range
    obtain ⟨named, others⟩ := applyItems_get distinct s.fau.catalogue
    have there : ∀ x ∈ l, ∃ i, s.fau.catalogue[x.item]? = some i := fun x hx =>
      ⟨s.fau.catalogue[x.item]'(by have := (items x hx).1; omega), by simp [Nat.lt_succ_of_le (items x hx).1]⟩
    refine ⟨(s.accept c).setFau { s.fau with catalogue := l.foldl applyItem s.fau.catalogue
                                             generation := nextGeneration s.fau.generation },
      State.servePricing_ready ready (if_pos ok), rfl, rfl, rfl, rfl, rfl, fun x hx y hy => ?_, fun x hx empty => ?_, others, ?_⟩
    · obtain ⟨i, hi⟩ := there x hx
      exact (named x hx).trans (by rw [hi, hy]; rfl)
    · obtain ⟨i, hi⟩ := there x hx
      have now : ((s.accept c).setFau { s.fau with catalogue := l.foldl applyItem s.fau.catalogue
                                                   generation := nextGeneration s.fau.generation }).fau.item x.item
          = some { i with valid := none } := (named x hx).trans (by rw [hi, empty]; rfl)
      have before : s.fau.item x.item = some i := hi
      rw [Fau.itemPrice, Fau.itemMinutes, Fau.itemMinutes, now, before]
      exact ⟨rfl, rfl⟩
    · exact (s.accept_kept _ (by decide)).trans (State.setFau_kept _ _ (by decide))
  · refine State.servePricing_ready ready ?_
    obtain ⟨before, after, split, length, lower⟩ := toList_split r.entries k
    rw [State.tariffLoad, split, hk, badEntry_append (fun e he w hw => ?_) high, Nat.zero_add, length]
    · rfl
    · obtain ⟨j, hj, rfl⟩ := lower e he
      exact low j w hj hw
  · refine State.servePricing_ready ready ?_
    rw [State.tariffLoad, badEntry_eq_none ok]
    exact dif_neg (by omega)
  · exact State.servePricing_ready ready (if_neg (by simp [bad]))
  · refine State.servePricing_ready ready ?_
    unfold State.overlaySet
    obtain bad | ⟨o, ho, bad⟩ := bad
    · exact dif_neg (by omega)
    · split
      · exact if_neg (by simp [ho, optionOk, bad])
      · rfl
  · exact State.servePricing_ready ready (if_neg (by simp [bad]))
  · refine State.servePricing_ready ready ?_
    rw [State.fareQuote, bad]; rfl
  · obtain rfl | rfl | rfl | rfl | rfl := hc
    · exact State.servePricing_wrong (act := State.tariffLoad h) ready
    · exact State.servePricing_wrong (act := State.daypartLoad h) ready
    · exact State.servePricing_wrong (act := State.overlaySet h) ready
    · exact State.servePricing_wrong (act := State.catalogueLoad h) ready
    · exact State.servePricing_wrong (act := State.fareQuote h) ready

/-! ## Prices (R63, R66, R71 to R75) -/

/-- Every priced line is within the ceiling (R75). -/
theorem Fau.capLine_le {f : Fau} {st : QuoteStages} {house : Bool} {a : Nat} {x y z : Bool}
    (h : f.capLine st house = .priced a x y z) : a ≤ f.settings.lineCeiling := by
  unfold Fau.capLine at h
  split at h
  · cases h; assumption
  · split at h
    · cases h; exact Nat.le_refl _
    · cases h

theorem Fau.priceSeat_le {f : Fau} {q : SeatQuery} {a : Nat} {x y z : Bool} (h : f.priceSeat q = .priced a x y z) :
    a ≤ f.settings.lineCeiling := by
  unfold Fau.priceSeat at h
  split at h
  · exact Fau.capLine_le h
  · cases h

theorem roundFare_down (q r : Nat) : roundFare .down q r = q := by
  unfold roundFare; split <;> rfl

theorem roundFare_up {q r : Nat} : roundFare .up q r = if r = 0 then q else q + 1 := rfl

theorem roundFare_nearestUp {q r : Nat} : roundFare .nearestUp q r = if r < 50000000 then q else q + 1 := by
  unfold roundFare
  by_cases h : r = 0
  · simp [h]
  · rw [if_neg h]

theorem roundFare_nearestEven {q r : Nat} : roundFare .nearestEven q r =
    if r < 50000000 ∨ r = 50000000 ∧ q % 2 = 0 then q else q + 1 := by
  unfold roundFare
  dsimp only
  split_ifs <;> omega

/-- The list of all indices, up to one of them and from there on. -/
theorem finRange_split {n : Nat} (i : Fin n) : ∃ before after, List.finRange n = before ++ i :: after ∧ ∀ j ∈ before, j < i := by
  have hi : i.val < (List.finRange n).length := by simp
  refine ⟨(List.finRange n).take i, (List.finRange n).drop (i + 1), ?_, fun j hj => ?_⟩
  · conv_lhs => rw [← List.take_append_drop i (List.finRange n), List.drop_eq_getElem_cons hi]
    simp
  · obtain ⟨k, hk, rfl⟩ := List.getElem_of_mem hj
    simp only [List.length_take, List.length_finRange] at hk
    simp only [List.getElem_take, List.getElem_finRange, Fin.lt_def, Fin.val_cast]
    omega

/-- The overlay that applies is the first that covers the line (R71). -/
theorem Fau.overlayFor_first {f : Fau} {q : SeatQuery} {i : Fin 16} {o : Overlay} (active : vget f.overlays i = some o)
    (covers : o.covers q = true) (first : ∀ j o', j < i → vget f.overlays j = some o' → o'.covers q = false) :
    f.overlayFor q = some (i, o) := by
  obtain ⟨before, after, split, lower⟩ := finRange_split i
  rw [Fau.overlayFor, List.findSome?_eq_some_iff]
  refine ⟨before, i, after, split, by simp [active, covers], fun j hj => ?_⟩
  cases e : vget f.overlays j with
  | none => rfl
  | some o' => simp [first j o' (lower j hj) e]

theorem Fau.overlayFor_none {f : Fau} {q : SeatQuery} (none : ∀ j o, vget f.overlays j = some o → o.covers q = false) :
    f.overlayFor q = .none := by
  rw [Fau.overlayFor, List.findSome?_eq_none_iff]
  intro j _
  cases e : vget f.overlays j with
  | none => rfl
  | some o => simp [none j o e]

theorem Fau.lookup_replace {f : Fau} {q : SeatQuery} {i : Fin 16} {o : Overlay} {v : Nat} (applies : f.overlayFor q = some (i, o))
    (action : o.action = .replace v) : f.lookup q = { overlay := some i, fare := some v, factor := 10000 } := by
  obtain ⟨band, kind, concession, screening, act⟩ := o
  cases action
  rw [Fau.lookup, applies]

theorem Fau.lookup_scale {f : Fau} {q : SeatQuery} {i : Fin 16} {o : Overlay} {x : Nat} (applies : f.overlayFor q = some (i, o))
    (action : o.action = .scale x) :
    f.lookup q = { overlay := some i, fare := f.entry q.band q.kind q.concession, factor := x } := by
  obtain ⟨band, kind, concession, screening, act⟩ := o
  cases action
  rw [Fau.lookup, applies]

/-! ### Dayparts (R73) -/

theorem foldl_laterDaypart (l : List Daypart) (acc : Option Daypart) :
    (l.foldl laterDaypart acc = none ↔ acc = none ∧ l = []) ∧
    ∀ b, l.foldl laterDaypart acc = some b →
      (b ∈ l ∨ acc = some b) ∧ (∀ e ∈ l, e.start ≤ b.start) ∧ ∀ a, acc = some a → a.start ≤ b.start := by
  induction l generalizing acc with
  | nil =>
    refine ⟨by simp, fun b hb => ⟨.inr hb, by simp, fun a ha => ?_⟩⟩
    rw [List.foldl_nil, ha] at hb; cases hb; exact Nat.le_refl _
  | cons d l ih =>
    obtain ⟨empty, best⟩ := ih (laterDaypart acc d)
    have some_ : laterDaypart acc d ≠ none := by
      unfold laterDaypart; split
      · simp
      · split <;> simp
    refine ⟨⟨fun h => absurd (empty.1 h).1 some_, fun h => by cases h.2⟩, fun b hb => ?_⟩
    obtain ⟨mem, upper, later⟩ := best b hb
    have step : laterDaypart acc d = some d ∧ (∀ a, acc = some a → a.start ≤ d.start) ∨
        laterDaypart acc d = acc ∧ ∀ a, acc = some a → d.start ≤ a.start := by
      unfold laterDaypart
      cases acc with
      | none => simp
      | some a => by_cases h : a.start < d.start <;> simp [h] <;> omega
    obtain ⟨e, lower⟩ | ⟨e, lower⟩ := step
    · have hd := later d e
      refine ⟨.inl (mem.elim (List.mem_cons_of_mem _) fun h => ?_), ?_, fun a ha => (lower a ha).trans hd⟩
      · rw [e] at h; cases h; exact List.mem_cons_self
      · rintro x hx
        obtain rfl | hx := List.mem_cons.1 hx
        · exact hd
        · exact upper x hx
    · refine ⟨mem.imp (List.mem_cons_of_mem _) fun h => e ▸ h, ?_, fun a ha => later a (e.trans ha)⟩
      rintro x hx
      obtain rfl | hx := List.mem_cons.1 hx
      · cases ha : acc with
        | none => exact absurd (e.trans ha) some_
        | some a => exact (lower a ha).trans (later a (e.trans ha))
      · exact upper x hx

/-- The dayparts that have begun by a minute (R73). -/
def Fau.begun (f : Fau) (minute : Nat) : List Daypart := (f.dayparts.toList.filterMap id).filter (·.start ≤ minute)

theorem Fau.mem_begun {f : Fau} {minute : Nat} {p : Daypart} :
    p ∈ f.begun minute ↔ (∃ k, vget f.dayparts k = some p) ∧ p.start ≤ minute := by
  simp only [Fau.begun, List.mem_filter, List.mem_filterMap, id_eq, exists_eq_right, decide_eq_true_eq, Vector.mem_toList_iff]
  refine and_congr_left fun _ => ⟨fun h => ?_, ?_⟩
  · obtain ⟨k, hk, e⟩ := Vector.getElem_of_mem h
    exact ⟨⟨k, hk⟩, e⟩
  · rintro ⟨k, e⟩
    exact e ▸ Vector.getElem_mem _

theorem Fau.daypartFactor_latest {f : Fau} {minute : Nat} {k : Fin 4} {p : Daypart} (valid : vget f.dayparts k = some p)
    (begun : p.start ≤ minute)
    (latest : ∀ j e, j ≠ k → vget f.dayparts j = some e → e.start ≤ minute → e.start < p.start) :
    f.daypartFactor minute = p.factor := by
  obtain ⟨empty, best⟩ := foldl_laterDaypart (f.begun minute) none
  have mem := Fau.mem_begun.2 ⟨⟨k, valid⟩, begun⟩
  change (match (f.begun minute).foldl laterDaypart none with | some d => d.factor | none => 10000) = _
  cases e : (f.begun minute).foldl laterDaypart none with
  | none => rw [(empty.1 e).2] at mem; cases mem
  | some b =>
    obtain ⟨from_, upper, -⟩ := best b e
    obtain ⟨⟨j, hj⟩, hb⟩ := Fau.mem_begun.1 (from_.resolve_right nofun)
    by_cases same : j = k
    · subst same
      rw [hj] at valid; cases valid; rfl
    · have := latest j b same hj hb
      have := upper p mem
      omega

theorem Fau.daypartFactor_none {f : Fau} {minute : Nat} (none : ∀ k p, vget f.dayparts k = some p → minute < p.start) :
    f.daypartFactor minute = 10000 := by
  have empty : f.begun minute = [] := List.eq_nil_iff_forall_not_mem.2 fun p hp => by
    obtain ⟨⟨k, hk⟩, begun⟩ := Fau.mem_begun.1 hp
    have := none k p hk
    omega
  change (match (f.begun minute).foldl laterDaypart .none with | some d => d.factor | .none => 10000) = _
  rw [empty]; rfl

/-- A contained tax is the nearest whole amount, halves up (R79). -/
theorem containedTax_nearest (amount rate : Nat) :
    2 * (amount * rate) < 2 * containedTax amount rate * (10000 + rate) + (10000 + rate) ∧
    2 * containedTax amount rate * (10000 + rate) ≤ 2 * (amount * rate) + (10000 + rate) := by
  unfold containedTax
  generalize amount * rate = n
  have pos : 0 < 10000 + rate := by omega
  generalize 10000 + rate = d at *
  have whole := Nat.div_add_mod n d
  have rem := Nat.mod_lt n pos
  dsimp only
  split
  · rw [show 2 * (n / d + 1) * d = 2 * (d * (n / d)) + 2 * d by ring]; omega
  · rw [show 2 * (n / d) * d = 2 * (d * (n / d)) by ring]; omega

theorem Fau.entry_eq (f : Fau) (b : Fin 8) (k : SeatKind) (c : Concession) (n : Fin 24)
    (hn : n.val = 6 * seatKindCode k + concessionCode c) : f.entry b.val k c = vget (vget f.tariff b) n := by
  unfold Fau.entry
  rw [← hn]
  simp [vget]

/-- Settles O29. -/
theorem pricesAndTotals : Obligations.PricesAndTotals := by
  unfold Obligations.PricesAndTotals
  refine ⟨⟨fun f q a x y z h => Fau.priceSeat_le h, fun f q fare factor => ?_, fun f q fare house found => ?_,
    fun f q empty unmasked => ?_, fun f q i o active covers first => ⟨fun v hv => ?_, fun x hx => ?_⟩, fun f q none => ?_,
    Fau.entry_eq, fun f minute => ⟨fun k p => Fau.daypartFactor_latest, Fau.daypartFactor_none⟩⟩,
    fun f lines => ⟨rfl, rfl, rfl, rfl, decide_eq_true_iff, rfl, rfl⟩, containedTax_nearest⟩
  · intro p a
    have split : p / 100000000 * 100000000 + p % 100000000 = p := by omega
    have rem : p % 100000000 < 100000000 := Nat.mod_lt _ (by decide)
    refine ⟨fun mode => ?_, fun mode => ?_, fun mode => ?_, fun mode => ?_, rfl, rfl⟩
    · have ha : a = p / 100000000 := by simp only [a, Fau.stages, mode, roundFare_down]; rfl
      omega
    · have ha : a = if p % 100000000 = 0 then p / 100000000 else p / 100000000 + 1 := by
        simp only [a, Fau.stages, mode, roundFare_up]; rfl
      split_ifs at ha <;> omega
    · have ha : a = if p % 100000000 < 50000000 then p / 100000000 else p / 100000000 + 1 := by
        simp only [a, Fau.stages, mode, roundFare_nearestUp]; rfl
      split_ifs at ha <;> omega
    · have ha : a = if p % 100000000 < 50000000 ∨ p % 100000000 = 50000000 ∧ p / 100000000 % 2 = 0 then p / 100000000
          else p / 100000000 + 1 := by
        simp only [a, Fau.stages, mode, roundFare_nearestEven]; rfl
      split_ifs at ha <;> omega
  · intro st
    have stages : f.seatStages q = some st ∧ (f.lookup q).fare.isNone = house := by
      obtain ⟨fare', rfl⟩ | ⟨empty, masked, rfl, rfl⟩ := found
      · simp [Fau.seatStages, fare', st]
      · simp [Fau.seatStages, empty, masked, st]
    have price : f.priceSeat q = f.capLine st house := by rw [Fau.priceSeat, stages.1, stages.2]
    rw [price]
    refine ⟨fun le => if_pos le, fun gt => ⟨fun masked => ?_, fun unmasked => ?_⟩⟩
    · rw [Fau.capLine, if_neg (Nat.not_le.2 gt), if_pos masked]
    · rw [Fau.capLine, if_neg (Nat.not_le.2 gt), if_neg (by simp [unmasked])]
  · simp [Fau.priceSeat, Fau.seatStages, empty, unmasked]
  · exact Fau.lookup_replace (Fau.overlayFor_first active covers first) hv
  · exact Fau.lookup_scale (Fau.overlayFor_first active covers first) hx
  · simp [Fau.lookup, Fau.overlayFor_none none]

end Sys2Proof.Machine
end

section
/-! The host's seat operations (R18 to R20). -/

namespace Sys2Proof.Machine

/-! ## Seats blocked and unblocked (R18) -/

section
variable {l : Layout} {old new : SeatState} {code : Code}

/-- Whether a seat of a list is in the state from which it is moved. -/
def movable (l : Layout) (old : SeatState) (sc : Screening) (a : SeatAddr) : Prop :=
  l.seatExists a = true ∧ sc.stateAt a = some old

/-- A seat is moved, or refused (R18). -/
theorem moveSeat_cases (l : Layout) (old new : SeatState) (code : Code) (acc : Screening × List RefusedSeat) (a : SeatAddr) :
    movable l old acc.1 a ∧ moveSeat l old new code acc a = (acc.1.setSeat a new, acc.2) ∨
      ¬ movable l old acc.1 a ∧ ∃ x, moveSeat l old new code acc a = (acc.1, acc.2 ++ [x]) := by
  unfold moveSeat movable
  cases seat : l.seatExists a with
  | false => exact .inr ⟨by simp, _, rfl⟩
  | true =>
    cases state : acc.1.stateAt a with
    | none => exact .inr ⟨by simp, _, rfl⟩
    | some st =>
      by_cases e : st = old
      · exact .inl ⟨⟨rfl, by rw [e]⟩, if_pos e⟩
      · exact .inr ⟨by simpa using e, _, if_neg e⟩

/-- One moved seat leaves every other as it was. -/
theorem movable_setSeat {sc : Screening} {a b : SeatAddr} (other : b ≠ a) :
    movable l old (sc.setSeat a new) b ↔ movable l old sc b := by
  unfold movable
  rw [Screening.stateAt_setSeat, if_neg other]

open Classical in
/-- What taking a list of seats one at a time comes to (R18): the seats that could be moved are, and no other. -/
theorem moveSeats_stateAt (hne : old ≠ new) (seats : List SeatAddr) (acc : Screening × List RefusedSeat) (a : SeatAddr) :
    (seats.foldl (moveSeat l old new code) acc).1.stateAt a =
      if a ∈ seats ∧ movable l old acc.1 a then some new else acc.1.stateAt a := by
  induction seats generalizing acc with
  | nil => simp
  | cons b seats ih =>
    rw [List.foldl_cons, ih]
    obtain ⟨can, h⟩ | ⟨cannot, x, h⟩ := moveSeat_cases l old new code acc b <;> rw [h]
    · by_cases e : a = b
      · subst e
        have now : (acc.1.setSeat a new).stateAt a = some new := by rw [Screening.stateAt_setSeat, if_pos rfl, can.2]; rfl
        have done : ¬ movable l old (acc.1.setSeat a new) a := fun m => by
          have := m.2.symm.trans now
          exact hne (Option.some.inj this)
        rw [if_neg fun m => done m.2, if_pos ⟨List.mem_cons_self, can⟩, now]
      · simp only [movable_setSeat e, List.mem_cons, e, false_or]
        rw [Screening.stateAt_setSeat, if_neg e]
    · by_cases e : a = b
      · subst e
        rw [if_neg fun m => cannot m.2, if_neg fun m => cannot m.2]
      · simp only [List.mem_cons, e, false_or]

theorem moveSeats_state (seats : List SeatAddr) (acc : Screening × List RefusedSeat) :
    (seats.foldl (moveSeat l old new code) acc).1.state = acc.1.state := by
  induction seats generalizing acc with
  | nil => rfl
  | cons b seats ih =>
    rw [List.foldl_cons, ih]
    obtain ⟨-, h⟩ | ⟨-, x, h⟩ := moveSeat_cases l old new code acc b <;> rw [h]
    exact Screening.setSeat_state _ _ _

/-- A refused seat stays in the reply. -/
theorem moveSeats_refused (seats : List SeatAddr) (acc : Screening × List RefusedSeat) (some_ : acc.2 ≠ []) :
    (seats.foldl (moveSeat l old new code) acc).2 ≠ [] := by
  induction seats generalizing acc with
  | nil => exact some_
  | cons b seats ih =>
    rw [List.foldl_cons]
    refine ih _ ?_
    obtain ⟨-, h⟩ | ⟨-, x, h⟩ := moveSeat_cases l old new code acc b <;> rw [h]
    · exact some_
    · simp

theorem moveSeats_all {seats : List SeatAddr} (distinct : seats.Nodup) {acc : Screening × List RefusedSeat}
    (all : ∀ a ∈ seats, movable l old acc.1 a) : (seats.foldl (moveSeat l old new code) acc).2 = acc.2 := by
  induction seats generalizing acc with
  | nil => rfl
  | cons b seats ih =>
    obtain ⟨fresh, rest⟩ := List.nodup_cons.1 distinct
    obtain ⟨-, h⟩ | ⟨cannot, -⟩ := moveSeat_cases l old new code acc b
    · rw [List.foldl_cons, h]
      refine ih rest fun a ha => ?_
      rw [movable_setSeat fun e : a = b => fresh (e ▸ ha)]
      exact all a (List.mem_cons_of_mem _ ha)
    · exact absurd (all b List.mem_cons_self) cannot

theorem moveSeats_some {seats : List SeatAddr} {acc : Screening × List RefusedSeat} {a : SeatAddr} (ha : a ∈ seats)
    (cannot : ¬ movable l old acc.1 a) : (seats.foldl (moveSeat l old new code) acc).2 ≠ [] := by
  induction seats generalizing acc with
  | nil => cases ha
  | cons b seats ih =>
    rw [List.foldl_cons]
    obtain ⟨can, h⟩ | ⟨-, x, h⟩ := moveSeat_cases l old new code acc b <;> rw [h]
    · have other : a ≠ b := fun e => cannot (e ▸ can)
      exact ih ((List.mem_cons.1 ha).resolve_left other) (by rwa [movable_setSeat other])
    · exact moveSeats_refused _ _ (by simp)

end

/-- What a SEAT_BLOCK or SEAT_UNBLOCK leaves (R18). -/
theorem State.moveSeats_moved {s t : State} {h : HostTag} {i : Fin 16} {sc : Screening} {old new : SeatState} {code : Code}
    {seats : List SeatAddr} (hne : old ≠ new) (layout : ∀ j, t.layout j = s.layout j) (screening : ∀ j, t.screening j = s.screening j)
    (basket : ∀ d, t.basket d = s.basket d) (kept : keptBut [.sbu, .orders] s t) :
    ∃ (u : State) (y : Screening) (c : Code) (data : HostData),
      (t.moveSeats h i sc old new code seats).done = .next ((u.replyHost h c data).transmit) ∧ u.screening i = some y ∧
      (noRepeats seats = true →
        (∀ a ∈ seats, (s.layout sc.layout).seatExists a = true ∧ sc.stateAt a = some old) → c = .ok) ∧
      (∀ a ∈ seats, (s.layout sc.layout).seatExists a = false ∨ sc.stateAt a ≠ some old → c = .partialDone) ∧
      (∀ a, y.stateAt a = if a ∈ seats ∧ (s.layout sc.layout).seatExists a = true ∧ sc.stateAt a = some old then some new
        else sc.stateAt a) ∧
      y.state = sc.state ∧ screeningsKeptBut i s u ∧ (∀ d, u.basket d = s.basket d) ∧ keptBut [.sbu, .orders] s u := by
  set r := seats.foldl (moveSeat (t.layout sc.layout) old new code) (sc, []) with hr
  have frame : screeningsKeptBut i s (t.setScreening i (some r.1)) ∧ (∀ d, (t.setScreening i (some r.1)).basket d = s.basket d) ∧
      keptBut [.sbu, .orders] s (t.setScreening i (some r.1)) :=
    ⟨fun j hj => (State.setScreening_screening_ne _ _ _ hj).trans (screening j), basket,
      kept.trans (State.setScreening_kept _ _ _ (by decide))⟩
  have states : ∀ a, r.1.stateAt a =
      if a ∈ seats ∧ (s.layout sc.layout).seatExists a = true ∧ sc.stateAt a = some old then some new else sc.stateAt a := by
    intro a
    rw [hr, moveSeats_stateAt hne, layout]
    by_cases m : a ∈ seats ∧ movable (s.layout sc.layout) old sc a
    · rw [if_pos m]; exact (if_pos m).symm
    · rw [if_neg m]; exact (if_neg m).symm
  have state : r.1.state = sc.state := by rw [hr, moveSeats_state]
  by_cases all : r.2 = []
  · refine ⟨t.setScreening i (some r.1), r.1, .ok, .none, congrArg State.done (if_pos (by rw [← hr, all]; rfl)), by simp,
      fun _ _ => rfl, fun a ha bad => ?_, states, state, frame⟩
    refine absurd all (moveSeats_some ha fun m => ?_)
    rw [layout] at m
    obtain bad | bad := bad
    · rw [m.1] at bad; cases bad
    · exact bad m.2
  · refine ⟨t.setScreening i (some r.1), r.1, .partialDone, .refused r.2, congrArg State.done (if_neg ?_), by simp,
      fun distinct good => ?_, fun _ _ _ => rfl, states, state, frame⟩
    · rw [← hr]; simpa using all
    · refine absurd (moveSeats_all (noRepeats_iff.1 distinct) fun a ha => ?_) all
      rw [layout]
      exact good a ha

theorem State.onSeats_found {s : State} {h : HostTag} {n : Nat} {seats : List SeatAddr} {act : Fin 16 → Screening → State}
    {i : Fin 16} {sc : Screening} (ok : seatListOk seats = true) (found : s.findScreening n = some (i, sc)) :
    s.onSeats h n seats act = act i sc := by
  rw [State.onSeats, if_pos ok, State.onScreening, found]

/-- Settles O25. -/
theorem seatBlockAndUnblock : Obligations.SeatBlockAndUnblock := by
  unfold Obligations.SeatBlockAndUnblock
  intro h r i sc s ready ok found
  have moved : ∀ (c : Instr) (old new : SeatState) (code : Code), old ≠ new → _ := fun c old new code hne =>
    State.moveSeats_moved (s := s) (t := s.accept c) (h := h) (i := i) (sc := sc) (code := code) (seats := r.seats) (new := new) hne
      (fun _ => rfl) (fun _ => rfl) (fun _ => rfl) (s.accept_kept c (by decide))
  constructor
  · obtain ⟨u, y, c, data, run, rest⟩ := moved (.seatBlock h (some r)) .free .blocked .notFree nofun
    refine ⟨u, y, c, data, ?_, rest⟩
    rw [← run]
    exact State.serve_ready ready (State.onSeats_found (s := s.accept (.seatBlock h (some r))) ok found)
  · obtain ⟨u, y, c, data, run, rest⟩ := moved (.seatUnblock h (some r)) .blocked .free .notBlocked nofun
    refine ⟨u, y, c, data, ?_, rest⟩
    rw [← run]
    exact State.serve_ready ready (State.onSeats_found (s := s.accept (.seatUnblock h (some r))) ok found)

/-! ## Seats sold to the house and refunded (R19, R20) -/

theorem Screening.setSeats_stateAt (sc : Screening) (l : List SeatAddr) (new : SeatState) (a : SeatAddr) :
    (sc.setSeats l new).stateAt a = if a ∈ l then (sc.stateAt a).map fun _ => new else sc.stateAt a := by
  induction l generalizing sc with
  | nil => simp [Screening.setSeats]
  | cons b l ih =>
    change ((sc.setSeat b new).setSeats l new).stateAt a = _
    rw [ih, Screening.stateAt_setSeat]
    by_cases e : a = b
    · subst e
      by_cases m : a ∈ l <;> simp [m, Option.map_map, Function.comp_def]
    · simp [e]

theorem firstMissing_none {l : Layout} {seats : List SeatAddr} (all : ∀ a ∈ seats, l.seatExists a = true) :
    firstMissing l seats = none := by
  rw [firstMissing, List.find?_eq_none]
  intro a ha; simp [all a ha]

theorem firstInState_eq_none {sc : Screening} {p : SeatState → Bool} {seats : List SeatAddr}
    (all : ∀ a ∈ seats, ∀ st, sc.stateAt a = some st → p st = false) : firstInState sc p seats = none := by
  rw [firstInState, List.findSome?_eq_none_iff]
  intro a ha
  cases e : sc.stateAt a with
  | none => rfl
  | some st => simp [all a ha st e]

theorem firstInState_some {sc : Screening} {p : SeatState → Bool} {seats : List SeatAddr} {a : SeatAddr} {st : SeatState}
    (ha : a ∈ seats) (state : sc.stateAt a = some st) (hp : p st = true) : ∃ x, firstInState sc p seats = some x := by
  cases e : firstInState sc p seats with
  | some x => exact ⟨x, rfl⟩
  | none => rw [firstInState_none e ha state] at hp; cases hp

/-- The seats of a list are all SOLD, so each gives an entry of the refund (R20). -/
theorem refunds_length {sc : Screening} {seats : List SeatAddr} (sold : ∀ a ∈ seats, ∃ n o, sc.stateAt a = some (.sold n o)) :
    (seats.filterMap (refundOf sc)).length = seats.length := by
  induction seats with
  | nil => rfl
  | cons a seats ih =>
    obtain ⟨n, o, state⟩ := sold a List.mem_cons_self
    have head : refundOf sc a = some { addr := a, sale := n, origin := o } := by simp [refundOf, state]
    rw [List.filterMap_cons_some head, List.length_cons, List.length_cons, ih fun b hb => sold b (List.mem_cons_of_mem _ hb)]

theorem refundOf_eq_some {sc : Screening} {a : SeatAddr} {x : RefundedSeat} (h : refundOf sc a = some x) :
    x.addr = a ∧ sc.stateAt a = some (.sold x.sale x.origin) := by
  unfold refundOf at h
  split at h
  · cases h; exact ⟨rfl, by assumption⟩
  · cases h

/-- What every seat of a list becomes, when each has a record (R19, R20). -/
theorem Screening.setSeats_states {sc : Screening} {l : List SeatAddr} (there : ∀ a ∈ l, (sc.stateAt a).isSome = true) (new : SeatState) :
    (∀ a ∈ l, (sc.setSeats l new).stateAt a = some new) ∧ seatsKeptBut l sc (sc.setSeats l new) := by
  refine ⟨fun a ha => ?_, fun a ha => by rw [Screening.setSeats_stateAt, if_neg ha]⟩
  obtain ⟨st, hst⟩ := Option.isSome_iff_exists.1 (there a ha)
  rw [Screening.setSeats_stateAt, if_pos ha, hst]; rfl

theorem State.setScreening_frame (s : State) (i : Fin 16) (o : Option Screening) (c : Instr) :
    screeningsKeptBut i s ((s.accept c).setScreening i o) ∧ keptBut [.sbu, .orders] s ((s.accept c).setScreening i o) :=
  ⟨fun _ hj => State.setScreening_screening_ne _ _ _ hj, (s.accept_kept c (by decide)).trans (State.setScreening_kept _ _ _ (by decide))⟩

section
variable {t : State} {h : HostTag} {i : Fin 16} {sc : Screening}

/-- SEAT_SELL past its checks of the form, the screening and the seats' existence (R19). -/
theorem State.seatSell_sold {r : SeatSellReq} (ok : seatListOk r.seats = true) (sale : 1 ≤ r.sale ∧ r.sale ≤ 4294967295)
    (distinct : noRepeats r.seats = true) (found : t.findScreening r.screening = some (i, sc))
    (state : sc.state = .onSale ∨ sc.state = .closing) (there : ∀ a ∈ r.seats, (t.layout sc.layout).seatExists a = true)
    (free : firstInState sc SeatState.taken r.seats = none) :
    State.seatSell h r t = (t.setScreening i (some (sc.setSeats r.seats (.sold r.sale .house)))).replyHost h .ok .none := by
  refine (State.onSeats_found ok found).trans ?_
  rw [if_neg (by rw [distinct]; simp; omega), if_neg (by rintro e; simp [e] at state), if_neg (by rintro e; simp [e] at state),
    firstMissing_none there, free]

theorem State.seatSell_notFree {r : SeatSellReq} (ok : seatListOk r.seats = true) (sale : 1 ≤ r.sale ∧ r.sale ≤ 4294967295)
    (distinct : noRepeats r.seats = true) (found : t.findScreening r.screening = some (i, sc))
    (state : sc.state = .onSale ∨ sc.state = .closing) (there : ∀ a ∈ r.seats, (t.layout sc.layout).seatExists a = true)
    {x : SeatAddr × SeatState} (taken : firstInState sc SeatState.taken r.seats = some x) :
    State.seatSell h r t = t.replyHost h .notFree (.seatState x.1 (shown x.2)) := by
  refine (State.onSeats_found ok found).trans ?_
  rw [if_neg (by rw [distinct]; simp; omega), if_neg (by rintro e; simp [e] at state), if_neg (by rintro e; simp [e] at state),
    firstMissing_none there, taken]

theorem State.seatRefund_refunded {r : SeatListReq} (ok : seatListOk r.seats = true) (distinct : noRepeats r.seats = true)
    (found : t.findScreening r.screening = some (i, sc)) (state : sc.state ≠ .loaded)
    (there : ∀ a ∈ r.seats, (t.layout sc.layout).seatExists a = true)
    (sold : firstInState sc (fun st => !st.isSold) r.seats = none) :
    State.seatRefund h r t =
      (t.setScreening i (some (sc.setSeats r.seats .free))).replyHost h .ok (.refunded (r.seats.filterMap (refundOf sc))) := by
  refine (State.onSeats_found ok found).trans ?_
  rw [if_neg (by rw [distinct]; decide), if_neg state, firstMissing_none there, sold]

theorem State.seatRefund_notSold {r : SeatListReq} (ok : seatListOk r.seats = true) (distinct : noRepeats r.seats = true)
    (found : t.findScreening r.screening = some (i, sc)) (state : sc.state ≠ .loaded)
    (there : ∀ a ∈ r.seats, (t.layout sc.layout).seatExists a = true) {x : SeatAddr × SeatState}
    (other : firstInState sc (fun st => !st.isSold) r.seats = some x) :
    State.seatRefund h r t = t.replyHost h .notSold (.seatState x.1 (shown x.2)) := by
  refine (State.onSeats_found ok found).trans ?_
  rw [if_neg (by rw [distinct]; decide), if_neg state, firstMissing_none there, other]

end

/-- Settles O26. -/
theorem seatSellAndRefund : Obligations.SeatSellAndRefund := by
  unfold Obligations.SeatSellAndRefund
  refine ⟨fun h r i sc s ready ok sale sale' distinct found state there => ⟨fun free => ?_, fun ⟨a, ha, st, hst, taken⟩ => ?_⟩,
    fun h r i sc s ready ok distinct found state there => ⟨fun sold => ?_, fun ⟨a, ha, st, hst, other⟩ => ?_⟩⟩
  · obtain ⟨states, others⟩ := Screening.setSeats_states (fun a ha => (there a ha).2) (.sold r.sale .house)
    obtain ⟨screenings, kept⟩ := s.setScreening_frame i (some (sc.setSeats r.seats (.sold r.sale .house))) (.seatSell h (some r))
    refine ⟨_, _, State.serve_ready ready ?_, State.setScreening_screening_same _ _ _, states, others, screenings, fun _ => rfl, kept⟩
    exact State.seatSell_sold (t := s.accept (.seatSell h (some r))) ok ⟨sale, sale'⟩ distinct found state (fun a ha => (there a ha).1)
      (firstInState_eq_none free)
  · obtain ⟨x, hx⟩ := firstInState_some ha hst taken
    exact ⟨_, State.serve_ready ready (State.seatSell_notFree (t := s.accept (.seatSell h (some r))) ok ⟨sale, sale'⟩ distinct found
      state (fun a ha => (there a ha).1) hx)⟩
  · obtain ⟨states, others⟩ := Screening.setSeats_states (fun a ha => (there a ha).2) .free
    obtain ⟨screenings, kept⟩ := s.setScreening_frame i (some (sc.setSeats r.seats .free)) (.seatRefund h (some r))
    refine ⟨_, _, r.seats.filterMap (refundOf sc), State.serve_ready ready ?_, State.setScreening_screening_same _ _ _, states, others,
      fun x hx => ?_, refunds_length fun a ha => ?_, screenings, kept⟩
    · exact State.seatRefund_refunded (t := s.accept (.seatRefund h (some r))) ok distinct found state (fun a ha => (there a ha).1)
        (firstInState_eq_none fun a ha st hst => by rw [sold a ha st hst]; rfl)
    · obtain ⟨a, ha, e⟩ := List.mem_filterMap.1 hx
      obtain ⟨rfl, state⟩ := refundOf_eq_some e
      exact ⟨ha, state⟩
    · obtain ⟨st, hst⟩ := Option.isSome_iff_exists.1 (there a ha).2
      cases st with
      | sold n o => exact ⟨n, o, hst⟩
      | _ => cases sold a ha _ hst
  · obtain ⟨x, hx⟩ := firstInState_some (p := fun st => !st.isSold) ha hst (by rw [other]; rfl)
    exact ⟨_, State.serve_ready ready (State.seatRefund_notSold (t := s.accept (.seatRefund h (some r))) ok distinct found state
      (fun a ha => (there a ha).1) hx)⟩

end Sys2Proof.Machine
end

section
/-! Screenings loaded, moved and closed (R7 to R14). -/

namespace Sys2Proof.Machine

/-! ## What an operation on one basket leaves of the others -/

section
variable (s : State) (d e : Drop)

theorem State.releaseLines_basket (ls : List BasketLine) : (s.releaseLines ls).basket e = s.basket e :=
  (State.releaseLines_sameBaskets ls s).1 e

theorem State.releaseLines_setBasket_basket (ls : List BasketLine) (b : Basket) :
    ((s.releaseLines ls).setBasket d b).basket e = if e = d then b else s.basket e := by
  by_cases h : e = d
  · subst h; rw [State.setBasket_basket_same, if_pos rfl]
  · rw [State.setBasket_basket_ne _ _ _ h, State.releaseLines_basket, if_neg h]

theorem State.reprice_basket : (s.reprice d).basket e = if e = d then (s.repricedBasket (s.basket d)).settled s.fau else s.basket e :=
  s.releaseLines_setBasket_basket d e _ _

theorem State.pushBasket_basket (r : PushReason) : (s.pushBasket d r).basket e = (s.repriceForPush d).basket e := State.place_basket ..

variable {d e}

theorem State.pushBasket_basket_ne (r : PushReason) (h : e ≠ d) : (s.pushBasket d r).basket e = s.basket e := by
  rw [State.pushBasket_basket]
  unfold State.repriceForPush
  split
  · rw [State.reprice_basket, if_neg h]
  · rfl

theorem State.closeForBasket_basket_ne (n : Nat) (h : e ≠ d) : (State.closeForBasket n s d).basket e = s.basket e := by
  unfold State.closeForBasket
  dsimp only
  split
  · rw [State.pushBasket_basket_ne _ _ h, State.releaseLines_setBasket_basket, if_neg h]
  · rfl

end

/-- An operation on every drop that leaves the other drops as they are acts once on each. -/
theorem foldl_own {α : Type} {P : State → Prop} {view : State → Drop → α} {f : State → Drop → State}
    (keeps : ∀ t d, P t → P (f t d)) (others : ∀ t d e, e ≠ d → view (f t d) e = view t e) {ds : List Drop} (distinct : ds.Nodup)
    {d : Drop} (hd : d ∈ ds) {s : State} (hs : P s) :
    ∃ t, P t ∧ view t d = view s d ∧ view (ds.foldl f s) d = view (f t d) d := by
  have after : ∀ (l : List Drop) (t : State), d ∉ l → view (l.foldl f t) d = view t d := by
    intro l
    induction l with
    | nil => exact fun _ _ => rfl
    | cons x l ih =>
      intro t h
      rw [List.mem_cons, not_or] at h
      exact (ih _ h.2).trans (others t x d h.1)
  induction ds generalizing s with
  | nil => cases hd
  | cons x ds ih =>
    obtain ⟨fresh, rest⟩ := List.nodup_cons.1 distinct
    by_cases here : d = x
    · subst here
      exact ⟨s, hs, rfl, after ds _ fresh⟩
    · obtain ⟨t, ht, same, last⟩ := ih rest ((List.mem_cons.1 hd).resolve_left here) (keeps s x hs)
      exact ⟨t, ht, same.trans (others s x d here), last⟩

/-! ## The lines of a screening that closes (R12) -/

theorem settled_inScreening {b : Basket} {f : Fau} {n : Nat} (h : ∀ l ∈ b.lines, l.inScreening n = false) :
    ∀ l ∈ (b.settled f).lines, l.inScreening n = false := by
  intro l hl
  unfold Basket.settled at hl
  split at hl
  · exact h l hl
  · cases hl

theorem BasketLine.repriced_inScreening {n g : Nat} {l : BasketLine} {o : Option LineOutcome} (h : l.inScreening n = false) :
    (l.repriced g o).inScreening n = false := by
  unfold BasketLine.repriced
  split <;> first | exact h | rfl

/-- A push brings no line of a screening back. -/
theorem State.pushBasket_inScreening {s : State} {d : Drop} {n : Nat} (r : PushReason)
    (h : ∀ l ∈ (s.basket d).lines, l.inScreening n = false) :
    ∀ l ∈ ((s.pushBasket d r).basket d).lines, l.inScreening n = false := by
  rw [State.pushBasket_basket]
  unfold State.repriceForPush
  split
  · rw [State.reprice_basket, if_pos rfl]
    refine settled_inScreening fun l hl => ?_
    obtain ⟨m, hm, rfl⟩ := List.mem_map.1 hl
    exact BasketLine.repriced_inScreening (h m hm)
  · exact h

theorem voidLinesOf_inScreening (n : Nat) (ls : List BasketLine) : ∀ l ∈ voidLinesOf n ls, l.inScreening n = false := by
  intro l hl
  obtain ⟨m, -, rfl⟩ := List.mem_map.1 hl
  cases h : m.inScreening n
  · exact h
  · rfl

theorem State.closeForBasket_notOpen {s : State} {d : Drop} (n : Nat) (h : (s.basket d).state ≠ .opened) :
    State.closeForBasket n s d = s := if_neg fun hit => h hit.1

theorem State.closeForBasket_inScreening {s : State} {d : Drop} {n : Nat} (h : (s.basket d).state = .opened) :
    ∀ l ∈ ((State.closeForBasket n s d).basket d).lines, l.inScreening n = false := by
  unfold State.closeForBasket
  dsimp only
  split
  · refine State.pushBasket_inScreening _ fun l hl => ?_
    rw [State.setBasket_basket_same] at hl
    exact settled_inScreening (voidLinesOf_inScreening n _) l hl
  · rename_i miss
    rw [not_and] at miss
    simpa using miss h

/-- The entry to CLOSING, the baskets, and the closing test (R9, R12, R13). -/
theorem State.enterClosing_eq (s : State) (i : Fin 16) (sc : Screening) :
    ∃ ds : List Drop, ds.Nodup ∧ (∀ d, d ∈ ds) ∧ s.enterClosing i sc =
      (ds.foldl (State.closeForBasket sc.number) ((s.setScreening i (some { sc with state := .closing })).raise .screening)).closeTest i :=
  ⟨_, List.nodup_finRange 16, List.mem_finRange, rfl⟩

/-- What a closing leaves of the baskets: of an OPEN one no line of the screening, any other as it was (R12). -/
theorem State.enterClosing_baskets (s : State) (i : Fin 16) (sc : Screening) (d : Drop) :
    ((s.basket d).state ≠ .opened → (s.enterClosing i sc).basket d = s.basket d) ∧
    ((s.basket d).state = .opened → ∀ l ∈ ((s.enterClosing i sc).basket d).lines, l.inScreening sc.number = false) := by
  obtain ⟨ds, distinct, all, e⟩ := s.enterClosing_eq i sc
  obtain ⟨t, -, same, last⟩ := foldl_own (P := fun _ => True) (view := State.basket) (f := State.closeForBasket sc.number)
    (fun _ _ _ => trivial) (fun t _ _ h => t.closeForBasket_basket_ne sc.number h) distinct (all d)
    (s := (s.setScreening i (some { sc with state := .closing })).raise .screening) trivial
  have now : (s.enterClosing i sc).basket d = (State.closeForBasket sc.number t d).basket d := by
    rw [e, State.closeTest_basket]; exact last
  have same : t.basket d = s.basket d := same
  rw [now, ← same]
  exact ⟨fun other => by rw [State.closeForBasket_notOpen _ other], State.closeForBasket_inScreening⟩

/-! ## The screening that closes (R13) -/

/-- A screening that has entered CLOSING, seats of it becoming FREE since. -/
structure closingFrom (sc y : Screening) : Prop where
  number : y.number = sc.number
  layout : y.layout = sc.layout
  withdrawn : y.withdrawn = sc.withdrawn
  state : y.state = .closing ∨ y.state = .closed ∧ y.counts.held = 0
  seats : ∀ a, y.stateAt a = sc.stateAt a ∨ y.stateAt a = some .free

theorem closingFrom.begun (sc : Screening) : closingFrom sc { sc with state := .closing } :=
  ⟨rfl, rfl, rfl, .inl rfl, fun _ => .inl rfl⟩

theorem Screening.tested_withdrawn (sc : Screening) : sc.tested.withdrawn = sc.withdrawn := by unfold Screening.tested; split <;> rfl

theorem closingFrom.tested {sc y : Screening} (h : closingFrom sc y) : closingFrom sc y.tested := by
  obtain ⟨number, layout, withdrawn, state, seats⟩ := h
  refine ⟨y.tested_number.trans number, y.tested_layout.trans layout, y.tested_withdrawn.trans withdrawn, ?_,
    fun a => by rw [Screening.tested_stateAt]; exact seats a⟩
  unfold Screening.tested
  split
  · exact .inr ⟨rfl, And.right ‹_›⟩
  · exact state

theorem closingFrom.freed {sc y : Screening} (h : closingFrom sc y) (a : SeatAddr) : closingFrom sc (y.setSeat a .free) := by
  obtain ⟨number, layout, withdrawn, state, seats⟩ := h
  refine ⟨by simpa using number, by simpa using layout, by rw [Screening.setSeat_form]; exact withdrawn, ?_, fun b => ?_⟩
  · rw [Screening.setSeat_state]
    exact state.imp_right fun ⟨closed, zero⟩ => ⟨closed, Screening.setSeat_held y a zero⟩
  · rw [Screening.stateAt_setSeat]
    split
    · rename_i here
      subst here
      cases e : y.stateAt b with
      | none => exact .inl ((e ▸ seats b).resolve_right nofun)
      | some _ => exact .inr rfl
    · exact seats b

/-- Once tested, it is CLOSED exactly when no seat of it is held (R13). -/
theorem closingFrom.state_tested {sc y : Screening} (h : closingFrom sc y) :
    y.tested.state = if y.tested.counts.held = 0 then .closed else .closing := by
  rw [Screening.tested_counts]
  unfold Screening.tested
  obtain state | ⟨state, zero⟩ := h.state
  · by_cases zero : y.counts.held = 0
    · rw [if_pos ⟨state, zero⟩, if_pos zero]
    · rw [if_neg fun h => zero h.2, if_neg zero, state]
  · rw [if_neg (by simp [state]), if_pos zero, state]

/-- The screening in a slot is one that has entered CLOSING. -/
def State.closingAt (t : State) (i : Fin 16) (sc : Screening) : Prop := ∃ y, t.screening i = some y ∧ closingFrom sc y

section
variable {t : State} {i : Fin 16} {sc : Screening}

theorem State.closingAt.putSeat (h : t.closingAt i sc) (n : Nat) (a : SeatAddr) : (t.putSeat n a .free).closingAt i sc := by
  obtain ⟨y, hy, from_⟩ := h
  cases found : t.findScreening n with
  | none => rw [State.putSeat_none _ _ _ _ found]; exact ⟨y, hy, from_⟩
  | some p =>
    obtain ⟨j, x⟩ := p
    unfold State.closingAt
    rw [State.putSeat_screening _ _ _ _ j i x found]
    by_cases here : i = j
    · subst here
      obtain rfl : x = y := Option.some.inj ((State.findScreening_slot found).symm.trans hy)
      exact ⟨_, if_pos rfl, (from_.freed a).tested⟩
    · exact ⟨y, (if_neg here).trans hy, from_⟩

theorem State.closingAt.releaseLines (h : t.closingAt i sc) (ls : List BasketLine) : (t.releaseLines ls).closingAt i sc := by
  refine List.foldlRecOn (motive := fun u => State.closingAt u i sc) ls _ h fun u hu l _ => ?_
  cases l with
  | seat n a _ _ _ _ => exact State.closingAt.putSeat hu n a
  | snack _ _ _ => exact hu
  | void => exact hu

theorem State.closingAt.pushBasket (h : t.closingAt i sc) (d : Drop) (r : PushReason) : (t.pushBasket d r).closingAt i sc := by
  have repriced : (t.repriceForPush d).closingAt i sc := by
    unfold State.repriceForPush
    split
    · exact h.releaseLines _
    · exact h
  obtain ⟨y, hy, from_⟩ := repriced
  exact ⟨y, (State.place_screening ..).trans hy, from_⟩

theorem State.closingAt.closeForBasket (h : t.closingAt i sc) (n : Nat) (d : Drop) : (State.closeForBasket n t d).closingAt i sc := by
  unfold State.closeForBasket
  dsimp only
  split
  · exact State.closingAt.pushBasket (t := (t.releaseLines _).setBasket d _) (h.releaseLines _) d _
  · exact h

end

theorem State.enterClosing_screening (s : State) (i : Fin 16) (sc : Screening) :
    ∃ y, (s.enterClosing i sc).screening i = some y ∧ closingFrom sc y ∧ y.state = if y.counts.held = 0 then .closed else .closing := by
  have first : ((s.setScreening i (some { sc with state := .closing })).raise .screening).closingAt i sc :=
    ⟨_, State.setScreening_screening_same s i _, .begun sc⟩
  obtain ⟨ds, -, -, e⟩ := s.enterClosing_eq i sc
  obtain ⟨y, hy, from_⟩ := List.foldlRecOn (motive := fun u => State.closingAt u i sc) ds
    (State.closeForBasket sc.number) first fun u hu d _ => State.closingAt.closeForBasket hu sc.number d
  refine ⟨y.tested, ?_, from_.tested, from_.state_tested⟩
  rw [e, State.closeTest_screening, if_pos rfl, hy]; rfl

theorem State.enterClosing_raised (s : State) (i : Fin 16) (sc : Screening) :
    (s.enterClosing i sc).hlc.conditions.raised .screening = true := by
  have first : ((s.setScreening i (some { sc with state := .closing })).raise .screening).hlc.conditions.raised .screening = true :=
    State.raise_raised ..
  obtain ⟨ds, -, -, e⟩ := s.enterClosing_eq i sc
  have baskets := Calm.foldl (f := State.closeForBasket sc.number) (fun t d => t.closeForBasket_calm sc.number d) ds
  rw [e]
  exact ((baskets _).trans (State.closeTest_calm _ i)).raised _ first

/-! ## The screening table (R7 to R14) -/

theorem newScreening_states (r : ScreeningLoadReq) (i : Fin 8) (gap : Bool) (l : Layout) (a : SeatAddr) :
    (newScreening r i gap l).stateAt a = if a ∈ l.seatAddrs then some .free else none := by
  have found : l.seatAddrs.find? (fun b => b == a) = if a ∈ l.seatAddrs then some a else none := by
    split
    · rename_i h
      obtain ⟨b, hb⟩ := Option.isSome_iff_exists.1 (List.find?_isSome (p := fun b => b == a).2 ⟨a, h, by simp⟩)
      obtain rfl : b = a := by simpa using List.find?_some hb
      exact hb
    · rename_i h
      rw [List.find?_eq_none]
      intro b hb e
      exact h (eq_of_beq e ▸ hb)
  simp only [Screening.stateAt, newScreening, List.find?_map, Function.comp_def, found, Option.map_map]
  split <;> rfl

theorem State.freeSlot_lowest {s : State} {i : Fin 16} (free : s.screening i = none) (lower : ∀ j, j < i → s.screening j ≠ none) :
    s.freeSlot = some i := by
  obtain ⟨before, after, split, low⟩ := finRange_split i
  rw [State.freeSlot, List.find?_eq_some_iff_append]
  refine ⟨by simp [free], before, after, split, fun j hj => ?_⟩
  simpa [← Option.ne_none_iff_isSome] using lower j (low j hj)

theorem State.findScreening_eq_none {s : State} {n : Nat} (h : ∀ j sc, s.screening j = some sc → sc.number ≠ n) :
    s.findScreening n = none := by
  cases found : s.findScreening n with
  | none => rfl
  | some p => exact absurd (State.findScreening_number found) (h p.1 p.2 (State.findScreening_slot found))

/-- SCREENING_LOAD past its checks (R7). -/
theorem State.screeningLoad_loaded {t : State} {h : HostTag} {r : ScreeningLoadReq} {l : Fin 8} {gap : Bool} {i : Fin 16}
    (layout : r.layout = l.val) (fields : screeningFieldsOk r = true) (guard : r.gapGuard = some gap)
    (new : t.findScreening r.number = none) (usable : (t.layout l).state = .ready) (slot : t.freeSlot = some i) :
    State.screeningLoad h r t = (t.setScreening i (some (newScreening r l gap (t.layout l)))).replyHost h .ok .none := by
  have bound : r.layout < 8 := by omega
  have named : (⟨r.layout, bound⟩ : Fin 8) = l := Fin.ext layout
  unfold State.screeningLoad
  rw [dif_pos bound, fields, guard, named]
  simp only [new, slot, usable, Option.isSome_none, Bool.false_eq_true, if_false, ne_eq, not_true]

theorem State.onScreening_found {s : State} {h : HostTag} {n : Nat} {act : Fin 16 → Screening → State} {i : Fin 16} {sc : Screening}
    (found : s.findScreening n = some (i, sc)) : s.onScreening h n act = act i sc := by
  rw [State.onScreening, found]

theorem State.numbersDistinct.setScreening {s : State} (h : s.numbersDistinct) {i : Fin 16} {sc y : Screening}
    (hi : s.screening i = some sc) (number : y.number = sc.number) : (s.setScreening i (some y)).numbersDistinct := by
  have was : ∀ j x, (s.setScreening i (some y)).screening j = some x → ∃ z, s.screening j = some z ∧ z.number = x.number := by
    intro j x hx
    rw [State.setScreening_screening] at hx
    split at hx
    · rename_i here
      cases hx
      exact ⟨sc, here ▸ hi, number.symm⟩
    · exact ⟨x, hx, rfl⟩
  intro j k x z hx hz e
  obtain ⟨x', hx', ex⟩ := was j x hx
  obtain ⟨z', hz', ez⟩ := was k z hz
  exact h j k x' z' hx' hz' (by rw [ex, ez, e])

theorem State.enterClosing_setScreening (s : State) (i : Fin 16) (o : Option Screening) (sc : Screening) :
    (s.setScreening i o).enterClosing i sc = s.enterClosing i sc := by
  have same : ∀ x, (s.setScreening i o).setScreening i x = s.setScreening i x := fun x => by simp [State.setScreening, vput]
  unfold State.enterClosing
  rw [same]

/-- What CLOSE and WITHDRAW leave of an ON_SALE screening (R10 to R13). -/
theorem State.enterClosing_leaves {s : State} {i : Fin 16} {sc x : Screening} (c : Instr) (hi : s.screening i = some sc)
    (number : x.number = sc.number) {u : State} (hu : (s.accept c).enterClosing i x = u) :
    ∃ y, u.screening i = some y ∧ y.state = (if y.counts.held = 0 then .closed else .closing) ∧
      (∀ a, y.stateAt a = x.stateAt a ∨ y.stateAt a = some .free) ∧ y.number = x.number ∧ y.layout = x.layout ∧
      y.withdrawn = x.withdrawn ∧
      (s.numbersDistinct → s.basketLaw → screeningsClosed (· = i) (s.setScreening i (some x)) u) ∧
      u.hlc.conditions.raised .screening = true ∧ hlcKept s u ∧ u.orders = s.orders.erase c ∧
      (∀ d, (s.basket d).state ≠ .opened → u.basket d = s.basket d) ∧
      (∀ d, ∀ l ∈ (u.basket d).lines, (s.basket d).state = .opened → l.inScreening x.number = false) ∧
      linesKept s u ∧ keptBut [.sbu, .klc, .hlc, .orders] s u := by
  obtain ⟨y, hy, from_, state⟩ := (s.accept c).enterClosing_screening i x
  have closed := fun distinct law =>
    ((s.accept c).setScreening i (some x)).enterClosing_closed i x (State.setScreening_screening_same ..) distinct law
  have raised := (s.accept c).enterClosing_raised i x
  have calm := (s.accept c).enterClosing_calm i x
  have kept := (s.accept c).enterClosing_kept (L := [.sbu, .klc, .hlc]) i x (by decide) (by decide) (by decide)
  have baskets := (s.accept c).enterClosing_baskets i x
  have lines := (s.accept c).enterClosing_lines i x
  rw [State.enterClosing_setScreening] at closed
  rw [hu] at hy closed raised calm kept baskets lines
  refine ⟨y, hy, state, from_.seats, from_.number, from_.layout, from_.withdrawn, fun distinct law => ?_, raised, calm.kept,
    kept .orders (by decide), fun d => (baskets d).1, fun d l hl opened => (baskets d).2 opened l hl, lines,
    (s.accept_kept c (by decide)).trans (kept.mono (by decide))⟩
  exact (closed (State.numbersDistinct.setScreening distinct hi number) law.seatsBound).blocks rfl rfl rfl rfl rfl rfl

theorem State.setScreening_self {s : State} {i : Fin 16} {sc : Screening} (h : s.screening i = some sc) :
    s.setScreening i (some sc) = s := by
  rw [← h]
  simp [State.setScreening, State.screening, vput, vget]

/-- Settles O24. -/
theorem screeningsLoadAndMove : Obligations.ScreeningsLoadAndMove := by
  unfold Obligations.ScreeningsLoadAndMove
  refine ⟨fun h r l gap i s ready layout fields guard usable fresh free lower => ?_,
    fun h i sc s ready found => ⟨fun loaded early => ?_, fun loaded => ?_, fun closed => ?_, fun other => ?_⟩,
    fun h i sc s ready found onSale => ⟨?_, ?_⟩⟩
  · have new : (s.accept (.screeningLoad h (some r))).findScreening r.number = none := State.findScreening_eq_none fresh
    have states := newScreening_states r l gap (s.layout l)
    obtain ⟨others, kept⟩ := s.setScreening_frame i (some (newScreening r l gap (s.layout l))) (.screeningLoad h (some r))
    exact ⟨_, _, State.serve_ready ready (State.screeningLoad_loaded layout fields guard new usable (State.freeSlot_lowest free lower)),
      State.setScreening_screening_same _ _ _, rfl, rfl, rfl, rfl, rfl, rfl, rfl, rfl, rfl, rfl,
      fun a ha => (states a).trans (if_pos ha), fun a ha => (states a).trans (if_neg ha), others, fun _ => rfl, fun _ => rfl, kept⟩
  · refine State.serve_ready ready ((State.onScreening_found (s := s.accept _) found).trans ?_)
    simp only [loaded]
    exact if_pos early
  · refine State.serve_ready ready ((State.onScreening_found (s := s.accept _) found).trans ?_)
    simp only [loaded]
  · exact State.serve_ready ready ((State.onScreening_found (s := s.accept _) found).trans (if_pos closed))
  · exact State.serve_ready ready ((State.onScreening_found (s := s.accept _) found).trans (if_neg other))
  · have hi := State.findScreening_slot found
    obtain ⟨y, hy, state, seats, number, layout, withdrawn, closed, rest⟩ :=
      State.enterClosing_leaves (.screeningClose h (some sc.number)) hi (x := sc) rfl rfl
    rw [State.setScreening_self hi] at closed
    refine ⟨_, y, State.serve_ready ready ((State.onScreening_found (s := s.accept _) found).trans ?_), hy, state, seats, number,
      layout, withdrawn, closed, rest⟩
    simp only [onSale]
  · have hi := State.findScreening_slot found
    obtain ⟨y, hy, state, seats, number, layout, withdrawn, rest⟩ :=
      State.enterClosing_leaves (.screeningWithdraw h (some sc.number)) hi (x := { sc with withdrawn := true }) rfl rfl
    refine ⟨_, y, State.serve_ready ready ((State.onScreening_found (s := s.accept _) found).trans ?_), hy, state, seats, number,
      layout, withdrawn, rest⟩
    simp only [onSale]

end Sys2Proof.Machine
end

section
/-! Baskets pushed and priced whole, and the requests and orders on them (R26, R31 to R46). -/

namespace Sys2Proof.Machine

/-! ## The frame of a command on one drop's basket (R28) -/

section
variable {s t u : State} {d : Drop}

theorem basketFrame.refl (d : Drop) (s : State) : basketFrame d s s := ⟨fun _ _ => rfl, .refl d s, fun _ => rfl, .of_hlc rfl, .refl _ s⟩

theorem basketFrame.trans (h : basketFrame d s t) (k : basketFrame d t u) : basketFrame d s u := by
  obtain ⟨baskets, slots, layouts, hlc, kept⟩ := h
  obtain ⟨baskets', slots', layouts', hlc', kept'⟩ := k
  exact ⟨fun e he => (baskets' e he).trans (baskets e he), slots.trans slots', fun j => (layouts' j).trans (layouts j), hlc.trans hlc',
    kept.trans kept'⟩

end

section
variable (s : State) (d : Drop)

theorem State.accept_basketFrame (c : Instr) : basketFrame d s (s.accept c) :=
  ⟨fun _ _ => rfl, .of_klc rfl, fun _ => rfl, .of_hlc rfl, s.accept_kept c (by decide)⟩

theorem State.send_basketFrame (cs : List Instr) : basketFrame d s (s.send cs) :=
  ⟨fun _ _ => rfl, .of_klc rfl, fun _ => rfl, .of_hlc rfl, s.send_kept cs (by decide)⟩

theorem State.setBasket_basketFrame (b : Basket) : basketFrame d s (s.setBasket d b) :=
  ⟨fun _ he => State.setBasket_basket_ne _ _ _ he, .of_klc rfl, fun _ => rfl, .of_hlc rfl, s.setBasket_kept d b (by decide)⟩

theorem State.putLines_basketFrame (new : SeatState) (ls : List BasketLine) (calm : Calm s (s.putLines new ls)) :
    basketFrame d s (s.putLines new ls) := by
  obtain ⟨baskets, layouts⟩ := State.putLines_sameBaskets (new := new) ls s
  have kept := State.putLines_kept (new := new) ls s
  exact ⟨fun e _ => baskets e, .of_klc (kept .klc (by decide)), layouts, calm.kept, kept.mono (by decide)⟩

theorem State.releaseLines_basketFrame (ls : List BasketLine) : basketFrame d s (s.releaseLines ls) := by
  have calm := s.releaseLines_calm ls
  rw [State.releaseLines_eq] at calm ⊢
  exact s.putLines_basketFrame d _ _ calm

theorem State.sellBasket_basketFrame (b : Basket) (sale : Nat) : basketFrame d s (s.sellBasket b sale) := by
  have calm := s.sellBasket_calm b sale
  rw [State.sellBasket_eq] at calm ⊢
  exact s.putLines_basketFrame d _ _ calm

theorem State.place_basketFrame (i : SlotId) (f : OutFrame) : basketFrame d s (s.place d i f) :=
  ⟨fun _ _ => rfl, s.place_slotsKeptBut d i f, fun _ => rfl, .of_hlc rfl, s.place_kept d i f (by decide)⟩

theorem State.dropBasket_basketFrame : basketFrame d s (s.dropBasket d) :=
  (s.releaseLines_basketFrame d _).trans (State.setBasket_basketFrame _ d _)

theorem State.changeLines_basketFrame (gone kept : List BasketLine) : basketFrame d s (s.changeLines d gone kept) :=
  (s.releaseLines_basketFrame d _).trans (State.setBasket_basketFrame _ d _)

theorem State.reprice_basketFrame : basketFrame d s (s.reprice d) :=
  (s.releaseLines_basketFrame d _).trans (State.setBasket_basketFrame _ d _)

theorem State.pushBasket_basketFrame (r : PushReason) : basketFrame d s (s.pushBasket d r) := by
  refine basketFrame.trans ?_ (State.place_basketFrame _ d _ _)
  unfold State.repriceForPush
  split
  · exact s.reprice_basketFrame d
  · exact .refl d s

theorem State.basketReply_basketFrame (c : Code) (x : ReplyDetail) : basketFrame d s (s.basketReply d c x) :=
  s.place_basketFrame d .reply _

theorem State.freeze_basketFrame : basketFrame d s (s.freeze d) := by
  rw [State.freeze_eq]
  exact (s.setBasket_basketFrame d _).trans (State.send_basketFrame _ d _)

theorem State.pushBasket_orders (r : PushReason) : (s.pushBasket d r).orders = s.orders :=
  (s.pushBasket_kept (L := [.sbu, .hlc, .klc]) d r (by decide) (by decide) (by decide)) .orders (by decide)

theorem State.releaseLines_orders (ls : List BasketLine) : (s.releaseLines ls).orders = s.orders :=
  (s.releaseLines_kept (L := [.sbu, .hlc]) ls (by decide) (by decide)) .orders (by decide)

end

/-! ## Seats released, and baskets priced whole (R26, R37) -/

section
variable {s u v : State} {d : Drop} {ls : List BasketLine} {new : SeatState}

theorem seatsPut.congr (h : seatsPut ls new s u) (same : ∀ i, v.screening i = u.screening i) : seatsPut ls new s v := by
  intro i
  rw [same]
  exact h i

theorem State.releaseLines_seatsPut (distinct : s.numbersDistinct) (ls : List BasketLine) : seatsPut ls .free s (s.releaseLines ls) := by
  rw [State.releaseLines_eq]
  exact (State.putLines_putAll rfl ls s distinct).seatsPut

theorem State.sellBasket_seatsPut (distinct : s.numbersDistinct) (b : Basket) (sale : Nat) :
    seatsPut b.lines (.sold sale .kiosk) s (s.sellBasket b sale) := by
  rw [State.sellBasket_eq]
  exact (State.putLines_putAll rfl _ s distinct).seatsPut

theorem refusedOutcome_iff {l : BasketLine} : refusedOutcome (s.lineOutcome l) = true ↔ ∃ code, s.linePrice (.refused code) l := by
  simp only [← State.lineOutcome_eq_some]
  cases s.lineOutcome l with
  | none => simp [refusedOutcome]
  | some o => cases o <;> simp [refusedOutcome]

theorem State.reprice_pricedWhole (s : State) (d : Drop) : pricedWhole (s.basket d) s ((s.reprice d).basket d) := by
  rw [State.reprice_basket, if_pos rfl]
  exact s.pricedWhole_repriced _

theorem State.reprice_refusedFreed (distinct : s.numbersDistinct) (d : Drop) : refusedFreed (s.basket d) s (s.reprice d) := by
  refine ⟨(s.basket d).lines.filter fun l => refusedOutcome (s.lineOutcome l), fun l => ?_,
    (State.releaseLines_seatsPut distinct _).congr fun _ => rfl⟩
  rw [List.mem_filter, refusedOutcome_iff]

/-- What whole pricing keeps of a basket's own fields. -/
theorem settled_state (b : Basket) (f : Fau) : (b.settled f).state = b.state ∨ (b.settled f).state = .idle := by
  unfold Basket.settled
  split
  · exact .inl rfl
  · exact .inr rfl

theorem settled_generation (b : Basket) (f : Fau) : (b.settled f).generation = b.generation := by
  unfold Basket.settled
  split <;> rfl

theorem State.reprice_generation (s : State) (d : Drop) : ((s.reprice d).basket d).generation = s.fau.generation := by
  rw [State.reprice_basket, if_pos rfl, settled_generation]; rfl

theorem State.reprice_state (s : State) (d : Drop) :
    ((s.reprice d).basket d).state = (s.basket d).state ∨ ((s.reprice d).basket d).state = .idle := by
  rw [State.reprice_basket, if_pos rfl]
  exact settled_state _ _

end

/-! ## Pushes (R36, R37) -/

section
variable {s : State} {d : Drop}

theorem State.pushBasket_pushed (s : State) (d : Drop) (r : PushReason) : pushed d r (s.pushBasket d r) :=
  State.place_slot_same _ d .pushBasket _

/-- A push of a basket that is not OPEN with an old generation changes no basket and no seat. -/
theorem State.pushBasket_fresh (r : PushReason) (h : (s.basket d).state ≠ .opened ∨ (s.basket d).generation = s.fau.generation) :
    (s.pushBasket d r).basket d = s.basket d ∧ ∀ i, (s.pushBasket d r).screening i = s.screening i := by
  have same : s.repriceForPush d = s := if_neg fun ⟨opened, old⟩ => h.elim (· opened) old
  unfold State.pushBasket
  rw [same]
  exact ⟨rfl, fun _ => rfl⟩

/-- A push of an OPEN basket of an old generation prices it whole. -/
theorem State.pushBasket_stale (r : PushReason) (opened : (s.basket d).state = .opened) (old : (s.basket d).generation ≠ s.fau.generation) :
    (s.pushBasket d r).basket d = (s.reprice d).basket d ∧ ∀ i, (s.pushBasket d r).screening i = (s.reprice d).screening i := by
  have priced : s.repriceForPush d = s.reprice d := if_pos ⟨opened, old⟩
  unfold State.pushBasket
  rw [priced]
  exact ⟨rfl, fun _ => rfl⟩

/-- What the push of a basket leaves of it: an OPEN basket of an old generation is priced whole, any other stays (R36, R37). -/
structure pushedAs (d : Drop) (b : Basket) (s u : State) : Prop where
  fresh : b.state ≠ .opened ∨ b.generation = s.fau.generation → u.basket d = b ∧ ∀ i, u.screening i = s.screening i
  stale : b.state = .opened → b.generation ≠ s.fau.generation → pricedWhole b s (u.basket d) ∧ (s.numbersDistinct → refusedFreed b s u)
  state : (u.basket d).state = b.state ∨ (u.basket d).state = .idle
  generation : b.state = .opened → (u.basket d).generation = s.fau.generation

theorem State.pushBasket_pushedAs (s : State) (d : Drop) (r : PushReason) : pushedAs d (s.basket d) s (s.pushBasket d r) := by
  by_cases stale : (s.basket d).state = .opened ∧ (s.basket d).generation ≠ s.fau.generation
  · obtain ⟨opened, old⟩ := stale
    obtain ⟨basket, screenings⟩ := State.pushBasket_stale r opened old
    refine ⟨fun h => (h.elim (· opened) old).elim, fun _ _ => ⟨?_, fun distinct => ?_⟩, ?_, fun _ => ?_⟩
    · rw [basket]; exact s.reprice_pricedWhole d
    · obtain ⟨gone, which, put⟩ := State.reprice_refusedFreed distinct d
      exact ⟨gone, which, put.congr screenings⟩
    · rw [basket]; exact s.reprice_state d
    · rw [basket]; exact s.reprice_generation d
  · have fresh : (s.basket d).state ≠ .opened ∨ (s.basket d).generation = s.fau.generation := by
      by_cases opened : (s.basket d).state = .opened
      · exact .inr (by_contra fun old => stale ⟨opened, old⟩)
      · exact .inl opened
    obtain ⟨basket, screenings⟩ := State.pushBasket_fresh r fresh
    exact ⟨fun _ => ⟨basket, screenings⟩, fun opened old => absurd ⟨opened, old⟩ stale, .inl (by rw [basket]),
      fun opened => by rw [basket]; exact fresh.resolve_left (· opened)⟩

theorem pushedAs.of_accept {c : Instr} {b : Basket} {u : State} (h : pushedAs d b (s.accept c) u) : pushedAs d b s u :=
  ⟨h.fresh, h.stale, h.state, h.generation⟩

/-- A basket written and pushed. -/
theorem State.setBasket_pushBasket_pushedAs (s : State) (d : Drop) (b : Basket) (r : PushReason) :
    pushedAs d b s ((s.setBasket d b).pushBasket d r) := by
  have h := (s.setBasket d b).pushBasket_pushedAs d r
  rw [State.setBasket_basket_same] at h
  exact ⟨h.fresh, h.stale, h.state, h.generation⟩

/-- The expiry of a hold: the seats FREE, the basket cleared and pushed EXPIRED (R39). -/
theorem State.expireBasket_expired (c : Instr) (distinct : s.numbersDistinct) {u : State} (hu : (s.accept c).expireBasket d = u) :
    u.basket d = (s.basket d).cleared ∧ seatsPut (s.basket d).lines .free s u ∧ pushed d .expired u ∧ u.orders = s.orders.erase c ∧
      basketFrame d s u := by
  have seats := State.releaseLines_seatsPut (s := s.accept c) distinct (s.basket d).lines
  have basket : ((s.accept c).dropBasket d).basket d = (s.basket d).cleared := by
    change (((s.accept c).releaseLines _).setBasket d _).basket d = _
    rw [State.setBasket_basket_same]; rfl
  obtain ⟨same, screenings⟩ := State.pushBasket_fresh (s := (s.accept c).dropBasket d) (d := d) .expired (.inl (by rw [basket]; nofun))
  subst hu
  refine ⟨same.trans basket, seats.congr screenings, State.pushBasket_pushed _ d _, ?_,
    ((s.accept_basketFrame d c).trans (State.dropBasket_basketFrame _ d)).trans (State.pushBasket_basketFrame _ d _)⟩
  exact (State.pushBasket_orders _ d _).trans (State.releaseLines_orders (s.accept c) _)

end

/-! ## UNDO, VOID_LINE and CLEAR (R31, R32, R35) -/

section
variable {s : State} {d : Drop} {c : Instr}

/-- A change of an OPEN basket's lines, answered OK (R26, R27). -/
theorem State.changeLines_changed (distinct : s.numbersDistinct) (gone kept : List BasketLine) {u : State}
    (hu : ((s.accept c).changeLines d gone kept).basketReply d .ok .none = u) :
    seatsPut gone .free s u ∧ linesNow kept s.fau (s.basket d) (u.basket d) ∧ replied d .ok .none u ∧ u.orders = s.orders.erase c ∧
      basketFrame d s u := by
  have seats := State.releaseLines_seatsPut (s := s.accept c) distinct gone
  have basket : ((s.accept c).changeLines d gone kept).basket d = Basket.settled { s.basket d with lines := kept } s.fau :=
    State.setBasket_basket_same _ _ _
  subst hu
  refine ⟨seats.congr fun _ => rfl, ?_, State.basketReply_replied _ d _ _, State.releaseLines_orders (s.accept c) gone,
    ((s.accept_basketFrame d c).trans (State.changeLines_basketFrame _ d _ _)).trans (State.basketReply_basketFrame _ d _ _)⟩
  change linesNow kept s.fau (s.basket d) (((s.accept c).changeLines d gone kept).basket d)
  rw [basket]
  exact Basket.settled_linesNow _ _ _

theorem liveTop_topped {kept vs : List BasketLine} {l : BasketLine} (live : l ≠ .void) (void : ∀ x ∈ vs, x = .void) :
    liveTop (kept ++ l :: vs) = l :: kept.reverse := by
  have gone : vs.reverse.dropWhile (fun l => !l.live) = [] := by
    rw [List.dropWhile_eq_nil_iff]
    intro x hx
    rw [void x (List.mem_reverse.1 hx)]; rfl
  have stays : l.live = true := by cases l <;> first | rfl | exact absurd rfl live
  have top : (kept ++ l :: vs).reverse = vs.reverse ++ (l :: kept.reverse) := by simp
  rw [liveTop, top, List.dropWhile_append, gone]
  simp [stays]

end

/-- Settles O35. -/
theorem undoVoidLineAndClearReleaseSeats : Obligations.UndoVoidLineAndClearReleaseSeats := by
  unfold Obligations.UndoVoidLineAndClearReleaseSeats
  refine ⟨fun d n kept vs l s opened distinct stack live void => ?_, fun d r s opened distinct => ⟨fun l slot hl live => ?_,
    fun slot none => ?_,
    fun slot => ?_⟩, fun d n s opened distinct => ?_⟩
  · have top := liveTop_topped (kept := kept) live void
    have act : State.undo d n (s.accept (.undo d (some n))) =
        ((s.accept (.undo d (some n))).changeLines d [l] kept).basketReply d .ok .none := by
      unfold State.undo
      rw [show ((s.accept (.undo d (some n))).basket d).lines = kept ++ l :: vs from stack, undoneLine, undoneLines, top]
      simp
    exact ⟨_, congrArg State.done ((State.basketRequest_openFor (opened.accept _)).trans act),
      State.changeLines_changed distinct [l] kept rfl⟩
  · have act : State.voidLine d r (s.accept (.voidLine d (some r))) =
        ((s.accept (.voidLine d (some r))).changeLines d [l] ((s.basket d).lines.set r.slot .void)).basketReply d .ok .none := by
      unfold State.voidLine
      rw [if_neg (by omega), show ((s.accept (.voidLine d (some r))).basket d).lines[r.slot]? = some l from hl]
      cases l <;> first | rfl | exact absurd rfl live
    exact ⟨_, congrArg State.done ((State.basketRequest_openFor (opened.accept _)).trans act), State.changeLines_changed distinct [l] _ rfl⟩
  · have act : State.voidLine d r (s.accept (.voidLine d (some r))) = (s.accept (.voidLine d (some r))).basketReply d .noLine .none := by
      unfold State.voidLine
      rw [if_neg (by omega)]
      change (match (s.basket d).lines[r.slot]? with | Option.none => _ | some .void => _ | some l => _) = _
      obtain none | none := none <;> rw [none]
    exact congrArg State.done ((State.basketRequest_openFor (opened.accept _)).trans act)
  · exact congrArg State.done ((State.basketRequest_openFor (opened.accept _)).trans (if_pos slot))
  · have act : State.clear d n (s.accept (.clear d (some n))) = ((s.accept (.clear d (some n))).dropBasket d).basketReply d .ok .none := rfl
    have seats := State.releaseLines_seatsPut (s := s.accept (.clear d (some n))) distinct (s.basket d).lines
    refine ⟨_, congrArg State.done ((State.basketRequest_openFor (opened.accept _)).trans act), seats.congr fun _ => rfl,
      State.setBasket_basket_same _ _ _, State.basketReply_replied _ d _ _, State.releaseLines_orders (s.accept _) _, ?_⟩
    exact ((s.accept_basketFrame d _).trans (State.dropBasket_basketFrame _ d)).trans (State.basketReply_basketFrame _ d _ _)

/-! ## TENDER (R43 to R45) -/

section
variable {s : State} {d : Drop} {n : Nat}

theorem exec_tender_of_openFor {u : State} (opened : s.openFor d n) (act : State.tender d n (s.accept (.tender d (some n))) = u) :
    exec (.tender d (some n)) s = .next u.transmit :=
  congrArg State.done ((State.basketRequest_openFor (opened.accept _)).trans act)

theorem State.tender_denied {x : Denial} (denied : s.tenderDenial (s.basket d) = some x) : s.tender d n = s.basketReply d x.1 x.2 := by
  unfold State.tender
  rw [denied]

theorem State.tender_fresh (passed : s.tenderDenial (s.basket d) = none) (fresh : (s.basket d).generation = s.fau.generation) :
    s.tender d n = s.freeze d := by
  unfold State.tender
  rw [passed]
  exact if_pos fresh

theorem State.tender_changed (passed : s.tenderDenial (s.basket d) = none) (old : (s.basket d).generation ≠ s.fau.generation)
    (changed : s.repriceVoids d = true ∨ ((s.reprice d).basket d).totals.gross ≠ (s.basket d).totals.gross) :
    s.tender d n = (s.reprice d).basketReply d .priceChanged .none := by
  unfold State.tender
  rw [passed]
  exact (if_neg old).trans (if_pos changed)

theorem State.tender_unchanged (passed : s.tenderDenial (s.basket d) = none) (old : (s.basket d).generation ≠ s.fau.generation)
    (unchanged : ¬(s.repriceVoids d = true ∨ ((s.reprice d).basket d).totals.gross ≠ (s.basket d).totals.gross)) :
    s.tender d n = (s.reprice d).freeze d := by
  unfold State.tender
  rw [passed]
  exact (if_neg old).trans (if_neg unchanged)

theorem State.repriceVoids_iff : s.repriceVoids d = true ↔ ∃ l ∈ (s.basket d).lines, ∃ code, s.linePrice (.refused code) l := by
  simp only [State.repriceVoids, List.any_eq_true, refusedOutcome_iff]

theorem State.tenderDenial_attempts {b : Basket} (used : 3 ≤ b.attempts) : s.tenderDenial b = some (.attemptsUsed, .none) := if_pos used

theorem State.tenderDenial_bound {b : Basket} {i : Fin 16} {sc : Screening} (left : b.attempts < 3)
    (bound : s.boundScreening b = some (i, sc)) :
    s.tenderDenial b = if sc.withdrawn then some (.withdrawn, .none)
      else (companionSlot (s.layout sc.layout) b).map fun slot => (.companionRule, .line slot) := by
  unfold State.tenderDenial
  rw [if_neg (by omega), bound]

theorem State.freeze_basket (s : State) (d : Drop) :
    (s.freeze d).basket d = { s.basket d with frozen := some (s.basket d).totals.gross, saved := some (s.basket d).countdown
                                              state := .tender } := State.setBasket_basket_same _ _ _

end

/-- Settles O36. -/
theorem tenderFreezesTheBasket : Obligations.TenderFreezesTheBasket := by
  unfold Obligations.TenderFreezesTheBasket
  intro d n s opened
  let t := s.accept (.tender d (some n))
  have denied : ∀ x, s.tenderDenial (s.basket d) = some x → exec (.tender d (some n)) s = .next ((t.basketReply d x.1 x.2).transmit) :=
    fun x hx => exec_tender_of_openFor opened (State.tender_denied (s := t) hx)
  refine ⟨fun used => denied _ (State.tenderDenial_attempts used), fun i sc left bound withdrawn => denied (.withdrawn, .none) ?_,
    fun i sc k left bound stands slot => denied (.companionRule, .line k) ?_, fun passed fresh => ?_, fun passed old distinct => ?_⟩
  · rw [State.tenderDenial_bound left bound, withdrawn]; rfl
  · rw [State.tenderDenial_bound left bound, stands, slot]; rfl
  · refine ⟨_, exec_tender_of_openFor opened (State.tender_fresh (s := t) passed fresh), State.freeze_basket t d, rfl, fun _ => rfl, ?_, ?_⟩
    · exact fun e he => State.setBasket_basket_ne t d _ he
    · exact (s.accept_kept _ (by decide)).trans ((State.setBasket_kept _ d _ (by decide)).trans (State.send_kept _ _ (by decide)))
  · have whole : pricedWhole (s.basket d) s ((t.reprice d).basket d) := t.reprice_pricedWhole d
    have freed : refusedFreed (s.basket d) s (t.reprice d) := State.reprice_refusedFreed (s := t) distinct d
    have orders : (t.reprice d).orders = s.orders.erase (.tender d (some n)) := State.releaseLines_orders t _
    have frame := (s.accept_basketFrame d (.tender d (some n))).trans (State.reprice_basketFrame _ d)
    have voids : t.repriceVoids d = true ↔ ∃ l ∈ (s.basket d).lines, ∃ code, s.linePrice (.refused code) l :=
      State.repriceVoids_iff (s := t)
    by_cases changed : t.repriceVoids d = true ∨ ((t.reprice d).basket d).totals.gross ≠ (s.basket d).totals.gross
    · refine ⟨_, (t.reprice d).basket d, exec_tender_of_openFor opened (State.tender_changed (s := t) passed old changed), whole, freed,
        fun _ => ⟨rfl, State.basketReply_replied _ d _ _, orders⟩, fun stands same => ?_,
        frame.trans (State.basketReply_basketFrame _ d _ _)⟩
      exact (changed.elim (fun v => stands (voids.1 v)) (· same)).elim
    · refine ⟨_, (t.reprice d).basket d, exec_tender_of_openFor opened (State.tender_unchanged (s := t) passed old changed), whole, freed,
        fun refused => absurd (refused.imp_left voids.2) changed, fun _ same => ⟨?_, ?_⟩, frame.trans (State.freeze_basketFrame _ d)⟩
      · rw [State.freeze_basket, same]
      · rw [← orders]; rfl

/-! ## Orders on a basket in TENDER and the expiry of a hold (R37, R39, R46) -/

/-- Settles O37. -/
theorem tenderOrdersAndExpiry : Obligations.TenderOrdersAndExpiry := by
  unfold Obligations.TenderOrdersAndExpiry
  intro d n o s
  refine ⟨fun tender serial => ⟨?_, ?_, fun distinct => ?_⟩, fun other => ?_, fun opened zero distinct => ?_, fun other => ?_⟩
  · exact congrArg Host.Outcome.next (if_pos ⟨tender, serial⟩)
  · intro b
    let t := (s.accept (.unfreeze d n o)).setBasket d b
    have frame : basketFrame d s (t.pushBasket d (.unfrozen o)) :=
      ((s.accept_basketFrame d _).trans (State.setBasket_basketFrame _ d b)).trans (State.pushBasket_basketFrame _ d _)
    have now : pushedAs d b s (t.pushBasket d (.unfrozen o)) :=
      ((s.accept (.unfreeze d n o)).setBasket_pushBasket_pushedAs d b _).of_accept
    refine ⟨t.pushBasket d (.unfrozen o), congrArg State.done (if_pos ⟨tender, serial⟩), State.pushBasket_pushed t d _,
      fun fresh => now.fresh (.inr fresh),
      now.stale rfl, ?_, now.generation rfl,
      State.pushBasket_orders t d _, frame⟩
    obtain state | state := now.state <;> rw [state] <;> nofun
  · exact ⟨_, congrArg State.done (if_pos ⟨tender, serial⟩), State.expireBasket_expired _ distinct rfl⟩
  · have discarded : ¬((s.basket d).state = .tender ∧ (s.basket d).serial = n) := fun h => other.elim (· h.1) (· h.2)
    exact ⟨congrArg Host.Outcome.next (if_neg discarded), congrArg State.done (if_neg discarded), congrArg State.done (if_neg discarded)⟩
  · exact ⟨_, congrArg State.done (if_pos ⟨opened, zero⟩), State.expireBasket_expired _ distinct rfl⟩
  · exact congrArg State.done (if_neg fun h => other.elim (· h.1) (· h.2))

end Sys2Proof.Machine
end

section
/-! What a commit sells and sends (R47 to R49). -/

namespace Sys2Proof.Machine

/-! ## The lines of a committed basket, in order (R47, R48) -/

section
variable {α β : Type} {p : α → Bool} {f : α → Option β}

/-- Entries made of the elements that pass a test keep their order, one each. -/
theorem filterMap_length_of_test (each : ∀ x, (f x).isSome = p x) (l : List α) : (l.filterMap f).length = (l.filter p).length := by
  induction l with
  | nil => rfl
  | cons x l ih =>
    have here := each x
    cases hx : f x with
    | none => rw [hx] at here; rw [List.filterMap_cons_none hx, List.filter_cons_of_neg (by simp [← here]), ih]
    | some y =>
      rw [hx] at here
      rw [List.filterMap_cons_some hx, List.filter_cons_of_pos (by simp [← here]), List.length_cons, List.length_cons, ih]

theorem filterMap_get_of_test (each : ∀ x, (f x).isSome = p x) {l : List α} {j : Nat} {x : α} {y : β} (hx : (l.filter p)[j]? = some x)
    (hy : f x = some y) : (l.filterMap f)[j]? = some y := by
  induction l generalizing j with
  | nil => cases hx
  | cons z l ih =>
    have here := each z
    cases hz : f z with
    | none =>
      rw [hz] at here
      rw [List.filter_cons_of_neg (by simp [← here])] at hx
      rw [List.filterMap_cons_none hz]
      exact ih hx
    | some w =>
      rw [hz] at here
      rw [List.filter_cons_of_pos (by simp [← here])] at hx
      rw [List.filterMap_cons_some hz]
      cases j with
      | zero =>
        obtain rfl : z = x := by simpa using hx
        simpa using hz.symm.trans hy
      | succ j => exact ih (by simpa using hx)

end

theorem numberSnacks_seats {β : Type} {f : BasketLine × Nat → Option β} (first : Nat) (ls : List BasketLine)
    (others : ∀ x, x.isSeat = false → ∀ v, f (x, v) = none) : (numberSnacks first ls).filterMap f = ls.filterMap fun x => f (x, 0) := by
  induction ls generalizing first with
  | nil => rfl
  | cons l ls ih =>
    cases l with
    | seat n a k c m g => simp only [numberSnacks, List.filterMap_cons, ih]
    | snack item m g => simp only [numberSnacks, List.filterMap_cons, ih, others (.snack item m g) rfl]
    | void => simp only [numberSnacks, List.filterMap_cons, ih, others .void rfl]

theorem numberSnacks_snacks {β : Type} {f : BasketLine × Nat → Option β} (first : Nat) (ls : List BasketLine)
    (others : ∀ x, x.isSnack = false → ∀ v, f (x, v) = none) :
    (numberSnacks first ls).filterMap f = ((ls.filter BasketLine.isSnack).zipIdx first).filterMap f := by
  induction ls generalizing first with
  | nil => rfl
  | cons l ls ih =>
    cases l with
    | seat n a k c m g =>
      rw [List.filter_cons_of_neg (by simp [BasketLine.isSnack])]
      simp only [numberSnacks, List.filterMap_cons, ih, others (.seat n a k c m g) rfl]
    | snack item m g =>
      rw [List.filter_cons_of_pos (by simp [BasketLine.isSnack])]
      simp only [numberSnacks, List.zipIdx_cons, List.filterMap_cons, ih]
    | void =>
      rw [List.filter_cons_of_neg (by simp [BasketLine.isSnack])]
      exact ih first

theorem snacks_pass (first : Nat) (ls : List BasketLine) :
    ((ls.filter BasketLine.isSnack).zipIdx first).filter (fun x => x.1.isSnack) =
      (ls.filter BasketLine.isSnack).zipIdx first := by
  rw [List.filter_eq_self]
  intro x hx
  exact (List.mem_filter.1 (List.fst_mem_of_mem_zipIdx hx)).2

section
variable {β : Type} {f : BasketLine × Nat → Option β} (each : ∀ x, (f x).isSome = x.1.isSnack) (first : Nat) (ls : List BasketLine)
include each

theorem snackEntries_eq : (numberSnacks first ls).filterMap f = ((ls.filter BasketLine.isSnack).zipIdx first).filterMap f :=
  numberSnacks_snacks first ls fun x hx v => by
    have := each (x, v)
    rw [hx] at this
    simpa using this

/-- The entry of a SNACK line is made with its own serial. -/
theorem snackEntries_get {j item amount g : Nat} {y : β} (hj : (ls.filter BasketLine.isSnack)[j]? = some (.snack item amount g))
    (hy : f (.snack item amount g, first + j) = some y) : ((numberSnacks first ls).filterMap f)[j]? = some y := by
  rw [snackEntries_eq each]
  refine filterMap_get_of_test each ?_ hy
  rw [snacks_pass, List.getElem?_zipIdx, hj]; rfl

theorem snackEntries_serials {serial : β → Nat} (own : ∀ x y, f x = some y → serial y = x.2) :
    ((numberSnacks first ls).filterMap f).map serial = List.range' first (ls.filter BasketLine.isSnack).length := by
  have serials : ∀ l : List (BasketLine × Nat), (∀ x ∈ l, x.1.isSnack = true) → (l.filterMap f).map serial = l.map (·.2) := by
    intro l
    induction l with
    | nil => exact fun _ => rfl
    | cons x l ih =>
      intro all
      obtain ⟨y, hy⟩ := Option.isSome_iff_exists.1 ((each x).trans (all x List.mem_cons_self))
      rw [List.filterMap_cons_some hy, List.map_cons, List.map_cons, own x y hy, ih fun z hz => all z (List.mem_cons_of_mem _ hz)]
  rw [snackEntries_eq each, serials _ fun x hx => (List.mem_filter.1 (List.fst_mem_of_mem_zipIdx hx)).2, List.zipIdx_map_snd]

end

theorem snackEntryOf_isSome (x : BasketLine × Nat) : (snackEntryOf x).isSome = x.1.isSnack := by
  obtain ⟨l, v⟩ := x; cases l <;> rfl

theorem snackEntryOf_serial (x : BasketLine × Nat) (y : SnackEntry) (h : snackEntryOf x = some y) : y.serial = x.2 := by
  obtain ⟨l, v⟩ := x; cases l <;> cases h; rfl

theorem issueLineOf_isSome (f : Fau) (x : BasketLine × Nat) : (f.issueLineOf x).isSome = x.1.isSnack := by
  obtain ⟨l, v⟩ := x; cases l <;> rfl

theorem issueLineOf_serial (f : Fau) (x : BasketLine × Nat) (y : IssueLine) (h : f.issueLineOf x = some y) : y.serial = x.2 := by
  obtain ⟨l, v⟩ := x; cases l <;> cases h; rfl

theorem seatOfLine_isSome (x : BasketLine) : (seatOfLine x).isSome = x.isSeat := by cases x <;> rfl

theorem summaryOf_isSome (l : Layout) (x : BasketLine) : (summaryOf l x).isSome = x.live := by cases x <;> rfl

theorem seatEntryOf_isSome (l : Layout) (x : BasketLine) : (seatEntryOf l (x, 0)).isSome = x.isSeat := by cases x <;> rfl

/-- The seat entries of a sale record, one a SEAT line. -/
theorem seatEntries_eq (l : Layout) (first : Nat) (ls : List BasketLine) :
    (numberSnacks first ls).filterMap (seatEntryOf l) = ls.filterMap fun x => seatEntryOf l (x, 0) :=
  numberSnacks_seats first ls fun x hx v => by cases x <;> first | rfl | cases hx

/-! ## The orders of a commit (R48) -/

section
variable {s : State} {b : Basket} {c : CommitOrder} {i : Fin 16} {sc : Screening}

theorem State.boundLayout_bound (h : s.boundScreening b = some (i, sc)) : s.boundLayout b = s.layout sc.layout := by
  unfold State.boundLayout
  rw [h]

theorem State.boundWithdrawn_bound (h : s.boundScreening b = some (i, sc)) : s.boundWithdrawn b = sc.withdrawn := by
  unfold State.boundWithdrawn
  rw [h]

theorem State.boundScreening_none (h : b.bound = none) : s.boundScreening b = none := by
  rw [State.boundScreening, h]; rfl

theorem Basket.any_isSnack : b.lines.any BasketLine.isSnack = true ↔ 0 < b.snackCount := by
  rw [Basket.snackCount, List.length_pos_iff_exists_mem, List.any_eq_true]
  simp only [List.mem_filter]

/-- The print items of a commit: the tickets, and the receipt after them. -/
theorem State.printItemsOf_tags (s : State) (b : Basket) (c : CommitOrder) :
    (s.printItemsOf b c).map itemTag = (List.range (b.seatCount + 1)).map fun k => { sale := c.sale, index := k + 1 } := by
  have count : (b.lines.filterMap seatOfLine).length = b.seatCount := filterMap_length_of_test seatOfLine_isSome _
  have tickets : ∀ (l : List (Nat × SeatAddr × Concession × Nat)) (g : Nat × SeatAddr × Concession × Nat → Nat → Ticket) (n : Nat),
      (∀ x k, (g x k).sale = c.sale ∧ (g x k).index = k) →
      (l.zipIdx n).map (fun q => itemTag (.ticket (g q.1 (q.2 + 1)))) =
        (List.range' n l.length).map fun k => ({ sale := c.sale, index := k + 1 } : PrintTag) := by
    intro l g n own
    rw [← List.zipIdx_map_snd, List.map_map]
    refine List.map_congr_left fun q _ => ?_
    obtain ⟨sale, index⟩ := own q.1 (q.2 + 1)
    rw [itemTag, sale, index]; rfl
  unfold State.printItemsOf
  rw [List.map_append, List.map_map, List.range_succ, List.map_append, ← count, List.range_eq_range']
  congr 1
  exact tickets _ (fun x k => ticketOf _ _ c.sale k x) 0 fun _ _ => ⟨rfl, rfl⟩

theorem State.printItemsOf_ticket (h : s.boundScreening b = some (i, sc)) {j n : Nat} {a : SeatAddr} {kind : SeatKind}
    {conc : Concession} {amount g : Nat} (hj : (b.lines.filter BasketLine.isSeat)[j]? = some (.seat n a kind conc amount g)) :
    (s.printItemsOf b c)[j]? = some (.ticket ⟨c.sale, j + 1, n, sc.startDay, sc.startMinute, sc.layout.val,
      (s.layout sc.layout).label a.row, (s.layout sc.layout).seatNumber a, conc, amount⟩) := by
  have seat : (b.lines.filterMap seatOfLine)[j]? = some (n, a, conc, amount) := filterMap_get_of_test seatOfLine_isSome hj rfl
  have lt : j < (b.lines.filterMap seatOfLine).length := (List.getElem?_eq_some_iff.1 seat).1
  unfold State.printItemsOf
  rw [List.getElem?_append_left (by simpa using lt), List.getElem?_map, List.getElem?_zipIdx, seat, State.boundLayout_bound h, h]
  simp [ticketOf]

/-- The receipt of a commit. -/
def State.receiptOf (s : State) (b : Basket) (c : CommitOrder) : Receipt :=
  { sale := c.sale, index := (b.lines.filterMap seatOfLine).length + 1, lines := b.lines.filterMap (summaryOf (s.boundLayout b))
    gross := b.totals.gross, seatTax := b.totals.seatTax, snackTax := b.totals.snackTax, approval := approvalOf c.payment
    codes := ((committedLines b c).filterMap snackEntryOf).map fun e => voucherCode e.serial }

theorem State.printItemsOf_receipt (s : State) (b : Basket) (c : CommitOrder) :
    (s.printItemsOf b c)[b.seatCount]? = some (.receipt (s.receiptOf b c)) := by
  have count : (b.lines.filterMap seatOfLine).length = b.seatCount := filterMap_length_of_test seatOfLine_isSome _
  unfold State.printItemsOf
  rw [List.getElem?_append_right (by simp [count])]
  simp [count, State.receiptOf]

theorem State.receiptOf_codes (s : State) (b : Basket) (c : CommitOrder) :
    (s.receiptOf b c).codes = (List.range' (c.firstVoucher.getD 0) b.snackCount).map voucherCode := by
  unfold State.receiptOf committedLines
  dsimp only
  rw [Basket.snackCount, ← snackEntries_serials snackEntryOf_isSome _ _ snackEntryOf_serial, List.map_map]
  rfl

/-- A commit (R47 to R49). -/
theorem State.commit_sold (s : State) (d : Drop) (c : CommitOrder) (distinct : s.numbersDistinct) :
    seatsPut (s.basket d).lines (.sold c.sale .kiosk) s (State.commit d c s) ∧
      (State.commit d c s).basket d = (s.basket d).cleared ∧ pushed d (.sold c.sale) (State.commit d c s) ∧
      (State.commit d c s).orders = s.orders ++ s.commitOrders d (s.basket d) c ++ [.commitConfirmation d (s.basket d).serial] ∧
      basketFrame d s (State.commit d c s) := by
  have seats := State.sellBasket_seatsPut distinct (s.basket d) c.sale
  have soldOrders : (s.sellBasket (s.basket d) c.sale).orders = s.orders := by
    rw [State.sellBasket_eq]
    exact State.putLines_kept _ s .orders (by decide)
  have sold := State.sellBasket_basketFrame s d (s.basket d) c.sale
  unfold State.commit
  dsimp only
  generalize s.sellBasket (s.basket d) c.sale = v at *
  generalize s.commitOrders d (s.basket d) c = os
  generalize hw : (v.send os).setBasket d (s.basket d).cleared = w
  have basket : w.basket d = (s.basket d).cleared := by rw [← hw]; exact State.setBasket_basket_same _ _ _
  have wOrders : w.orders = s.orders ++ os := by rw [← hw]; exact congrArg (· ++ os) soldOrders
  have wScreening : ∀ i, w.screening i = v.screening i := fun i => by rw [← hw]; rfl
  have wFrame : basketFrame d s w := by
    rw [← hw]; exact (sold.trans (State.send_basketFrame v d os)).trans (State.setBasket_basketFrame _ d _)
  obtain ⟨same, screenings⟩ := State.pushBasket_fresh (s := w) (d := d) (.sold c.sale) (.inl (by rw [basket]; nofun))
  refine ⟨seats.congr fun i => (screenings i).trans (wScreening i), same.trans basket, State.pushBasket_pushed w d _, ?_,
    (wFrame.trans (State.pushBasket_basketFrame w d _)).trans (State.send_basketFrame _ d _)⟩
  change (w.pushBasket d (.sold c.sale)).orders ++ _ = _
  rw [State.pushBasket_orders, wOrders]

end

/-- Settles O38. -/
theorem commitSellsTheBasket : Obligations.CommitSellsTheBasket := by
  unfold Obligations.CommitSellsTheBasket
  refine fun d c s => ⟨fun tender serial distinct => ?_, fun other => ?_⟩
  · obtain ⟨seats, basket, push, orders, frame⟩ := (s.accept (.commit d c)).commit_sold d c distinct
    let b := s.basket d
    let issue : List Instr := if b.lines.any BasketLine.isSnack then [.issueOrder (s.issueOrderOf b c)] else []
    refine ⟨_, s.saleRecordOf d b c, issue, s.printItemsOf b c, congrArg State.done (if_pos ⟨tender, serial⟩), seats, basket, push,
      ?_,
      rfl, rfl, serial, rfl, rfl, rfl, rfl, rfl, fun i sc bound => State.boundWithdrawn_bound bound, fun unbound => ?_, ?_, ?_,
      fun j item amount g hj => ?_, fun none => ?_, fun snacks => ?_, s.printItemsOf_tags b c,
        fun i sc bound j n a kind conc amount g hj => ?_,
      ?_, (s.accept_basketFrame d _).trans frame⟩
    · rw [← serial]
      refine orders.trans ?_
      change s.orders.erase _ ++ s.commitOrders d b c ++ [.commitConfirmation d b.serial] = _
      simp [State.commitOrders, issue, b]
    · change s.boundWithdrawn b = false
      rw [State.boundWithdrawn, State.boundScreening_none unbound]
    · change ((committedLines b c).filterMap _).length = _
      rw [committedLines, seatEntries_eq]
      exact filterMap_length_of_test (seatEntryOf_isSome _) _
    · exact snackEntries_serials snackEntryOf_isSome _ _ snackEntryOf_serial
    · exact snackEntries_get snackEntryOf_isSome _ _ hj rfl
    · exact if_neg fun any => absurd (Basket.any_isSnack.1 any) (by simp [b, none])
    · refine ⟨s.issueOrderOf b c, if_pos (Basket.any_isSnack.2 snacks), rfl, rfl,
        snackEntries_serials (issueLineOf_isSome _) _ _ (issueLineOf_serial _), fun i sc bound => ?_, fun unbound => ?_,
        fun j item amount g hj => snackEntries_get (issueLineOf_isSome _) _ _ hj rfl⟩
      · change (s.boundScreening b).map _ = _
        rw [bound]; rfl
      · change (s.boundScreening b).map _ = _
        rw [State.boundScreening_none unbound]; rfl
    · refine ⟨?_, State.printItemsOf_ticket bound hj⟩
      change ((committedLines b c).filterMap (seatEntryOf (s.boundLayout b)))[j]? = _
      rw [committedLines, seatEntries_eq, State.boundLayout_bound bound]
      exact filterMap_get_of_test (seatEntryOf_isSome _) hj rfl
    · refine ⟨s.receiptOf b c, s.printItemsOf_receipt b c, rfl, rfl, rfl, fun none => ?_, fun a k card => ?_, s.receiptOf_codes b c,
        filterMap_length_of_test (summaryOf_isSome _) _, fun j item amount g hj => filterMap_get_of_test (summaryOf_isSome _) hj rfl,
        fun i sc bound j n a kind conc amount g hj => ?_⟩
      · change approvalOf c.payment = _
        rw [none]; rfl
      · change approvalOf c.payment = _
        rw [card]; rfl
      · rw [← State.boundLayout_bound bound]
        exact filterMap_get_of_test (summaryOf_isSome _) hj rfl
  · exact congrArg State.done (if_neg fun h => other.elim (· h.1) (· h.2))

end Sys2Proof.Machine
end

section
/-! What a site time closes (R9, R12, R186). -/

namespace Sys2Proof.Machine

/-! ## An operation on every drop, once each -/

section
variable {α : Type} {P : State → Prop} {view : State → Drop → α} {f : State → Drop → State} {ds : List Drop}

theorem foldl_apart (others : ∀ t d e, e ≠ d → view (f t d) e = view t e) {d : Drop} (hd : d ∉ ds) (s : State) :
    view (ds.foldl f s) d = view s d := by
  induction ds generalizing s with
  | nil => rfl
  | cons x ds ih =>
    rw [List.mem_cons, not_or] at hd
    exact (ih hd.2 _).trans (others s x d hd.1)

/-- What each drop's turn keeps, the drop being as it was at the start, the whole fold keeps. -/
theorem foldl_turns (others : ∀ t d e, e ≠ d → view (f t d) e = view t e) (distinct : ds.Nodup) {s : State}
    (turn : ∀ t d, d ∈ ds → P t → view t d = view s d → P (f t d)) (hs : P s) : P (ds.foldl f s) := by
  have all : ∀ (l : List Drop) (t : State), l.Nodup → (∀ d ∈ l, d ∈ ds ∧ view t d = view s d) → P t → P (l.foldl f t) := by
    intro l
    induction l with
    | nil => exact fun _ _ _ ht => ht
    | cons x l ih =>
      intro t nodup same ht
      obtain ⟨fresh, rest⟩ := List.nodup_cons.1 nodup
      obtain ⟨hx, sx⟩ := same x List.mem_cons_self
      refine ih _ rest (fun d hd => ?_) (turn t x hx ht sx)
      obtain ⟨hd', sd⟩ := same d (List.mem_cons_of_mem _ hd)
      exact ⟨hd', (others t x d fun e => fresh (e ▸ hd)).trans sd⟩
  exact all ds s distinct (fun d hd => ⟨hd, rfl⟩) hs

/-- The turn of one drop, with the turns before it and after it. -/
theorem foldl_turn (others : ∀ t d e, e ≠ d → view (f t d) e = view t e) (distinct : ds.Nodup) {s : State}
    (turn : ∀ t d, d ∈ ds → P t → view t d = view s d → P (f t d)) (hs : P s) {d : Drop} (hd : d ∈ ds) :
    ∃ (t : State) (rest : List Drop), P t ∧ view t d = view s d ∧ d ∉ rest ∧ ds.foldl f s = rest.foldl f (f t d) := by
  obtain ⟨before, rest, rfl⟩ := List.append_of_mem hd
  obtain ⟨nodup, tail, apart⟩ := List.nodup_append.1 distinct
  have fresh : d ∉ before := fun h => apart d h d List.mem_cons_self rfl
  refine ⟨before.foldl f s, rest, foldl_turns others nodup (fun t e he => turn t e (List.mem_append_left _ he)) hs,
    foldl_apart others fresh s, (List.nodup_cons.1 tail).1, by rw [List.foldl_append, List.foldl_cons]⟩

end

/-! ## Screenings whose seats become FREE (R13, R26) -/

/-- Seats of a screening have become FREE, and it may have gone from CLOSING to CLOSED. -/
structure eased (x y : Screening) : Prop where
  form : y = { x with state := y.state, counts := y.counts, seats := y.seats }
  state : y.state = x.state ∨ x.state = .closing ∧ y.state = .closed
  seats : ∀ a, y.stateAt a = x.stateAt a ∨ y.stateAt a = (x.stateAt a).map fun _ => .free

theorem eased.refl (x : Screening) : eased x x := ⟨rfl, .inl rfl, fun _ => .inl rfl⟩

theorem eased.trans {x y z : Screening} (h : eased x y) (k : eased y z) : eased x z := by
  refine ⟨by rw [k.form, h.form], ?_, fun a => ?_⟩
  · obtain e | ⟨e, f⟩ := k.state
    · rw [e]; exact h.state
    · obtain g | ⟨-, g⟩ := h.state
      · exact .inr ⟨g.symm.trans e, f⟩
      · rw [g] at e; cases e
  · obtain e | e := k.seats a <;> obtain g | g := h.seats a <;> rw [e, g]
    · exact .inl rfl
    · exact .inr rfl
    · exact .inr rfl
    · exact .inr (by rw [Option.map_map]; rfl)

theorem eased.tested (x : Screening) : eased x x.tested := by
  refine ⟨?_, ?_, fun a => .inl (x.tested_stateAt a)⟩ <;> unfold Screening.tested <;> split
  · rfl
  · rfl
  · exact .inr ⟨And.left ‹_›, rfl⟩
  · exact .inl rfl

theorem eased.setSeat (x : Screening) (a : SeatAddr) : eased x (x.setSeat a .free) := by
  refine ⟨?_, .inl (by simp), fun b => ?_⟩
  · conv_lhs => rw [Screening.setSeat_form]
    simp
  · rw [Screening.stateAt_setSeat]
    split
    · rename_i e; rw [e]; exact .inr rfl
    · exact .inl rfl

/-- Two tables of screenings, slot by slot. -/
def State.slotsBy (R : Screening → Screening → Prop) (s t : State) : Prop :=
  ∀ i, (s.screening i = none → t.screening i = none) ∧ ∀ x, s.screening i = some x → ∃ y, t.screening i = some y ∧ R x y

section
variable {R : Screening → Screening → Prop} {s t u : State}

theorem State.slotsBy.of_same (refl : ∀ x, R x x) (h : ∀ i, t.screening i = s.screening i) : State.slotsBy R s t := fun i =>
  ⟨fun none => (h i).trans none, fun x hx => ⟨x, (h i).trans hx, refl x⟩⟩

theorem State.slotsBy.trans (trans : ∀ {x y z}, R x y → R y z → R x z) (h : State.slotsBy R s t) (k : State.slotsBy R t u) :
    State.slotsBy R s u := fun i => ⟨fun none => (k i).1 ((h i).1 none), fun x hx => by
  obtain ⟨y, hy, r⟩ := (h i).2 x hx
  obtain ⟨z, hz, r'⟩ := (k i).2 y hy
  exact ⟨z, hz, trans r r'⟩⟩

theorem State.slotsBy.mono {R' : Screening → Screening → Prop} (weaker : ∀ {x y}, R x y → R' x y) (h : State.slotsBy R s t) :
    State.slotsBy R' s t := fun i => ⟨(h i).1, fun x hx => by
  obtain ⟨y, hy, r⟩ := (h i).2 x hx
  exact ⟨y, hy, weaker r⟩⟩

theorem State.slotsBy.origin (h : State.slotsBy R s t) {i : Fin 16} {y : Screening} (hy : t.screening i = some y) :
    ∃ x, s.screening i = some x ∧ R x y := by
  cases hx : s.screening i with
  | none => rw [(h i).1 hx] at hy; cases hy
  | some x =>
    obtain ⟨z, hz, r⟩ := (h i).2 x hx
    rw [hy] at hz
    cases hz
    exact ⟨x, rfl, r⟩

/-- The screenings of a state have only eased in another. -/
abbrev State.easedTo (s t : State) : Prop := State.slotsBy eased s t

theorem State.easedTo.of_same (h : ∀ i, t.screening i = s.screening i) : s.easedTo t := State.slotsBy.of_same eased.refl h

theorem State.easedTo.trans (h : s.easedTo t) (k : t.easedTo u) : s.easedTo u := State.slotsBy.trans eased.trans h k

end

section
variable (s : State)

theorem State.closeTest_eased (i : Fin 16) : s.easedTo (s.closeTest i) := fun j => by
  rw [State.closeTest_screening]
  split
  · rename_i here
    subst here
    exact ⟨fun none => by rw [none]; rfl, fun x hx => ⟨_, by rw [hx]; rfl, .tested x⟩⟩
  · exact ⟨id, fun x hx => ⟨x, hx, .refl x⟩⟩

theorem State.putSeat_eased (n : Nat) (a : SeatAddr) : s.easedTo (s.putSeat n a .free) := by
  cases found : s.findScreening n with
  | none => rw [State.putSeat_none _ _ _ _ found]; exact .of_same fun _ => rfl
  | some p =>
    obtain ⟨i, x⟩ := p
    intro j
    rw [State.putSeat_screening _ _ _ _ i j x found]
    split
    · rename_i here
      subst here
      rw [State.findScreening_slot found]
      exact ⟨nofun, fun z hz => ⟨_, rfl, by cases hz; exact (eased.setSeat x a).trans (.tested _)⟩⟩
    · exact ⟨id, fun z hz => ⟨z, hz, .refl z⟩⟩

theorem State.releaseLines_eased (ls : List BasketLine) : s.easedTo (s.releaseLines ls) := by
  refine List.foldlRecOn (motive := fun u => State.easedTo s u) ls _ (.of_same fun _ => rfl) fun u hu l _ => ?_
  cases l with
  | seat n a _ _ _ _ => exact State.easedTo.trans hu (State.putSeat_eased u n a)
  | snack _ _ _ => exact hu
  | void => exact hu

theorem State.reprice_eased (d : Drop) : s.easedTo (s.reprice d) :=
  (s.releaseLines_eased _).trans (.of_same fun _ => rfl)

theorem State.pushBasket_eased (d : Drop) (r : PushReason) : s.easedTo (s.pushBasket d r) := by
  refine State.easedTo.trans (t := s.repriceForPush d) ?_ (.of_same fun _ => rfl)
  unfold State.repriceForPush
  split
  · exact s.reprice_eased d
  · exact .of_same fun _ => rfl

theorem State.closeForBasket_eased (n : Nat) (d : Drop) : s.easedTo (State.closeForBasket n s d) := by
  unfold State.closeForBasket
  dsimp only
  split
  · refine State.easedTo.trans ?_ (State.pushBasket_eased _ d _)
    exact (s.releaseLines_eased _).trans (.of_same fun _ => rfl)
  · exact .of_same fun _ => rfl

/-- A closing sets one screening CLOSING, and then only eases (R12, R13). -/
theorem State.enterClosing_eased (i : Fin 16) (sc : Screening) :
    (s.setScreening i (some { sc with state := .closing })).easedTo (s.enterClosing i sc) := by
  obtain ⟨ds, -, -, e⟩ := s.enterClosing_eq i sc
  rw [e]
  refine State.easedTo.trans ?_ (State.closeTest_eased _ i)
  refine List.foldlRecOn (motive := fun u => State.easedTo _ u) ds _ (.of_same fun _ => rfl) fun u hu d _ => ?_
  exact State.easedTo.trans hu (State.closeForBasket_eased u _ d)

theorem State.closeForBasket_basketFrame (n : Nat) (d : Drop) : basketFrame d s (State.closeForBasket n s d) := by
  unfold State.closeForBasket
  dsimp only
  split
  · exact ((s.releaseLines_basketFrame d _).trans (State.setBasket_basketFrame _ d _)).trans (State.pushBasket_basketFrame _ d _)
  · exact .refl d s

end

/-- A basket with no line of the screening keeps its slots too, as any that is not OPEN (R12). -/
theorem State.enterClosing_apart (s : State) (i : Fin 16) (sc : Screening) (d : Drop)
    (apart : (s.basket d).state ≠ .opened ∨ (s.basket d).lines.any (BasketLine.inScreening sc.number) = false) :
    (s.enterClosing i sc).basket d = s.basket d ∧ (s.enterClosing i sc).dropRec d = s.dropRec d := by
  obtain ⟨ds, distinct, all, e⟩ := s.enterClosing_eq i sc
  set begun := (s.setScreening i (some { sc with state := .closing })).raise .screening
  have others : ∀ (t : State) (d e : Drop), e ≠ d → ((State.closeForBasket sc.number t d).basket e,
      (State.closeForBasket sc.number t d).dropRec e) =
      (t.basket e, t.dropRec e) := by
    intro t d e he
    obtain ⟨baskets, slots, -⟩ := t.closeForBasket_basketFrame sc.number d
    rw [baskets e he, slots.1 e he]
  obtain ⟨t, rest, -, same, fresh, last⟩ := foldl_turn (P := fun _ => True) (view := fun t d => (t.basket d, t.dropRec d)) others distinct
    (s := begun) (fun _ _ _ _ _ => trivial) trivial (all d)
  have before : t.basket d = s.basket d ∧ t.dropRec d = s.dropRec d := ⟨congrArg Prod.fst same, congrArg Prod.snd same⟩
  have own : State.closeForBasket sc.number t d = t := by
    refine if_neg fun hit => ?_
    rw [before.1] at hit
    obtain shut | none := apart
    · exact shut hit.1
    · rw [hit.2] at none; cases none
  have after := foldl_apart (view := fun t d => (t.basket d, t.dropRec d)) others fresh (State.closeForBasket sc.number t d)
  rw [e, State.closeTest_basket]
  have tested : ∀ w : State, (w.closeTest i).dropRec d = w.dropRec d := fun w =>
    congrArg (fun k : Klc => vget k.drops d) (State.closeTest_kept (s := w) (L := [.sbu, .hlc]) i (by decide) (by decide) .klc (by decide))
  rw [tested, last]
  rw [own] at after ⊢
  exact ⟨(congrArg Prod.fst after).trans before.1, (congrArg Prod.snd after).trans before.2⟩

/-! ## The closings of a site time (R9, R12) -/

/-- A screening that has not opened since, seats and counts aside. -/
structure aged (x y : Screening) : Prop where
  form : y = { x with state := y.state, counts := y.counts, seats := y.seats }
  onSale : y.state = .onSale → x.state = .onSale

theorem aged.refl (x : Screening) : aged x x := ⟨rfl, id⟩

theorem aged.trans {x y z : Screening} (h : aged x y) (k : aged y z) : aged x z := ⟨by rw [k.form, h.form], h.onSale ∘ k.onSale⟩

theorem eased.aged {x y : Screening} (h : eased x y) : aged x y := by
  refine ⟨h.form, fun onSale => ?_⟩
  obtain e | ⟨-, e⟩ := h.state
  · exact e.symm.trans onSale
  · rw [e] at onSale; cases onSale

theorem eased.onSale {x y : Screening} (h : eased x y) (onSale : x.state = .onSale) : y.state = .onSale := by
  obtain e | ⟨e, -⟩ := h.state
  · exact e.trans onSale
  · rw [onSale] at e; cases e

theorem aged.number {x y : Screening} (h : aged x y) : y.number = x.number := by rw [h.form]

theorem aged.closeTime {x y : Screening} (h : aged x y) : y.closeTime = x.closeTime := by rw [h.form]; rfl

section
variable {s t : State} {now : SiteTime}

/-- The turn of one slot at a site time: it closes when due, and the other slots only ease. -/
theorem State.closeIfDue_cases (now : SiteTime) (t : State) (i : Fin 16) :
    (∃ sc, t.screening i = some sc ∧ sc.state = .onSale ∧ siteSeconds sc.closeTime ≤ siteSeconds now ∧
      State.closeIfDue now t i = t.enterClosing i sc) ∨
    ¬ t.dueAt now i ∧ State.closeIfDue now t i = t := by
  unfold State.closeIfDue
  cases hi : t.screening i with
  | none => exact .inr ⟨fun ⟨sc, h, _⟩ => (by rw [hi] at h; cases h), rfl⟩
  | some sc =>
    by_cases due : sc.state = .onSale ∧ notLater sc.closeTime now = true
    · exact .inl ⟨sc, rfl, due.1, by simpa [notLater] using due.2, if_pos due⟩
    · refine .inr ⟨fun ⟨z, h, onSale, late⟩ => due ?_, if_neg due⟩
      rw [hi] at h
      cases h
      exact ⟨onSale, by simpa [notLater] using late⟩

theorem State.closeIfDue_aged (i : Fin 16) : State.slotsBy aged t (State.closeIfDue now t i) := by
  obtain ⟨sc, hi, onSale, -, e⟩ | ⟨-, e⟩ := State.closeIfDue_cases now t i <;> rw [e]
  · refine State.slotsBy.trans aged.trans (t := t.setScreening i (some { sc with state := .closing })) (fun j => ?_)
      (State.slotsBy.mono eased.aged (t.enterClosing_eased i sc))
    rw [State.setScreening_screening]
    split
    · rename_i here
      subst here
      rw [hi]
      exact ⟨nofun, fun x hx => ⟨_, rfl, by cases hx; exact ⟨rfl, nofun⟩⟩⟩
    · exact ⟨id, fun x hx => ⟨x, hx, .refl x⟩⟩
  · exact .of_same aged.refl fun _ => rfl

theorem State.closeIfDue_eased {i j : Fin 16} (other : j ≠ i) {x : Screening} (hx : t.screening j = some x) :
    ∃ y, (State.closeIfDue now t i).screening j = some y ∧ eased x y := by
  obtain ⟨sc, -, -, -, e⟩ | ⟨-, e⟩ := State.closeIfDue_cases now t i <;> rw [e]
  · exact (t.enterClosing_eased i sc j).2 x ((State.setScreening_screening_ne _ _ _ other).trans hx)
  · exact ⟨x, hx, .refl x⟩

/-- After its turn a slot holds no ON_SALE screening that is due. -/
theorem State.closeIfDue_done {i : Fin 16} {y : Screening} (hy : (State.closeIfDue now t i).screening i = some y)
    (onSale : y.state = .onSale) : siteSeconds now < siteSeconds y.closeTime := by
  obtain ⟨sc, -, -, -, e⟩ | ⟨early, e⟩ := State.closeIfDue_cases now t i <;> rw [e] at hy
  · obtain ⟨x, hx, from_⟩ := State.slotsBy.origin (t.enterClosing_eased i sc) hy
    rw [State.setScreening_screening_same] at hx
    cases hx
    cases from_.aged.onSale onSale
  · exact not_le.1 fun late => early ⟨y, hy, onSale, late⟩

/-- The turns before a slot's, its own, and those after. -/
theorem State.closeDue_split (s : State) (now : SiteTime) (i : Fin 16) :
    ∃ before after : List (Fin 16), (∀ j ∈ before, j ≠ i) ∧ s.closeDue now =
      after.foldl (State.closeIfDue now) (State.closeIfDue now (before.foldl (State.closeIfDue now) s) i) := by
  obtain ⟨before, after, split, lower⟩ := finRange_split i
  refine ⟨before, after, fun j hj => (lower j hj).ne, ?_⟩
  rw [State.closeDue, split, List.foldl_append, List.foldl_cons]

theorem State.closeIfDues_aged (is : List (Fin 16)) (t : State) : State.slotsBy aged t (is.foldl (State.closeIfDue now) t) :=
  List.foldlRecOn (motive := fun u => State.slotsBy aged t u) is _ (.of_same aged.refl fun _ => rfl) fun _ hu i _ =>
    State.slotsBy.trans aged.trans hu (State.closeIfDue_aged i)

theorem State.closeDue_aged (s : State) (now : SiteTime) : State.slotsBy aged s (s.closeDue now) := by
  unfold State.closeDue
  exact State.closeIfDues_aged _ s

theorem State.closeIfDue_calm (now : SiteTime) (t : State) (i : Fin 16) : Calm t (State.closeIfDue now t i) := by
  obtain ⟨sc, -, -, -, e⟩ | ⟨-, e⟩ := State.closeIfDue_cases now t i <;> rw [e]
  · exact t.enterClosing_calm i sc
  · exact .refl t

/-- No ON_SALE screening is left that is due (R9). -/
theorem State.closeDue_none_left {i : Fin 16} {y : Screening} (hy : (s.closeDue now).screening i = some y) (onSale : y.state = .onSale) :
    siteSeconds now < siteSeconds y.closeTime := by
  obtain ⟨before, after, -, e⟩ := s.closeDue_split now i
  rw [e] at hy
  obtain ⟨x, hx, from_⟩ := State.slotsBy.origin (State.closeIfDues_aged after _) hy
  rw [from_.closeTime]
  exact State.closeIfDue_done hx (from_.onSale onSale)

/-- A screening that is due raises SCREENING as it closes (R9). -/
theorem State.closeDue_raised {i : Fin 16} (due : s.dueAt now i) : (s.closeDue now).hlc.conditions.raised .screening = true := by
  obtain ⟨sc, hi, onSale, late⟩ := due
  obtain ⟨before, after, others, e⟩ := s.closeDue_split now i
  have waits : ∀ (l : List (Fin 16)) (t : State) (x : Screening), (∀ j ∈ l, j ≠ i) → t.screening i = some x → x.state = .onSale →
      siteSeconds x.closeTime ≤ siteSeconds now → (l.foldl (State.closeIfDue now) t).dueAt now i := by
    intro l
    induction l with
    | nil => exact fun t x _ hx onSale late => ⟨x, hx, onSale, late⟩
    | cons j l ih =>
      intro t x others hx onSale late
      obtain ⟨y, hy, from_⟩ := State.closeIfDue_eased (now := now) (others j List.mem_cons_self).symm hx
      exact ih _ y (fun k hk => others k (List.mem_cons_of_mem _ hk)) hy (from_.onSale onSale) (by rw [from_.aged.closeTime]; exact late)
  have turn := waits before s sc others hi onSale late
  rw [e]
  refine (Calm.foldl (fun t j => t.closeIfDue_calm now j) after _).raised _ ?_
  obtain ⟨x, -, -, -, closes⟩ | ⟨early, -⟩ := State.closeIfDue_cases now (before.foldl (State.closeIfDue now) s) i
  · rw [closes]; exact State.enterClosing_raised _ i x
  · exact absurd turn early

/-- A basket that is not OPEN, or has no line of a screening that is due, stays as it is, its slots too (R12). -/
theorem State.closeDue_apart (s : State) (now : SiteTime) (d : Drop)
    (apart : (s.basket d).state ≠ .opened ∨ ∀ i sc, s.dueAt now i → s.screening i = some sc →
      (s.basket d).lines.any (BasketLine.inScreening sc.number) = false) :
    (s.closeDue now).basket d = s.basket d ∧ (s.closeDue now).dropRec d = s.dropRec d := by
  unfold State.closeDue
  refine (List.foldlRecOn (motive := fun u => State.slotsBy aged s u ∧ u.basket d = s.basket d ∧ u.dropRec d = s.dropRec d) _ _
    ⟨.of_same aged.refl fun _ => rfl, rfl, rfl⟩ fun u hu i _ => ?_).2
  obtain ⟨from_, basket, slots⟩ := hu
  refine ⟨State.slotsBy.trans aged.trans from_ (State.closeIfDue_aged i), ?_⟩
  obtain ⟨sc, hi, onSale, late, e⟩ | ⟨-, e⟩ := State.closeIfDue_cases now u i <;> rw [e]
  · obtain ⟨x, hx, aged⟩ := State.slotsBy.origin from_ hi
    have untouched := State.enterClosing_apart u i sc d (apart.imp (by rw [basket]; exact id) fun none => by
      rw [basket, aged.number]
      exact none i x ⟨x, hx, aged.onSale onSale, by rw [← aged.closeTime]; exact late⟩ hx)
    exact ⟨untouched.1.trans basket, untouched.2.trans slots⟩
  · exact ⟨basket, slots⟩

end

/-- Settles O21. -/
theorem setClockStepsTheSite : Obligations.SetClockStepsTheSite := by
  unfold Obligations.SetClockStepsTheSite
  intro h now s started day second
  let t := s.accept (.setClock h (some now))
  have taken : ∀ u, State.setClock h now t = u → exec (.setClock h (some now)) s = .next u.transmit := fun u act => by
    refine (State.serveWith_act t h .none (State.setClock h) now ?_).trans (congrArg State.done act)
    change readyOrNeed s.hlc.partState = true
    cases e : s.hlc.partState with
    | starting => exact absurd e started
    | _ => rfl
  have valid : now.day ≤ 65535 ∧ now.second ≤ 86399 := ⟨day, second⟩
  refine ⟨fun back => taken _ ((if_pos valid).trans (if_pos back)), fun forward => ?_⟩
  set v := t.setHlc { t.hlc with clock := now } with hv
  have step : t.stepClock now = (v.closeDue now).sweep now := rfl
  have left := fun i y => State.closeDue_none_left (s := v) (now := now) (i := i) (y := y)
  have closed := fun distinct law => v.closeDue_closed now distinct law
  have raised := fun i => State.closeDue_raised (s := v) (now := now) (i := i)
  have apart := v.closeDue_apart now
  have lines := v.closeDue_lines now
  have vcu := t.stepClock_vcu now
  have clock := t.stepClock_clock now
  have kept := t.stepClock_keeps now
  have act : State.setClock h now t = (t.stepClock now).replyHost h .ok (.time s.hlc.clock) :=
    (if_pos valid).trans (if_neg (not_lt.2 forward))
  rw [step] at vcu clock kept act
  generalize v.closeDue now = w at *
  refine ⟨w.sweep now, taken _ act, clock, fun i sc hi onSale => left i sc hi onSale, ⟨fun distinct law => ?_, fun ⟨i,
    due⟩ => raised i due⟩,
    ?_, fun d shut => (apart d (.inl shut)).1, lines, (s.accept_kept _ (by decide)).trans (kept.frame.mono (by decide))⟩
  · exact (closed distinct law).blocks rfl rfl rfl rfl rfl rfl
  · rw [vcu]; rfl

end Sys2Proof.Machine
end

section
/-! Prices and seats while seats become FREE (R26, R37). -/

namespace Sys2Proof.Machine

/-! ## Prices under screenings whose seats become FREE (R37) -/

section
variable {s t : State}

/-- The first screening of a number stays in its slot. -/
theorem State.easedTo.findScreening (h : s.easedTo t) {n : Nat} {i : Fin 16} {x : Screening} (found : s.findScreening n = some (i, x)) :
    ∃ y, t.findScreening n = some (i, y) ∧ eased x y := by
  unfold State.findScreening at *
  generalize List.finRange 16 = is at *
  induction is with
  | nil => cases found
  | cons j is ih =>
    rw [List.findSome?_cons] at found ⊢
    cases hj : s.screening j with
    | none =>
      rw [hj] at found
      rw [(h j).1 hj]
      exact ih found
    | some z =>
      obtain ⟨w, hw, from_⟩ := (h j).2 z hj
      rw [hj] at found
      rw [hw]
      dsimp only at found ⊢
      rw [from_.aged.number]
      by_cases hit : (z.number == n) = true
      · rw [if_pos hit] at found ⊢
        cases found
        exact ⟨w, rfl, from_⟩
      · rw [if_neg hit] at found ⊢
        exact ih found

theorem State.easedTo.findScreening_none (h : s.easedTo t) {n : Nat} (absent : s.findScreening n = none) : t.findScreening n = none := by
  refine State.findScreening_eq_none fun j y hy => ?_
  obtain ⟨x, hx, from_⟩ := State.slotsBy.origin h hy
  rw [from_.aged.number]
  exact State.findScreening_none absent hx

/-- The seats' states are no part of a price. -/
theorem State.easedTo.linePrice (h : s.easedTo t) (fau : t.fau = s.fau) : t.linePrice = s.linePrice := by
  funext o l
  cases l with
  | void => rfl
  | snack item m g => simp only [State.linePrice, fau]
  | seat n a k c m g =>
    simp only [State.linePrice, fau, eq_iff_iff]
    have same : ∀ {x y : Screening}, eased x y → seatQueryOf y k c = seatQueryOf x k c := fun e => by rw [e.form]; rfl
    cases found : s.findScreening n with
    | none => simp [State.easedTo.findScreening_none h found]
    | some p =>
      obtain ⟨i, x⟩ := p
      obtain ⟨y, hy, from_⟩ := h.findScreening found
      simp [hy, same from_]

theorem pricedWhole.of_prices {b c : Basket} (prices : t.linePrice = s.linePrice) (fau : t.fau = s.fau) (h : pricedWhole b t c) :
    pricedWhole b s c := by
  unfold pricedWhole at *
  rw [prices, fau] at h
  exact h

/-! ## Which seats a release frees (R26) -/

theorem eased.stays_free {x y : Screening} (h : eased x y) {a : SeatAddr} {o : Option SeatState}
    (free : x.stateAt a = o.map fun _ => .free) : y.stateAt a = o.map fun _ => .free := by
  obtain e | e := h.seats a <;> rw [e, free]
  rw [Option.map_map]; rfl

/-- The seat of a line that goes is FREE. -/
theorem State.releaseLines_frees {n : Nat} {i : Fin 16} {x : Screening} (found : s.findScreening n = some (i, x)) {ls : List BasketLine}
    {a : SeatAddr} {k : SeatKind} {c : Concession} {m g : Nat} (mem : BasketLine.seat n a k c m g ∈ ls) :
    ∃ y, (s.releaseLines ls).screening i = some y ∧ y.stateAt a = (x.stateAt a).map fun _ => .free := by
  obtain ⟨before, after, rfl⟩ := List.append_of_mem mem
  have first : s.easedTo (s.releaseLines before) := s.releaseLines_eased before
  obtain ⟨y, hy, from_⟩ := first.findScreening found
  let w := (s.releaseLines before).putSeat n a .free
  have put : w.screening i = some (y.setSeat a .free).tested := by
    rw [State.putSeat_screening _ _ _ _ i i y hy, if_pos rfl]
  have free : (y.setSeat a .free).tested.stateAt a = (x.stateAt a).map fun _ => .free := by
    rw [Screening.tested_stateAt, Screening.stateAt_setSeat, if_pos rfl]
    obtain e | e := from_.seats a <;> rw [e]
    rw [Option.map_map]; rfl
  obtain ⟨z, hz, last⟩ := (w.releaseLines_eased after i).2 _ put
  refine ⟨z, ?_, last.stays_free free⟩
  rw [← hz]
  unfold State.releaseLines
  rw [List.foldl_append, List.foldl_cons]
  rfl

/-- A seat that no line names stays as it is. -/
theorem State.releaseLines_spares {i : Fin 16} {x : Screening} (hx : s.screening i = some x) {a : SeatAddr} {ls : List BasketLine}
    (spared : ∀ l ∈ ls, l.names x.number a = false) :
    ∃ y, (s.releaseLines ls).screening i = some y ∧ y.stateAt a = x.stateAt a ∧ y.number = x.number := by
  unfold State.releaseLines
  refine List.foldlRecOn (motive := fun u => ∃ y, State.screening u i = some y ∧ y.stateAt a = x.stateAt a ∧ y.number = x.number) ls _
    ⟨x, hx, rfl, rfl⟩ fun u hu l hl => ?_
  obtain ⟨y, hy, same, number⟩ := hu
  cases l with
  | snack _ _ _ => exact ⟨y, hy, same, number⟩
  | void => exact ⟨y, hy, same, number⟩
  | seat n b k c m g =>
    change ∃ y, (u.putSeat n b .free).screening i = some y ∧ _
    cases found : u.findScreening n with
    | none => rw [State.putSeat_none _ _ _ _ found]; exact ⟨y, hy, same, number⟩
    | some p =>
      obtain ⟨j, z⟩ := p
      rw [State.putSeat_screening _ _ _ _ j i z found]
      by_cases here : i = j
      · subst here
        obtain rfl : z = y := Option.some.inj ((State.findScreening_slot found).symm.trans hy)
        have other : a ≠ b := by
          rintro rfl
          have := spared _ hl
          rw [← number, State.findScreening_number found] at this
          simp [BasketLine.names] at this
        refine ⟨_, if_pos rfl, ?_, by rw [Screening.tested_number, Screening.setSeat_number, number]⟩
        rw [Screening.tested_stateAt, Screening.stateAt_setSeat, if_neg other, same]
      · exact ⟨y, (if_neg here).trans hy, same, number⟩

end

end Sys2Proof.Machine
end

section
/-! The counting of holds and sessions, drop by drop (R38, R93). -/

namespace Sys2Proof.Machine

@[simp] theorem State.send_nil (t : State) : t.send [] = t := by simp [State.send]

/-! ## The hold countdown of one drop (R38, R39) -/

/-- A basket with its countdown down by 1, warned as it reaches 30. -/
def Basket.held (b : Basket) : Basket := { b with countdown := b.countdown - 1, warned := b.warned || b.countdown == 31 }

/-- Whether a basket is warned at this second (R38). -/
def Basket.warnsNow (b : Basket) : Prop := b.state = .opened ∧ b.countdown = 31 ∧ b.warned = false

section
variable (t : State) (d : Drop)

theorem State.countHold_stands (h : (t.basket d).state ≠ .opened ∨ (t.basket d).countdown = 0) : t.countHold d = t :=
  if_neg fun ⟨opened, left⟩ => h.elim (· opened) fun zero => by omega

theorem State.countHold_warns (h : (t.basket d).warnsNow) :
    t.countHold d = (t.setBasket d (t.basket d).held).pushBasket d .holdWarning := by
  obtain ⟨opened, at31, fresh⟩ := h
  have same : ({ (t.basket d).counted with warned := true } : Basket) = (t.basket d).held := by
    simp [Basket.held, Basket.counted, at31]
  rw [← same]
  exact (if_pos ⟨opened, by omega⟩).trans (if_pos ⟨at31, fresh⟩)

theorem State.countHold_counts (opened : (t.basket d).state = .opened) (left : 0 < (t.basket d).countdown)
    (calm : (t.basket d).countdown ≠ 31 ∨ (t.basket d).warned = true) :
    t.countHold d = (t.setBasket d (t.basket d).held).send (if (t.basket d).countdown = 1 then [.holdExpiry d] else []) := by
  have same : (t.basket d).counted = (t.basket d).held := by
    unfold Basket.held Basket.counted
    obtain other | warned := calm
    · simp [other]
    · simp [warned]
  have quiet : ¬((t.basket d).countdown = 31 ∧ (t.basket d).warned = false) := fun ⟨at31, fresh⟩ =>
    calm.elim (· at31) fun warned => by rw [fresh] at warned; cases warned
  rw [← same]
  refine (if_pos ⟨opened, left⟩).trans ((if_neg quiet).trans ?_)
  split
  · rfl
  · exact (State.send_nil _).symm

/-- The three things a second may do to a hold. -/
theorem State.countHold_cases :
    ((t.basket d).state ≠ .opened ∨ (t.basket d).countdown = 0) ∨ (t.basket d).warnsNow ∨
      (t.basket d).state = .opened ∧ 0 < (t.basket d).countdown ∧ ((t.basket d).countdown ≠ 31 ∨ (t.basket d).warned = true) := by
  unfold Basket.warnsNow
  cases (t.basket d).state <;> cases (t.basket d).warned <;> simp <;> omega

theorem State.countHold_basketFrame : basketFrame d t (t.countHold d) := by
  obtain stands | warns | ⟨opened, left, calm⟩ := t.countHold_cases d
  · rw [t.countHold_stands d stands]; exact .refl d t
  · rw [t.countHold_warns d warns]
    exact (t.setBasket_basketFrame d _).trans (State.pushBasket_basketFrame _ d _)
  · rw [t.countHold_counts d opened left calm]
    exact (t.setBasket_basketFrame d _).trans (State.send_basketFrame _ d _)

theorem State.countHold_eased : t.easedTo (t.countHold d) := by
  obtain stands | warns | ⟨opened, left, calm⟩ := t.countHold_cases d
  · rw [t.countHold_stands d stands]; exact .of_same fun _ => rfl
  · rw [t.countHold_warns d warns]
    exact State.easedTo.trans (t := t.setBasket d (t.basket d).held) (.of_same fun _ => rfl) (State.pushBasket_eased _ d _)
  · rw [t.countHold_counts d opened left calm]; exact .of_same fun _ => rfl

theorem State.countHold_orders : ∃ cs, (t.countHold d).orders = t.orders ++ cs := by
  obtain stands | warns | ⟨opened, left, calm⟩ := t.countHold_cases d
  · exact ⟨[], by rw [t.countHold_stands d stands, List.append_nil]⟩
  · exact ⟨[], by rw [t.countHold_warns d warns, State.pushBasket_orders, List.append_nil]; rfl⟩
  · exact ⟨_, by rw [t.countHold_counts d opened left calm]; rfl⟩

theorem State.countHold_fau : (t.countHold d).fau = t.fau :=
  (t.countHold_keeps (d := d)).frame .fau (by decide)

variable {t d}

/-- A seat is freed at a drop's turn only for a line refused as a warned basket is priced whole (R37, R38). -/
theorem State.countHold_spares {i : Fin 16} {x : Screening} (hx : t.screening i = some x) {a : SeatAddr}
    (spared : (t.basket d).warnsNow → (t.basket d).generation ≠ t.fau.generation → ∀ l ∈ (t.basket d).lines,
      l.names x.number a = true → ∀ code, ¬ t.linePrice (.refused code) l) :
    ∃ y, (t.countHold d).screening i = some y ∧ y.stateAt a = x.stateAt a ∧ y.number = x.number := by
  obtain stands | warns | ⟨opened, left, calm⟩ := t.countHold_cases d
  · rw [t.countHold_stands d stands]; exact ⟨x, hx, rfl, rfl⟩
  · rw [t.countHold_warns d warns]
    set v := t.setBasket d (t.basket d).held with hv
    have basket : v.basket d = (t.basket d).held := State.setBasket_basket_same _ _ _
    by_cases old : (t.basket d).generation = t.fau.generation
    · obtain ⟨-, same⟩ := State.pushBasket_fresh (s := v) (d := d) .holdWarning (.inr (by rw [basket]; exact old))
      exact ⟨x, (same i).trans hx, rfl, rfl⟩
    · obtain ⟨-, same⟩ := State.pushBasket_stale (s := v) (d := d) .holdWarning (by rw [basket]; exact warns.1) (by rw [basket]; exact old)
      rw [same]
      refine State.releaseLines_spares (s := v) hx fun l hl => ?_
      obtain ⟨hl, refused⟩ := List.mem_filter.1 hl
      rw [basket] at hl
      obtain ⟨code, price⟩ := refusedOutcome_iff.1 refused
      by_contra named
      exact spared warns old l hl (by simpa using named) code price
  · rw [t.countHold_counts d opened left calm]; exact ⟨x, hx, rfl, rfl⟩

/-- A line refused at a warned basket's whole pricing gives its seat back (R37). -/
theorem State.countHold_frees (warns : (t.basket d).warnsNow) (old : (t.basket d).generation ≠ t.fau.generation) {n : Nat} {a : SeatAddr}
    {k : SeatKind} {c : Concession} {m g : Nat} {code : Code} {i : Fin 16} {x : Screening}
    (mem : BasketLine.seat n a k c m g ∈ (t.basket d).lines) (refused : t.linePrice (.refused code) (.seat n a k c m g))
    (found : t.findScreening n = some (i, x)) :
    ∃ y, (t.countHold d).screening i = some y ∧ y.stateAt a = (x.stateAt a).map fun _ => .free := by
  rw [t.countHold_warns d warns]
  set v := t.setBasket d (t.basket d).held with hv
  have basket : v.basket d = (t.basket d).held := State.setBasket_basket_same _ _ _
  obtain ⟨-, same⟩ := State.pushBasket_stale (s := v) (d := d) .holdWarning (by rw [basket]; exact warns.1) (by rw [basket]; exact old)
  rw [same]
  refine State.releaseLines_frees (s := v) found (k := k) (c := c) (m := m) (g := g) (List.mem_filter.2 ⟨?_, ?_⟩)
  · rw [basket]; exact mem
  · exact refusedOutcome_iff.2 ⟨code, refused⟩

end

/-! ## The session countdowns of one drop (R93, R102, R108) -/

/-- A session with its countdown of the state it waits in down by 1. -/
def Session.counted (x : Session) : Session :=
  { x with cardWait := if x.state = .cardWait then x.cardWait.map (· - 1) else x.cardWait
           authWait := if x.state = .authPending then x.authWait.map (· - 1) else x.authWait }

/-- The timeouts that a second makes due. -/
def Session.timeouts (x : Session) (d : Drop) : List Instr :=
  if x.state = .cardWait ∧ x.cardWait = some 1 then [.cardWaitTimeout d]
  else if x.state = .authPending ∧ x.authWait = some 1 then [.authTimeout d] else []

/-- A second at the session of a drop. -/
def State.countSession (t : State) (d : Drop) : State := (t.countCardWait d).countAuth d

section
variable (t : State) (d : Drop)

@[simp] theorem State.setSession_self : t.setSession d (t.session d) = t := by
  simp [State.setSession, State.session, vput, vget]

theorem State.countCardWait_waiting (waits : (t.session d).state = .cardWait) :
    t.countCardWait d = (t.setSession d (t.session d).counted).send ((t.session d).timeouts d) := by
  have counted : (t.session d).counted = { t.session d with cardWait := (t.session d).cardWait.map (· - 1) } := by
    simp [Session.counted, waits]
  have timeouts : (t.session d).timeouts d = if (t.session d).cardWait = some 1 then [.cardWaitTimeout d] else [] := by
    simp [Session.timeouts, waits]
  rw [counted, timeouts, State.countCardWait, waits]
  match h : (t.session d).cardWait with
  | none =>
    have same : ({ t.session d with cardWait := none } : Session) = t.session d := by rw [← h]
    simp [same]
  | some 0 =>
    have same : ({ t.session d with cardWait := some 0 } : Session) = t.session d := by rw [← h]
    simp [same]
  | some (n + 1) => cases n <;> simp

theorem State.countAuth_waiting (waits : (t.session d).state = .authPending) :
    t.countAuth d = (t.setSession d (t.session d).counted).send ((t.session d).timeouts d) := by
  have counted : (t.session d).counted = { t.session d with authWait := (t.session d).authWait.map (· - 1) } := by
    simp [Session.counted, waits]
  have timeouts : (t.session d).timeouts d = if (t.session d).authWait = some 1 then [.authTimeout d] else [] := by
    simp [Session.timeouts, waits]
  rw [counted, timeouts, State.countAuth, waits]
  match h : (t.session d).authWait with
  | none =>
    have same : ({ t.session d with authWait := none } : Session) = t.session d := by rw [← h]
    simp [same]
  | some 0 =>
    have same : ({ t.session d with authWait := some 0 } : Session) = t.session d := by rw [← h]
    simp [same]
  | some (n + 1) => cases n <;> simp

theorem State.countCardWait_other (other : (t.session d).state ≠ .cardWait) : t.countCardWait d = t := by
  unfold State.countCardWait
  split
  · exact absurd ‹_› other
  · rfl

theorem State.countAuth_other (other : (t.session d).state ≠ .authPending) : t.countAuth d = t := by
  unfold State.countAuth
  split
  · exact absurd ‹_› other
  · rfl

/-- A second counts what the session waits for, and orders the timeout that is due. -/
theorem State.countSession_eq : t.countSession d = (t.setSession d (t.session d).counted).send ((t.session d).timeouts d) := by
  unfold State.countSession
  by_cases card : (t.session d).state = .cardWait
  · rw [State.countAuth_other _ d, t.countCardWait_waiting d card]
    rw [t.countCardWait_waiting d card]
    change ((t.setSession d (t.session d).counted).session d).state ≠ _
    rw [State.setSession_session_same]
    simp [Session.counted, card]
  · rw [t.countCardWait_other d card]
    by_cases auth : (t.session d).state = .authPending
    · exact t.countAuth_waiting d auth
    · rw [t.countAuth_other d auth]
      have counted : (t.session d).counted = t.session d := by simp [Session.counted, card, auth]
      have timeouts : (t.session d).timeouts d = [] := by simp [Session.timeouts, card, auth]
      simp [counted, timeouts]

end
/-! ## What a second leaves (R185) -/

section
variable {m : State} {ds : List Drop}

/-- The holds counted, drop by drop. -/
theorem holds_eased (m : State) (ds : List Drop) : m.easedTo (ds.foldl State.countHold m) :=
  List.foldlRecOn (motive := fun u => State.easedTo m u) ds _ (.of_same fun _ => rfl) fun u hu d _ =>
    State.easedTo.trans hu (u.countHold_eased d)

theorem holds_orders (m : State) (ds : List Drop) {c : Instr} (h : c ∈ m.orders) : c ∈ (ds.foldl State.countHold m).orders :=
  List.foldlRecOn (motive := fun u => c ∈ State.orders u) ds _ h fun u hu d _ => by
    obtain ⟨cs, e⟩ := u.countHold_orders d
    rw [e]
    exact List.mem_append_left _ hu

/-- What a basket's turn reads of its drop: the basket and the slots. -/
def State.holdView (t : State) (d : Drop) : Basket × DropRecord := (t.basket d, t.dropRec d)

theorem State.countHold_others (t : State) (d e : Drop) (he : e ≠ d) : (t.countHold d).holdView e = t.holdView e := by
  obtain ⟨baskets, slots, -⟩ := t.countHold_basketFrame d
  rw [State.holdView, State.holdView, baskets e he, slots.1 e he]

/-- The turn of one drop in the counting of the holds. -/
theorem holds_turn (distinct : ds.Nodup) {d : Drop} (hd : d ∈ ds) (m : State) :
    ∃ (t : State) (rest : List Drop), m.easedTo t ∧ t.fau = m.fau ∧ t.basket d = m.basket d ∧ t.dropRec d = m.dropRec d ∧
      ds.foldl State.countHold m = rest.foldl State.countHold (t.countHold d) ∧
      (ds.foldl State.countHold m).basket d = (t.countHold d).basket d ∧
      (ds.foldl State.countHold m).dropRec d = (t.countHold d).dropRec d := by
  obtain ⟨t, rest, ⟨from_, fau⟩, same, fresh, e⟩ := foldl_turn (P := fun t => State.easedTo m t ∧ t.fau = m.fau)
    State.countHold_others distinct (s := m)
    (fun t d _ h _ => ⟨State.easedTo.trans h.1 (t.countHold_eased d), (t.countHold_fau d).trans h.2⟩) ⟨.of_same fun _ => rfl, rfl⟩ hd
  have after := foldl_apart State.countHold_others fresh (t.countHold d)
  rw [← e] at after
  exact ⟨t, rest, from_, fau, congrArg Prod.fst same, congrArg Prod.snd same, e, congrArg Prod.fst after, congrArg Prod.snd after⟩

theorem holds_stands (distinct : ds.Nodup) {d : Drop} (hd : d ∈ ds)
    (h : (m.basket d).state ≠ .opened ∨ (m.basket d).countdown = 0) : (ds.foldl State.countHold m).basket d = m.basket d := by
  obtain ⟨t, rest, from_, fau, basket, slots, e, now, -⟩ := holds_turn distinct hd m
  rw [now, t.countHold_stands d (by rw [basket]; exact h), basket]

theorem holds_dropRec (distinct : ds.Nodup) {d : Drop} (hd : d ∈ ds) (h : ¬ (m.basket d).warnsNow) :
    (ds.foldl State.countHold m).dropRec d = m.dropRec d := by
  obtain ⟨t, rest, from_, fau, basket, slots, e, -, now⟩ := holds_turn distinct hd m
  rw [now, ← slots]
  obtain stands | warns | ⟨opened, left, calm⟩ := t.countHold_cases d
  · rw [t.countHold_stands d stands]
  · exact absurd (basket ▸ warns) h
  · rw [t.countHold_counts d opened left calm]; rfl

theorem holds_counted (distinct : ds.Nodup) {d : Drop} (hd : d ∈ ds) (opened : (m.basket d).state = .opened)
    (left : 0 < (m.basket d).countdown)
    (calm : (m.basket d).generation = m.fau.generation ∨ (m.basket d).countdown ≠ 31 ∨ (m.basket d).warned = true) :
    (ds.foldl State.countHold m).basket d = (m.basket d).held := by
  obtain ⟨t, rest, from_, fau, basket, slots, e, now, -⟩ := holds_turn distinct hd m
  rw [now, ← basket]
  rw [← basket] at opened left calm
  obtain stands | warns | ⟨opened, left, calm⟩ := t.countHold_cases d
  · exact (stands.elim (· opened) fun zero => by omega).elim
  · have fresh : (t.basket d).generation = t.fau.generation := fau ▸ calm.resolve_right fun h =>
      h.elim (· warns.2.1) fun w => by rw [warns.2.2] at w; cases w
    rw [t.countHold_warns d warns]
    set v := t.setBasket d (t.basket d).held with hv
    have mine : v.basket d = (t.basket d).held := State.setBasket_basket_same _ _ _
    exact (State.pushBasket_fresh (s := v) .holdWarning (.inr (by rw [mine]; exact fresh))).1.trans mine
  · rw [t.countHold_counts d opened left calm]
    exact State.setBasket_basket_same _ _ _

theorem holds_warned (distinct : ds.Nodup) {d : Drop} (hd : d ∈ ds) (warns : (m.basket d).warnsNow) :
    ((m.basket d).generation ≠ m.fau.generation → pricedWhole (m.basket d).held m ((ds.foldl State.countHold m).basket d) ∧
      ∀ n a k c x g code i sc, .seat n a k c x g ∈ (m.basket d).lines → m.linePrice (.refused code) (.seat n a k c x g) →
        m.findScreening n = some (i, sc) → ∃ y, (ds.foldl State.countHold m).screening i = some y ∧
          y.stateAt a = (sc.stateAt a).map fun _ => .free) ∧
    pushed d .holdWarning (ds.foldl State.countHold m) := by
  obtain ⟨t, rest, from_, fau, basket, slots, e, now, last⟩ := holds_turn distinct hd m
  have prices := from_.linePrice fau
  have after := holds_eased (t.countHold d) rest
  have fauNow : (ds.foldl State.countHold m).fau = (t.countHold d).fau := by
    rw [e]
    exact List.foldlRecOn (motive := fun u => State.fau u = _) rest _ rfl fun u hu d _ => (u.countHold_fau d).trans hu
  rw [← e] at after
  rw [← basket] at warns ⊢
  refine ⟨fun old => ⟨?_, fun n a k c x g code i sc mem refused found => ?_⟩, ?_⟩
  · rw [now, t.countHold_warns d warns]
    have whole := (t.setBasket_pushBasket_pushedAs d (t.basket d).held .holdWarning).stale warns.1 (by rw [fau]; exact old)
    exact whole.1.of_prices prices fau
  · obtain ⟨z, hz, zfrom⟩ := from_.findScreening found
    obtain ⟨y, hy, free⟩ := State.countHold_frees warns (by rw [fau]; exact old) mem (by rw [prices]; exact refused) hz
    obtain ⟨w, hw, wfrom⟩ := (after i).2 y hy
    refine ⟨w, hw, wfrom.stays_free (free.trans ?_)⟩
    obtain e | e := zfrom.seats a <;> rw [e]
    rw [Option.map_map]; rfl
  · have push : pushed d .holdWarning (t.countHold d) := by
      rw [t.countHold_warns d warns]
      exact State.pushBasket_pushed _ d _
    unfold pushed State.waits State.slot at *
    rw [last, now, fauNow]
    exact push

theorem holds_expiry (distinct : ds.Nodup) {d : Drop} (hd : d ∈ ds) (opened : (m.basket d).state = .opened)
    (last : (m.basket d).countdown = 1) : .holdExpiry d ∈ (ds.foldl State.countHold m).orders := by
  obtain ⟨t, rest, from_, fau, basket, slots, e, -, -⟩ := holds_turn distinct hd m
  rw [← basket] at opened last
  rw [e]
  refine holds_orders _ rest ?_
  rw [t.countHold_counts d opened (by omega) (.inl (by omega)), if_pos last]
  exact List.mem_append_right _ List.mem_cons_self

/-- A seat stays as it is when no whole pricing of a warned basket refuses its line (R37, R38). -/
theorem holds_spare (distinct : ds.Nodup) {i : Fin 16} {x : Screening} (hx : m.screening i = some x) {a : SeatAddr}
    (spared : ∀ d, (m.basket d).warnsNow → (m.basket d).generation ≠ m.fau.generation → ∀ l ∈ (m.basket d).lines,
      l.names x.number a = true → ∀ code, ¬ m.linePrice (.refused code) l) :
    ∃ y, (ds.foldl State.countHold m).screening i = some y ∧ y.stateAt a = x.stateAt a := by
  have turn : ∀ (t : State) (d : Drop), d ∈ ds → (m.easedTo t ∧ t.fau = m.fau ∧
      ∃ y, t.screening i = some y ∧ y.stateAt a = x.stateAt a ∧ y.number = x.number) → t.holdView d = m.holdView d →
      m.easedTo (t.countHold d) ∧ (t.countHold d).fau = m.fau ∧
        ∃ y, (t.countHold d).screening i = some y ∧ y.stateAt a = x.stateAt a ∧ y.number = x.number := by
    rintro t d - ⟨from_, fau, y, hy, same, number⟩ view
    have basket : t.basket d = m.basket d := congrArg Prod.fst view
    obtain ⟨z, hz, same', number'⟩ := State.countHold_spares (d := d) hy (a := a) (by
      rw [basket, fau, number, from_.linePrice fau]
      exact spared d)
    exact ⟨from_.trans (t.countHold_eased d), (t.countHold_fau d).trans fau, z, hz, same'.trans same, number'.trans number⟩
  obtain ⟨-, -, y, hy, same, -⟩ := foldl_turns State.countHold_others distinct turn ⟨.of_same fun _ => rfl, rfl, x, hx, rfl, rfl⟩
  exact ⟨y, hy, same⟩

theorem State.countSession_others (t : State) (d e : Drop) (he : e ≠ d) : (t.countSession d).session e = t.session e := by
  rw [State.countSession_eq]
  exact State.setSession_session_ne _ _ _ he

/-- The sessions counted, drop by drop. -/
theorem sessions_counted (distinct : ds.Nodup) {d : Drop} (hd : d ∈ ds) (m : State) :
    (ds.foldl State.countSession m).session d = (m.session d).counted ∧
      ∀ c ∈ (m.session d).timeouts d, c ∈ (ds.foldl State.countSession m).orders := by
  obtain ⟨t, rest, -, same, fresh, e⟩ := foldl_turn (P := fun _ => True) State.countSession_others distinct (s := m)
    (fun _ _ _ _ _ => trivial) trivial hd
  refine ⟨?_, fun c hc => ?_⟩
  · rw [e, foldl_apart State.countSession_others fresh, State.countSession_eq, ← same]
    exact State.setSession_session_same _ _ _
  · rw [e]
    refine List.foldlRecOn (motive := fun u => c ∈ State.orders u) rest _ ?_ fun u hu e _ => ?_
    · rw [State.countSession_eq, same]
      exact List.mem_append_right _ hc
    · rw [State.countSession_eq]
      exact List.mem_append_left _ hu

/-- The counting of the sessions changes sessions and orders alone. -/
theorem sessions_frame (m : State) (ds : List Drop) :
    keptBut [.tdu, .orders] m (ds.foldl State.countSession m) ∧ (∀ d, (ds.foldl State.countSession m).reader d = m.reader d) ∧
      ∀ c ∈ m.orders, c ∈ (ds.foldl State.countSession m).orders := by
  refine List.foldlRecOn (motive := fun u => keptBut [.tdu, .orders] m u ∧ (∀ d, State.reader u d = m.reader d) ∧
    ∀ c ∈ m.orders, c ∈ State.orders u)
    ds _ ⟨.refl _ m, fun _ => rfl, fun _ => id⟩ fun u ⟨kept, readers, orders⟩ d _ => ?_
  rw [State.countSession_eq]
  exact ⟨kept.trans ((State.setSession_kept _ _ _ (by decide)).trans (State.send_kept _ _ (by decide))), readers,
    fun c hc => List.mem_append_left _ (orders c hc)⟩

end
/-- The clock, the holds, the sessions and the store, in this order (R185). -/
theorem State.second_eq (s : State) : ∃ ds : List Drop, ds.Nodup ∧ (∀ d, d ∈ ds) ∧
    s.second = (ds.foldl State.countSession (ds.foldl State.countHold s.advanceClock)).countStore :=
  ⟨List.finRange 16, List.nodup_finRange 16, List.mem_finRange, by
    unfold State.second
    dsimp only
    generalize List.finRange 16 = ds
    rfl⟩

/-- A clock that is not at the last second moves on (R185). -/
theorem nextTime_early {now : SiteTime} (early : siteSeconds now < siteSeconds lastTime) :
    siteSeconds (nextTime now) = siteSeconds now + 1 ∧ (nextTime now).second < 86400 := by
  rw [nextTime, if_neg (not_le.2 early)]
  exact ⟨siteSeconds_siteTimeOf _, Nat.mod_lt _ (by norm_num)⟩

theorem State.advanceClock_last {s : State} (last : siteSeconds lastTime ≤ siteSeconds s.hlc.clock) : s.advanceClock = s := by
  have stays : nextTime s.hlc.clock = s.hlc.clock := if_pos last
  unfold State.advanceClock
  rw [if_pos stays]

/-- The advance of a clock that moves on: the closings of the new time, and at a whole minute the sweep. -/
theorem State.advanceClock_early {s : State} (early : siteSeconds s.hlc.clock < siteSeconds lastTime) {now : SiteTime}
    (next : nextTime s.hlc.clock = now) :
    s.advanceClock = if now.second % 60 = 0 then ((s.setHlc { s.hlc with clock := now }).closeDue now).sweep now
      else (s.setHlc { s.hlc with clock := now }).closeDue now := by
  have moves : now ≠ s.hlc.clock := by
    rintro rfl
    have := (nextTime_early early).1
    rw [next] at this
    omega
  unfold State.advanceClock
  dsimp only
  rw [next, if_neg moves]

end Sys2Proof.Machine
end

section
/-! A second of the site clock (R185). -/

namespace Sys2Proof.Machine

/-- What the advance of a clock that moves on leaves (R9, R12, R146, R185). -/
theorem State.advanceClock_advanced {s m : State} (hm : s.advanceClock = m) (early : siteSeconds s.hlc.clock < siteSeconds lastTime) :
    siteSeconds m.hlc.clock = siteSeconds s.hlc.clock + 1 ∧ m.hlc.clock.second < 86400 ∧
      (∀ i sc, m.screening i = some sc → sc.state = .onSale → siteSeconds m.hlc.clock < siteSeconds sc.closeTime) ∧
      (s.numbersDistinct → s.basketLaw → screeningsClosed (s.dueAt m.hlc.clock) s m) ∧
      ((∃ i, s.dueAt m.hlc.clock i) → m.hlc.conditions.raised .screening = true) ∧
      (∀ d, (s.basket d).state ≠ .opened ∨ (∀ i sc, s.dueAt m.hlc.clock i → s.screening i = some sc →
          (s.basket d).lines.any (BasketLine.inScreening sc.number) = false) →
        m.basket d = s.basket d ∧ m.dropRec d = s.dropRec d) ∧
      State.slotsBy aged s m ∧
      m.vcu = { s.vcu with used := if m.hlc.clock.second % 60 = 0
        then s.vcu.used.filter fun e => siteSeconds m.hlc.clock - siteSeconds e.validUntil ≤ s.vcu.retention * 60
        else s.vcu.used } ∧
      m.hlc = { s.hlc with clock := m.hlc.clock, conditions := m.hlc.conditions } := by
  obtain ⟨next, wraps⟩ := nextTime_early early
  generalize hnow : nextTime s.hlc.clock = now at next wraps
  rw [State.advanceClock_early early hnow] at hm
  set v := s.setHlc { s.hlc with clock := now } with hv
  have left := fun i y => State.closeDue_none_left (s := v) (now := now) (i := i) (y := y)
  have closed := fun distinct law => v.closeDue_closed now distinct law
  have raised := fun i => State.closeDue_raised (s := v) (now := now) (i := i)
  have apart := v.closeDue_apart now
  have aged := v.closeDue_aged now
  have calm := v.closeDue_calm now
  have vcu : (v.closeDue now).vcu = s.vcu := (v.closeDue_keeps now).frame .vcu (by decide)
  generalize v.closeDue now = w at *
  have clock : w.hlc.clock = now := calm.clock
  have parts : m.hlc = w.hlc ∧ m.sbu = w.sbu ∧ m.klc = w.klc ∧ m.fau = w.fau ∧
      m.vcu = if now.second % 60 = 0 then w.vcu.sweep now else w.vcu := by
    rw [← hm]
    split <;> exact ⟨rfl, rfl, rfl, rfl, rfl⟩
  obtain ⟨hlc, sbu, klc, fau, table⟩ := parts
  have screening : ∀ i, m.screening i = w.screening i := fun i => by unfold State.screening; rw [sbu]
  have basket : ∀ d, m.basket d = w.basket d ∧ m.dropRec d = w.dropRec d := fun d => by
    unfold State.basket State.dropRec; rw [sbu, klc]; exact ⟨rfl, rfl⟩
  rw [hlc, clock]
  refine ⟨next, wraps, fun i sc hi => left i sc (screening i ▸ hi), fun distinct law => ?_, fun ⟨i, due⟩ => raised i due, fun d h => ?_,
    fun i => ?_, ?_, ?_⟩
  · exact (closed distinct law).blocks rfl rfl rfl sbu fau klc
  · obtain ⟨same, slots⟩ := apart d h
    rw [(basket d).1, (basket d).2]
    exact ⟨same, slots⟩
  · rw [screening]
    exact aged i
  · rw [table, vcu]
    split <;> rfl
  · rw [calm.kept]; rfl

/-- What a second leaves of the sessions, the holds and the store after the advance of the clock (R185). -/
theorem State.second_counts (s : State) : ∃ (h u : State) (ds : List Drop), ds.Nodup ∧ (∀ d, d ∈ ds) ∧ s.second = u ∧
    h = ds.foldl State.countHold s.advanceClock ∧ (∀ i, u.screening i = h.screening i) ∧ (∀ d, u.basket d = h.basket d) ∧
    (∀ d, u.dropRec d = h.dropRec d) ∧ u.fau = h.fau ∧ (∀ c ∈ h.orders, c ∈ u.orders) ∧
    (∀ d, u.session d = (s.session d).counted ∧ ∀ c ∈ (s.session d).timeouts d, c ∈ u.orders) ∧ (∀ d, u.reader d = s.reader d) ∧
    (s.jnu.store.op = .retryWait → .storeRetry ∈ u.orders) := by
  obtain ⟨ds, distinct, all, e⟩ := s.second_eq
  have advance := (s.advanceClock_keeps).frame
  have holds := (Keeps.foldl (f := State.countHold) (fun t d => t.countHold_keeps (d := d)) ds s.advanceClock).frame
  generalize hh : ds.foldl State.countHold s.advanceClock = h at *
  have counted := fun d => sessions_counted distinct (all d) h
  obtain ⟨kept, readers, orders⟩ := sessions_frame h ds
  generalize ds.foldl State.countSession h = v at *
  have tdu : h.tdu = s.tdu := (holds .tdu (by decide)).trans (advance .tdu (by decide))
  have jnu : v.jnu = s.jnu := (kept .jnu (by decide)).trans ((holds .jnu (by decide)).trans (advance .jnu (by decide)))
  have session : ∀ d, h.session d = s.session d := fun d => by unfold State.session; rw [tdu]
  have reader : ∀ d, h.reader d = s.reader d := fun d => by unfold State.reader; rw [tdu]
  have sbu : v.sbu = h.sbu := kept .sbu (by decide)
  have klc : v.klc = h.klc := kept .klc (by decide)
  have fau : v.fau = h.fau := kept .fau (by decide)
  have store : ∀ (P : State → Prop), P v → P (v.send [.storeRetry]) → P v.countStore := fun P pv ps => by
    unfold State.countStore
    split
    · exact ps
    · exact pv
  have sent : ∀ c ∈ v.orders, c ∈ v.countStore.orders := fun c hc => store (fun t => c ∈ t.orders) hc (List.mem_append_left _ hc)
  refine ⟨h, v.countStore, ds, distinct, all, e, hh.symm, fun i => store (fun t => t.screening i = _) ?_ ?_,
    fun d => store (fun t => t.basket d = _) ?_ ?_,
    fun d => store (fun t => t.dropRec d = _) ?_ ?_, store (fun t => t.fau = _) fau fau, fun c hc => sent c (orders c hc),
      fun d => ⟨?_, fun c hc => ?_⟩,
    fun d => store (fun t => t.reader d = _) ?_ ?_, fun waits => ?_⟩
  iterate 2
    · exact congrArg (fun b : Sbu => vget b.screenings i) sbu
  iterate 2
    · exact congrArg (fun b : Sbu => vget b.baskets d) sbu
  iterate 2
    · exact congrArg (fun b : Klc => vget b.drops d) klc
  · rw [← session]
    exact store (fun t => t.session d = _) (counted d).1 (counted d).1
  · rw [← session] at hc
    exact sent c ((counted d).2 c hc)
  iterate 2
    · exact (readers d).trans (reader d)
  · rw [State.countStore, if_pos (by rw [jnu]; exact waits)]
    exact List.mem_append_right _ List.mem_cons_self

/-- Settles O22. -/
theorem clockSecondCounts : Obligations.ClockSecondCounts := by
  unfold Obligations.ClockSecondCounts
  intro s
  obtain ⟨h, u, ds, distinct, all, e, held, screenings, baskets, slots, fau, grown, sessions, readers, store⟩ := s.second_counts
  have advanced := s.advanceClock_lines
  have kept := s.second_keeps.frame
  have vcu := s.second_vcu
  have calm := s.second_calm.kept
  have lines := s.second_lines
  have mfau : s.advanceClock.fau = s.fau := (s.advanceClock_keeps).frame .fau (by decide)
  have mkept := (s.advanceClock_keeps).frame
  have moves := State.advanceClock_advanced (s := s) rfl
  have stays := State.advanceClock_last (s := s)
  have run : exec .clockSecond s = s.second.done := rfl
  rw [e] at kept vcu calm lines run
  generalize s.advanceClock = m at *
  have eased : m.easedTo h := held ▸ holds_eased m ds
  refine ⟨m, u, run, stays, fun early => ?_, fun d card => ?_, fun d auth => ?_, fun d card auth => ?_, fun d card last => ?_,
    fun d auth last => ?_, ⟨fun d shut => ?_, fun d quiet => ?_, fun d opened => ⟨fun zero => ?_, fun left calm => ?_,
    fun at31 fresh => ?_, fun last => ?_⟩, fun i absent => ?_, fun i x hx => ?_⟩, store, vcu, calm, readers, lines, kept⟩
  · obtain ⟨next, wraps, left, closed, raised, apart, aged, table, hlc⟩ := moves early
    refine ⟨next, wraps, ⟨left, closed, raised, apart, fun i sc hi => ?_⟩, table, hlc, advanced, mkept⟩
    obtain ⟨y, hy, form, -⟩ := (aged i).2 sc hi
    exact ⟨y, hy, form⟩
  · rw [(sessions d).1]; simp [Session.counted, card]
  · rw [(sessions d).1]; simp [Session.counted, auth]
  · rw [(sessions d).1]; simp [Session.counted, card, auth]
  · exact (sessions d).2 _ (by simp [Session.timeouts, card, last])
  · exact (sessions d).2 _ (by simp [Session.timeouts, auth, last])
  · rw [baskets, held, holds_stands distinct (all d) (.inl shut)]
  · rw [slots, held, holds_dropRec distinct (all d) quiet]
  · rw [baskets, held, holds_stands distinct (all d) (.inr zero)]
  · rw [baskets, held, holds_counted distinct (all d) opened left (by rw [mfau]; exact calm)]
    rfl
  · obtain ⟨stale, push⟩ := holds_warned distinct (all d) ⟨opened, at31, fresh⟩
    rw [← held] at stale push
    refine ⟨fun old => ?_, ?_⟩
    · obtain ⟨whole, freed⟩ := stale (by rw [mfau]; exact old)
      rw [baskets]
      refine ⟨whole, fun n a k c x g code i sc mem refused found => ?_⟩
      rw [screenings]
      exact freed n a k c x g code i sc mem refused found
    · unfold pushed State.waits State.slot at *
      rw [slots, baskets, fau]
      exact push
  · exact grown _ (held ▸ holds_expiry distinct (all d) opened last)
  · rw [screenings]; exact (eased i).1 absent
  · obtain ⟨y, hy, from_⟩ := (eased i).2 x hx
    refine ⟨y, by rw [screenings]; exact hy, from_.form, from_.state, fun a spared => ?_⟩
    obtain ⟨z, hz, same⟩ := holds_spare distinct hx (a := a) (by rw [mfau]; exact spared)
    rw [← held, hy] at hz
    cases hz
    exact same

end Sys2Proof.Machine
end

section
/-! The two seat rules (R41, R42). -/

namespace Sys2Proof.Machine

/-! ## The companion rule (R42) -/

/-- A companion seat of a list keeps the rule when a WHEELCHAIR seat of the list stands beside it. -/
def companionKept (l : Layout) (mine : List SeatAddr) (a : SeatAddr) : Prop :=
  l.seatKind a = some .companion → ∃ w ∈ mine, w.row = a.row ∧ (w.pos + 1 = a.pos ∨ w.pos = a.pos + 1) ∧ l.seatKind w = some .wheelchair

theorem companionOk_iff {l : Layout} {mine : List SeatAddr} {a : SeatAddr} : companionOk l mine a = true ↔
    ∃ w ∈ mine, w.row = a.row ∧ (w.pos + 1 = a.pos ∨ w.pos = a.pos + 1) ∧ l.seatKind w = some .wheelchair := by
  simp only [companionOk, wheelchairIn, Bool.or_eq_true, Bool.and_eq_true, beq_iff_eq, decide_eq_true_eq, List.contains_iff_mem]
  constructor
  · rintro (⟨left, kind, mem⟩ | ⟨kind, mem⟩)
    · exact ⟨_, mem, rfl, .inl (by dsimp only; omega), kind⟩
    · exact ⟨_, mem, rfl, .inr rfl, kind⟩
  · rintro ⟨⟨row, pos⟩, mem, rfl, beside, kind⟩
    obtain beside | beside := beside <;> dsimp only at beside
    · have here : pos = a.pos - 1 := by omega
      subst here
      exact .inl ⟨by omega, kind, mem⟩
    · subst beside
      exact .inr ⟨kind, mem⟩

theorem companionDenial_test {l : Layout} {mine : List SeatAddr} {a : SeatAddr} :
    (l.seatKind a == some .companion && !companionOk l mine a) = true ↔ ¬ companionKept l mine a := by
  unfold companionKept
  rw [← companionOk_iff]
  simp

theorem companionDenial_none {l : Layout} {mine seats : List SeatAddr} :
    companionDenial l mine seats = none ↔ ∀ a ∈ seats, companionKept l mine a := by
  rw [companionDenial, List.find?_eq_none]
  simp only [companionDenial_test, not_not]

theorem companionDenial_first {l : Layout} {mine seats : List SeatAddr} {a : SeatAddr} (h : companionDenial l mine seats = some a) :
    ∃ before after, seats = before ++ a :: after ∧ ¬ companionKept l mine a ∧ ∀ x ∈ before, companionKept l mine x := by
  obtain ⟨test, before, after, split, rest⟩ := List.find?_eq_some_iff_append.1 h
  refine ⟨before, after, split, companionDenial_test.1 test, fun x hx => ?_⟩
  by_contra bad
  have := rest x hx
  rw [companionDenial_test.2 bad] at this
  cases this

/-! ## The lone-seat rule (R41) -/

/-- Seats in ascending order of row and position. -/
def SeatAddr.before (a b : SeatAddr) : Prop := a.row < b.row ∨ a.row = b.row ∧ a.pos < b.pos

theorem rowAddrs_ascending (row : Nat) (r : LayoutRow) : (rowAddrs row r).Pairwise SeatAddr.before := by
  unfold rowAddrs
  rw [List.pairwise_filterMap]
  refine List.pairwise_lt_range.imp fun {p q} lt a ha b hb => ?_
  split at ha <;> cases ha
  split at hb <;> cases hb
  exact .inr ⟨rfl, lt⟩

theorem Layout.seatAddrs_ascending (l : Layout) : l.seatAddrs.Pairwise SeatAddr.before := by
  have indices : (l.rows.zipIdx).Pairwise fun p q => p.2 < q.2 := by
    have := List.pairwise_lt_range' (s := 0) (n := l.rows.length) 1
    rw [← List.zipIdx_map_snd 0 l.rows, List.pairwise_map] at this
    exact this
  rw [Layout.seatAddrs, List.pairwise_flatten]
  refine ⟨fun m hm => ?_, ?_⟩
  · obtain ⟨p, -, rfl⟩ := List.mem_map.1 hm
    exact rowAddrs_ascending p.2 p.1
  · rw [List.pairwise_map]
    refine indices.imp fun {p q} lt a ha b hb => .inl ?_
    rw [(mem_rowAddrs.1 ha).1, (mem_rowAddrs.1 hb).1]
    exact lt

/-- A seat that a request leaves lone: FREE, and each neighbour absent, taken or not FREE, but one of them FREE before. -/
def leftLone (l : Layout) (sc : Screening) (taken : List SeatAddr) (a : SeatAddr) : Prop :=
  a ∈ l.seatAddrs ∧ (∃ t ∈ taken, t.row = a.row) ∧ sc.stateAt a = some .free ∧ a ∉ taken ∧
    (∀ b, l.leftOf a = some b ∨ l.rightOf a = some b → sc.stateAt b ≠ some .free ∨ b ∈ taken) ∧
    ∃ b, (l.leftOf a = some b ∨ l.rightOf a = some b) ∧ sc.stateAt b = some .free

theorem freeAfter_iff {sc : Screening} {taken : List SeatAddr} {a : SeatAddr} :
    freeAfter sc taken a = true ↔ sc.stateAt a = some .free ∧ a ∉ taken := by simp [freeAfter]

theorem sideTaken_iff {sc : Screening} {taken : List SeatAddr} {o : Option SeatAddr} :
    sideTaken sc taken o = true ↔ ∀ b, o = some b → sc.stateAt b ≠ some .free ∨ b ∈ taken := by
  cases o with
  | none => simp [sideTaken]
  | some b =>
    have : sideTaken sc taken (some b) = !freeAfter sc taken b := rfl
    rw [this, Bool.not_eq_true', ← Bool.not_eq_true, freeAfter_iff]
    simp only [Option.some.injEq, forall_eq']
    tauto

theorem loneAfter_iff {l : Layout} {sc : Screening} {taken : List SeatAddr} {a : SeatAddr} :
    loneAfter l sc taken a = true ↔ (sc.stateAt a = some .free ∧ a ∉ taken) ∧
      ∀ b, l.leftOf a = some b ∨ l.rightOf a = some b → sc.stateAt b ≠ some .free ∨ b ∈ taken := by
  simp only [loneAfter, Bool.and_eq_true, freeAfter_iff, sideTaken_iff, and_assoc, or_imp, forall_and]

/-- What the test of a new lone seat asks of a seat of the layout. -/
theorem newLone_test {l : Layout} {sc : Screening} {taken : List SeatAddr} {a : SeatAddr} (mem : a ∈ l.seatAddrs) :
    (taken.any (fun t => t.row == a.row) && loneAfter l sc taken a && !loneAfter l sc [] a) = true ↔ leftLone l sc taken a := by
  have before : (!loneAfter l sc [] a) = true ↔ (sc.stateAt a = some .free →
      ∃ b, (l.leftOf a = some b ∨ l.rightOf a = some b) ∧ sc.stateAt b = some .free) := by
    rw [Bool.not_eq_true', ← Bool.not_eq_true, loneAfter_iff]
    simp only [List.not_mem_nil, not_false_eq_true, and_true, or_false]
    push Not
    rfl
  rw [Bool.and_eq_true, Bool.and_eq_true, loneAfter_iff, before]
  simp only [List.any_eq_true, beq_iff_eq]
  exact ⟨fun ⟨⟨row, ⟨free, apart⟩, sides⟩, was⟩ => ⟨mem, row, free, apart, sides, was free⟩,
    fun ⟨_, row, free, apart, sides, was⟩ => ⟨⟨row, ⟨free, apart⟩, sides⟩, fun _ => was⟩⟩

theorem newLoneSeat_none {l : Layout} {sc : Screening} {taken : List SeatAddr} :
    newLoneSeat l sc taken = none ↔ ∀ a, ¬ leftLone l sc taken a := by
  rw [newLoneSeat, List.find?_eq_none]
  exact ⟨fun h a lone => h a lone.1 ((newLone_test lone.1).2 lone), fun h a mem test => h a ((newLone_test mem).1 test)⟩

theorem newLoneSeat_first {l : Layout} {sc : Screening} {taken : List SeatAddr} {a : SeatAddr} (h : newLoneSeat l sc taken = some a) :
    leftLone l sc taken a ∧ ∀ b, leftLone l sc taken b → a.row < b.row ∨ a.row = b.row ∧ a.pos ≤ b.pos := by
  have mem := List.mem_of_find?_eq_some h
  obtain ⟨test, before, after, split, rest⟩ := List.find?_eq_some_iff_append.1 h
  have lone := (newLone_test mem).1 test
  refine ⟨lone, fun b blone => ?_⟩
  have mem := blone.1
  have ascending := l.seatAddrs_ascending
  rw [split] at mem ascending
  rcases List.mem_append.1 mem with earlier | later
  · have := rest b earlier
    rw [(newLone_test blone.1).2 blone] at this
    cases this
  · rcases List.mem_cons.1 later with rfl | later
    · exact .inr ⟨rfl, le_rfl⟩
    · obtain ⟨-, tail, -⟩ := List.pairwise_append.1 ascending
      exact ((List.pairwise_cons.1 tail).1 b later).imp_right fun ⟨row, pos⟩ => ⟨row, pos.le⟩

end Sys2Proof.Machine
end

section
/-! Seats held by SELECT and BEST (R24, R27, R29, R52, R53, R60, R61). -/

namespace Sys2Proof.Machine

/-! ## What holding seats leaves (R24, R27, R29) -/

theorem Screening.holdFrom_form (d : Drop) (l : List SeatAddr) (k : Nat) (sc : Screening) :
    sc.holdFrom d k l = { sc with counts := (sc.holdFrom d k l).counts, seats := (sc.holdFrom d k l).seats } := by
  induction l generalizing sc k with
  | nil => rfl
  | cons a l ih =>
    have first := sc.setSeat_form a (.held d k)
    have rest := ih (k + 1) (sc.setSeat a (.held d k))
    unfold Screening.holdFrom
    generalize (sc.setSeat a (.held d k)).holdFrom d (k + 1) l = y at rest ⊢
    conv_lhs => rw [rest, first]

section
variable {s : State} {d : Drop} {i : Fin 16} {sc : Screening} {xs : List (SeatAddr × Concession)}

/-- A seat that exists is put to the FAU with its own kind. -/
theorem Fau.priceHeld_eq (f : Fau) {l : Layout} {k : SeatKind} {x : SeatAddr × Concession} (kind : l.seatKind x.1 = some k) :
    f.priceHeld l sc x = { addr := x.1, kind := k, concession := x.2, outcome := f.priceSeat (seatQueryOf sc k x.2) } := by
  simp [Fau.priceHeld, kind]

theorem Layout.seatKind_of_exists {l : Layout} {a : SeatAddr} (h : l.seatExists a = true) : ∃ k, l.seatKind a = some k := by
  simp only [Layout.seatExists, Bool.and_eq_true] at h
  exact Option.isSome_iff_exists.1 h.2

/-- What the FAU says of the seats, one outcome a seat. -/
theorem State.mem_priceHeld (there : ∀ x ∈ xs, (s.layout sc.layout).seatExists x.1 = true) (o : LineOutcome) :
    o ∈ (xs.map (s.fau.priceHeld (s.layout sc.layout) sc)).map (·.outcome) ↔ ∃ x ∈ xs, s.seatPrice sc x o := by
  simp only [List.map_map, List.mem_map, Function.comp_apply]
  refine exists_congr fun x => and_congr_right fun hx => ?_
  obtain ⟨k, kind⟩ := Layout.seatKind_of_exists (there x hx)
  simp [Fau.priceHeld_eq s.fau kind, State.seatPrice, kind]

/-- A seat that passes check 10 is priced (R29). -/
theorem State.holdable_priced (h : s.holdable d sc xs) {x : SeatAddr × Concession} (hx : x ∈ xs) :
    ∃ kind amount e n c, (s.layout sc.layout).seatKind x.1 = some kind ∧
      s.fau.priceSeat (seatQueryOf sc kind x.2) = .priced amount e n c := by
  obtain ⟨-, -, -, -, free, -, -, priced⟩ := h
  obtain ⟨k, kind⟩ := Layout.seatKind_of_exists (free x hx).1
  cases price : s.fau.priceSeat (seatQueryOf sc k x.2) with
  | priced amount e n c => exact ⟨k, amount, e, n, c, kind, price⟩
  | refused c => exact absurd price (priced x hx k kind c)

theorem State.holdSeats_heldNow {serial : Nat} (law : (s.basket d).lawful) (accepts : (s.basket d).accepts serial)
    (h : s.holdable d sc xs) (nodup : (xs.map (·.1)).Nodup) :
    heldNow d i sc xs s (s.holdSeats d i sc (xs.map (s.fau.priceHeld (s.layout sc.layout) sc))) := by
  have priced := fun x hx => State.holdable_priced h (x := x) hx
  obtain ⟨-, -, -, -, free, -⟩ := h
  have there : ∀ x ∈ xs, (s.layout sc.layout).seatExists x.1 = true := fun x hx => (free x hx).1
  have outcomes := State.mem_priceHeld (s := s) (sc := sc) there
  set ps := xs.map (s.fau.priceHeld (s.layout sc.layout) sc) with hps
  have addrs : ps.map (·.addr) = xs.map (·.1) := priceHeld_addrs _ _ _ _
  have opened := s.openedBasket_eq law accepts
  have unfrozen := law.unfrozen accepts
  have basket : (s.holdSeats d i sc ps).basket d = s.basketHolding (s.basket d) sc.number ps := State.setBasket_basket_same _ _ _
  obtain ⟨inexact, noFare, ceiling, floor⟩ := flagsWithLines_flags (s.basket d).flags (ps.map (·.outcome))
  have met : ∀ F : Nat → Bool → Bool → LineOutcome,
      (∃ m n c, F m n c ∈ ps.map (·.outcome)) ↔ ∃ x ∈ xs, ∃ m n c, s.seatPrice sc x (F m n c) := fun F =>
    ⟨fun ⟨m, n, c, mem⟩ => ((outcomes _).1 mem).imp fun _ ⟨hx, price⟩ => ⟨hx, m, n, c, price⟩,
      fun ⟨x, hx, m, n, c, price⟩ => ⟨m, n, c, (outcomes _).2 ⟨x, hx, price⟩⟩⟩
  have screening : (s.holdSeats d i sc ps).screening i = some (sc.holdFrom d (s.basket d).lines.length (xs.map (·.1))) := by
    rw [← addrs, ← State.openedBasket_lines s law (by obtain e | ⟨e, -⟩ := accepts <;> simp [e])]
    exact State.setScreening_screening_same s i _
  unfold heldNow
  rw [basket]
  unfold State.basketHolding
  rw [opened]
  simp only [Basket.withTotals, flagsWithFloor]
  refine ⟨trivial, trivial, trivial, trivial, trivial, trivial, trivial, trivial, unfrozen.1, unfrozen.2, ?_, ?_, ?_, ?_, ?_,
    fun k hk => ?_,
    fun k x hk => ?_, trivial, fun j hj => State.setScreening_screening_ne _ _ _ hj, _, screening, Screening.holdFrom_form _ _ _ _,
    fun k x hk => ?_, fun a ha => ?_⟩
  · exact inexact.trans (or_congr_right (met fun m n c => .priced m true n c))
  · exact noFare.trans (or_congr_right (met fun m e c => .priced m e true c))
  · exact ceiling.trans (or_congr_right (met fun m e n => .priced m e n true))
  · rw [floor, Bool.or_eq_true]
  · simp [hps]
  · exact List.getElem?_append_left hk
  · obtain ⟨kind, amount, e, n, c, seatKind, price⟩ := priced x (List.mem_of_getElem? hk)
    refine ⟨kind, amount, e, n, c, seatKind, price, ?_⟩
    rw [List.getElem?_append_right (by omega), Nat.add_sub_cancel_left, hps, List.map_map, List.getElem?_map, hk]
    simp [Fau.priceHeld_eq s.fau seatKind, PricedSeat.line, price, outcomeAmount]
  · rw [Screening.stateAt_holdFrom d nodup (by rw [List.getElem?_map, hk]; rfl), (free x (List.mem_of_getElem? hk)).2]
    rfl
  · exact Screening.stateAt_holdFrom_other d ha _ _

/-- Seats that pass check 10 are held. -/
theorem State.priceAndHold_holds (h : s.holdable d sc xs) (detail : ReplyDetail) :
    s.priceAndHold d i sc xs detail =
      (s.holdSeats d i sc (xs.map (s.fau.priceHeld (s.layout sc.layout) sc))).basketReply d .ok detail := by
  have none : (xs.map (s.fau.priceHeld (s.layout sc.layout) sc)).findSome? PricedSeat.denial = none := by
    rw [List.findSome?_eq_none_iff]
    intro p hp
    obtain ⟨x, hx, rfl⟩ := List.mem_map.1 hp
    obtain ⟨kind, amount, e, n, c, seatKind, price⟩ := State.holdable_priced h hx
    simp [Fau.priceHeld_eq s.fau seatKind, PricedSeat.denial, price]
  unfold State.priceAndHold
  dsimp only
  rw [none]

/-- The first seat that the FAU refuses is the answer (R29 check 10). -/
theorem State.priceAndHold_refused {before after : List (SeatAddr × Concession)} {x : SeatAddr × Concession} {k : SeatKind} {c : Code}
    (kind : (s.layout sc.layout).seatKind x.1 = some k) (price : s.fau.priceSeat (seatQueryOf sc k x.2) = .refused c)
    (there : ∀ y ∈ before, (s.layout sc.layout).seatExists y.1 = true)
    (first : ∀ y ∈ before, ∀ k', (s.layout sc.layout).seatKind y.1 = some k' →
      ∀ c', s.fau.priceSeat (seatQueryOf sc k' y.2) ≠ .refused c') (detail : ReplyDetail) :
    s.priceAndHold d i sc (before ++ x :: after) detail = s.basketReply d c (.seat x.1) := by
  have none : (before.map (s.fau.priceHeld (s.layout sc.layout) sc)).findSome? PricedSeat.denial = none := by
    rw [List.findSome?_eq_none_iff]
    intro p hp
    obtain ⟨y, hy, rfl⟩ := List.mem_map.1 hp
    obtain ⟨k', kind'⟩ := Layout.seatKind_of_exists (there y hy)
    rw [Fau.priceHeld_eq s.fau kind']
    cases price' : s.fau.priceSeat (seatQueryOf sc k' y.2) with
    | priced _ _ _ _ => rfl
    | refused c' => exact absurd price' (first y hy k' kind' c')
  have here : PricedSeat.denial (s.fau.priceHeld (s.layout sc.layout) sc x) = some (c, .seat x.1) := by
    rw [Fau.priceHeld_eq s.fau kind]
    simp [PricedSeat.denial, price]
  unfold State.priceAndHold
  dsimp only
  rw [List.map_append, List.findSome?_append, none, List.map_cons, List.findSome?_cons, here]
  rfl

theorem State.holdSeats_basketFrame (s : State) (d : Drop) (i : Fin 16) (sc : Screening) (ps : List PricedSeat) :
    basketFrame d s (s.holdSeats d i sc ps) :=
  basketFrame.trans (t := s.setScreening i _) ⟨fun _ _ => rfl, .of_klc rfl, fun _ => rfl, .of_hlc rfl, s.setScreening_kept _ _ (by decide)⟩
    (State.setBasket_basketFrame _ d _)

end

/-! ## The checks of SELECT and BEST, in order (R29, R53) -/

section
variable {s : State} {b : Basket} {number count : Nat} {i : Fin 16} {sc : Screening}

theorem boundElsewhere_false : b.boundElsewhere number = false ↔ b.bound = none ∨ b.bound = some number := by
  unfold Basket.boundElsewhere
  cases b.bound <;> simp

theorem screeningDenial_passed (found : s.findScreening number = some (i, sc)) (onSale : sc.state = .onSale)
    (bound : b.bound = none ∨ b.bound = some number) (lines : b.lines.length + count ≤ 10) (seats : b.seatCount + count ≤ 8) :
    s.screeningDenial b number count = none := by
  simp only [State.screeningDenial, found, onSale, boundElsewhere_false.2 bound, Bool.false_eq_true, if_false]
  exact if_neg (by omega)

theorem screeningDenial_unknown (found : s.findScreening number = none) :
    s.screeningDenial b number count = some (.noScreening, .none) := by
  simp only [State.screeningDenial, found]

theorem screeningDenial_loaded (found : s.findScreening number = some (i, sc)) (state : sc.state = .loaded) :
    s.screeningDenial b number count = some (.notOpen, .none) := by
  simp only [State.screeningDenial, found, state]

theorem screeningDenial_closed (found : s.findScreening number = some (i, sc)) (state : sc.state = .closing ∨ sc.state = .closed) :
    s.screeningDenial b number count = some (.closed, .none) := by
  obtain state | state := state <;> simp only [State.screeningDenial, found, state]

theorem screeningDenial_mixed (found : s.findScreening number = some (i, sc)) (onSale : sc.state = .onSale) {n : Nat}
    (bound : b.bound = some n) (other : n ≠ number) : s.screeningDenial b number count = some (.mixedScreening, .none) := by
  simp [State.screeningDenial, found, onSale, Basket.boundElsewhere, bound, other]

theorem screeningDenial_full (found : s.findScreening number = some (i, sc)) (onSale : sc.state = .onSale)
    (bound : b.bound = none ∨ b.bound = some number) (full : 10 < b.lines.length + count ∨ 8 < b.seatCount + count) :
    s.screeningDenial b number count = some (.basketFull, .none) := by
  simp only [State.screeningDenial, found, onSale, boundElsewhere_false.2 bound, Bool.false_eq_true, if_false]
  exact if_pos full

end

section
variable {l : Layout} {sc : Screening} {b : Basket} {seats : List SeatAddr}

theorem seatDenial_passed (there : firstMissing l seats = none) (free : firstInState sc (fun st => st != .free) seats = none)
    (companion : companionDenial l (b.seatAddrs ++ seats) seats = none) (lone : loneSeatDenial l sc seats = none) :
    seatDenial l sc b seats = none := by
  simp only [seatDenial, there, free, companion, lone]

theorem seatDenial_missing {a : SeatAddr} (missing : firstMissing l seats = some a) :
    seatDenial l sc b seats = some (.noSeat, .seat a) := by
  simp only [seatDenial, missing]

theorem seatDenial_notFree (there : firstMissing l seats = none) {a : SeatAddr} {st : SeatState}
    (taken : firstInState sc (fun st => st != .free) seats = some (a, st)) :
    seatDenial l sc b seats = some (.notFree, .seatState a (shown st)) := by
  simp only [seatDenial, there, taken]

theorem seatDenial_companion (there : firstMissing l seats = none) (free : firstInState sc (fun st => st != .free) seats = none)
    {a : SeatAddr} (companion : companionDenial l (b.seatAddrs ++ seats) seats = some a) :
    seatDenial l sc b seats = some (.companionRule, .seat a) := by
  simp only [seatDenial, there, free, companion]

theorem seatDenial_lone (there : firstMissing l seats = none) (free : firstInState sc (fun st => st != .free) seats = none)
    (companion : companionDenial l (b.seatAddrs ++ seats) seats = none) {a : SeatAddr} (lone : loneSeatDenial l sc seats = some a) :
    seatDenial l sc b seats = some (.loneSeat, .seat a) := by
  simp only [seatDenial, there, free, companion, lone]

end

theorem seatExists_of_firstMissing {l : Layout} {seats : List SeatAddr} (there : firstMissing l seats = none) {a : SeatAddr}
    (ha : a ∈ seats) : l.seatExists a = true := by
  rw [firstMissing, List.find?_eq_none] at there
  simpa using there a ha

/-- Seats that may be held pass the checks (R29, R53). -/
theorem State.holdable_checks {s : State} {d : Drop} {i : Fin 16} {sc : Screening} {xs : List (SeatAddr × Concession)}
    (found : s.findScreening sc.number = some (i, sc)) (h : s.holdable d sc xs) :
    s.screeningDenial (s.basket d) sc.number xs.length = none ∧ seatDenial (s.layout sc.layout) sc (s.basket d) (xs.map (·.1)) = none := by
  obtain ⟨onSale, bound, lines, seats, free, companion, lone, -⟩ := h
  refine ⟨screeningDenial_passed found onSale bound lines seats, seatDenial_passed (firstMissing_none fun a ha => ?_)
    (firstInState_eq_none fun a ha st hst => ?_) companion lone⟩
  · obtain ⟨x, hx, rfl⟩ := List.mem_map.1 ha
    exact (free x hx).1
  · obtain ⟨x, hx, rfl⟩ := List.mem_map.1 ha
    rw [(free x hx).2] at hst
    cases hst
    rfl

/-! ## SELECT (R29) -/

section
variable {s : State} {d : Drop} {r : SelectReq} {xs : List (SeatAddr × Concession)} {i : Fin 16} {sc : Screening}

theorem exec_select_of_accepts {u : State} (ready : s.kioskReady d) (h : (s.basket d).accepts r.serial)
    (act : State.select d r (s.accept (.select d (some r))) = u) : exec (.select d (some r)) s = .next u.transmit :=
  congrArg State.done ((State.basketRequest_accepts (ready.accept _) h).trans act)

theorem State.select_badForm (form : selectSeats r = none) : s.select d r = s.basketReply d .badValue .none := by
  unfold State.select
  rw [form]

theorem State.select_screeningDenied (form : selectSeats r = some xs) {x : Denial}
    (denied : s.screeningDenial (s.basket d) r.screening xs.length = some x) : s.select d r = s.basketReply d x.1 x.2 := by
  unfold State.select
  simp only [form, denied]

theorem State.select_seatDenied (form : selectSeats r = some xs) (found : s.findScreening r.screening = some (i, sc))
    (passed : s.screeningDenial (s.basket d) r.screening xs.length = none) {x : Denial}
    (denied : seatDenial (s.layout sc.layout) sc (s.basket d) (xs.map (·.1)) = some x) :
    s.select d r = s.basketReply d x.1 x.2 := by
  unfold State.select
  simp only [form, passed, found, denied]

theorem State.select_checked (form : selectSeats r = some xs) (found : s.findScreening r.screening = some (i, sc))
    (passed : s.screeningDenial (s.basket d) r.screening xs.length = none)
    (seats : seatDenial (s.layout sc.layout) sc (s.basket d) (xs.map (·.1)) = none) :
    s.select d r = s.priceAndHold d i sc xs .none := by
  unfold State.select
  simp only [form, passed, found, seats]

/-- What the holding of seats answers (R29, R61). -/
theorem State.holdSeats_replied (c : Instr) {serial : Nat} (law : (s.basket d).lawful) (accepts : (s.basket d).accepts serial)
    (h : s.holdable d sc xs) (nodup : (xs.map (·.1)).Nodup) (detail : ReplyDetail) {u : State}
    (hu : (s.accept c).priceAndHold d i sc xs detail = u) :
    heldNow d i sc xs s u ∧ replied d .ok detail u ∧ u.orders = s.orders.erase c ∧ u.hlc = s.hlc ∧ basketFrame d s u := by
  have held := State.holdSeats_heldNow (s := s.accept c) (i := i) law accepts h nodup
  rw [State.priceAndHold_holds (s := s.accept c) h] at hu
  subst hu
  exact ⟨held, State.basketReply_replied _ d _ _, rfl, rfl,
    ((s.accept_basketFrame d c).trans (State.holdSeats_basketFrame _ d i sc _)).trans
    (State.basketReply_basketFrame _ d _ _)⟩

end

/-- Settles O31. -/
theorem selectHoldsOrRefuses : Obligations.SelectHoldsOrRefuses := by
  unfold Obligations.SelectHoldsOrRefuses
  refine ⟨fun d r xs i sc s ready law accepts form found holdable => ?_, fun d r s ready accepts => ?_,
    fun l mine seats => ⟨companionDenial_none, fun a => companionDenial_first⟩, fun l sc taken => ⟨fun off => ?_, fun on => ?_⟩⟩
  · obtain ⟨-, nodup⟩ := selectSeats_distinct form
    have number := State.findScreening_number found
    obtain ⟨screening, seats⟩ := State.holdable_checks (number ▸ found) holdable
    rw [number] at screening
    obtain ⟨held, reply, orders, hlc, frame⟩ := State.holdSeats_replied (i := i) (.select d (some r)) law accepts holdable nodup .none rfl
    exact ⟨_, exec_select_of_accepts ready accepts (State.select_checked (s := s.accept _) form found screening seats), held, reply, orders,
      hlc, frame⟩
  · let t := s.accept (.select d (some r))
    refine ⟨fun form => exec_select_of_accepts ready accepts (State.select_badForm (s := t) form), fun xs form => ?_⟩
    have screened : ∀ x, s.screeningDenial (s.basket d) r.screening xs.length = some x → _ := fun x denied =>
      exec_select_of_accepts ready accepts (State.select_screeningDenied (s := t) form denied)
    refine ⟨fun unknown => screened _ (screeningDenial_unknown unknown), fun i sc found =>
      ⟨fun state => screened _ (screeningDenial_loaded found state), fun state => screened _ (screeningDenial_closed found state),
        fun onSale => ⟨fun n bound other => screened _ (screeningDenial_mixed found onSale bound other), fun bound =>
          ⟨fun full => screened _ (screeningDenial_full found onSale bound full), fun lines room => ?_⟩⟩⟩⟩
    have passed := screeningDenial_passed found onSale bound lines room
    have seated : ∀ x, seatDenial (s.layout sc.layout) sc (s.basket d) (xs.map (·.1)) = some x → _ := fun x denied =>
      exec_select_of_accepts ready accepts (State.select_seatDenied (s := t) form found passed denied)
    refine ⟨fun a missing => seated _ (seatDenial_missing missing),
      fun there => ⟨fun a st taken => seated _ (seatDenial_notFree there taken),
      fun free => ⟨fun a companion => seated _ (seatDenial_companion there free companion), fun companion =>
        ⟨fun a lone => seated _ (seatDenial_lone there free companion lone), fun lone => ?_⟩⟩⟩⟩
    intro before x after k c split kind price first
    refine exec_select_of_accepts ready accepts ((State.select_checked (s := t) form found passed
      (seatDenial_passed there free companion lone)).trans ?_)
    rw [split]
    refine State.priceAndHold_refused (s := t) kind price (fun y hy => ?_) first .none
    exact seatExists_of_firstMissing there (List.mem_map_of_mem (by rw [split]; exact List.mem_append_left _ hy))
  · rw [loneSeatDenial, off]; rfl
  · rw [loneSeatDenial, if_pos on]
    exact ⟨newLoneSeat_none, fun a => newLoneSeat_first⟩

/-! ## BEST (R52, R53, R59 to R61) -/

section
variable {s : State} {d : Drop} {r : BestReq} {f : BestForm} {i : Fin 16} {sc : Screening} {p : Placement}

theorem exec_best_of_accepts {u : State} (ready : s.kioskReady d) (h : (s.basket d).accepts r.serial)
    (act : State.best d r (s.accept (.best d (some r))) = u) : exec (.best d (some r)) s = .next u.transmit :=
  congrArg State.done ((State.basketRequest_accepts (ready.accept _) h).trans act)

theorem State.best_badForm (form : bestForm r = none) : s.best d r = s.basketReply d .badValue .none := by
  unfold State.best
  rw [form]

theorem State.best_screeningDenied (form : bestForm r = some f) {x : Denial}
    (denied : s.screeningDenial (s.basket d) r.screening r.count = some x) : s.best d r = s.basketReply d x.1 x.2 := by
  unfold State.best
  simp only [form, denied]

theorem State.best_noRun (form : bestForm r = some f) (found : s.findScreening r.screening = some (i, sc))
    (passed : s.screeningDenial (s.basket d) r.screening r.count = none)
    (search : findPlacement (s.layout sc.layout) sc f.kind r.count r.range r.split = none) :
    s.best d r = s.basketReply d .noRun .none := by
  unfold State.best
  simp only [form, passed, found, search]

/-- What is found passes the checks on its seats: a BEST asks for no companion seat (R52, R54). -/
theorem State.best_found (form : bestForm r = some f) (found : s.findScreening r.screening = some (i, sc))
    (passed : s.screeningDenial (s.basket d) r.screening r.count = none)
    (search : findPlacement (s.layout sc.layout) sc f.kind r.count r.range r.split = some p)
    (seats : seatDenial (s.layout sc.layout) sc (s.basket d) p.seats = none) :
    s.best d r = s.priceAndHold d i sc (p.seats.zip f.concessions)
      (.placement p.split p.score (p.seats.map (placedSeat (s.layout sc.layout)))) := by
  unfold State.best
  simp only [form, passed, found, search, seats]

theorem bestForm_kind (form : bestForm r = some f) : f.kind ≠ .companion := by
  unfold bestForm at form
  split at form
  · split at form
    · rename_i ok
      obtain rfl := Option.some.inj form
      obtain ⟨-, -, -, kind, -⟩ := ok
      dsimp only
      obtain e | e := kind <;> rw [e] <;> nofun
    · cases form
  · cases form

/-- The seats found, with the concessions in order (R60, R61). -/
theorem placement_zip (form : bestForm r = some f)
    (search : findPlacement (s.layout sc.layout) sc f.kind r.count r.range r.split = some p) :
    (p.seats.zip f.concessions).map (·.1) = p.seats ∧ p.seats.length = r.count ∧ p.seats.Nodup := by
  obtain ⟨length, nodup⟩ := findPlacement_distinct search
  obtain ⟨-, concessions⟩ := bestForm_count form
  refine ⟨List.map_fst_zip ?_, length, nodup⟩
  omega

end

/-- Settles O33. -/
theorem bestHoldsThePlacement : Obligations.BestHoldsThePlacement := by
  unfold Obligations.BestHoldsThePlacement
  refine ⟨fun d r f i sc s ready law accepts form found => ⟨fun p search holdable => ?_, fun search onSale bound lines room => ?_⟩,
    fun d r s ready accepts => ?_⟩
  · obtain ⟨seats, count, nodup⟩ := placement_zip form search
    have number := State.findScreening_number found
    obtain ⟨screening, -⟩ := State.holdable_checks (number ▸ found) holdable
    have length : (p.seats.zip f.concessions).length = r.count := by rw [← count, ← List.length_map (f := (·.1)), seats]
    rw [length, number] at screening
    obtain ⟨held, reply, orders, hlc, frame⟩ := State.holdSeats_replied (i := i) (.best d (some r)) law accepts holdable
      (by rw [seats]; exact nodup) (.placement p.split p.score (p.seats.map (placedSeat (s.layout sc.layout)))) rfl
    exact ⟨_, exec_best_of_accepts ready accepts (State.best_found (s := s.accept _) form found screening search
      (findPlacement_seatDenial _ search (bestForm_kind form))), held, reply, seats, count, orders, hlc, frame⟩
  · rw [State.findScreening_number found] at bound
    exact exec_best_of_accepts ready accepts
      (State.best_noRun (s := s.accept _) form found (screeningDenial_passed found onSale bound lines room) search)
  · let t := s.accept (.best d (some r))
    refine ⟨fun form => exec_best_of_accepts ready accepts (State.best_badForm (s := t) form), fun f form => ?_⟩
    have screened : ∀ x, s.screeningDenial (s.basket d) r.screening r.count = some x → _ := fun x denied =>
      exec_best_of_accepts ready accepts (State.best_screeningDenied (s := t) form denied)
    refine ⟨fun unknown => screened _ (screeningDenial_unknown unknown), fun i sc found =>
      ⟨fun state => screened _ (screeningDenial_loaded found state), fun state => screened _ (screeningDenial_closed found state),
        fun onSale => ⟨fun n bound other => screened _ (screeningDenial_mixed found onSale bound other), fun bound =>
          ⟨fun full => screened _ (screeningDenial_full found onSale bound full), fun lines room p search => ?_⟩⟩⟩⟩
    intro before x after k c split kind price first
    have passed := screeningDenial_passed found onSale bound lines room
    have seats := findPlacement_seatDenial (s.basket d) search (bestForm_kind form)
    refine exec_best_of_accepts ready accepts ((State.best_found (s := t) form found passed search seats).trans ?_)
    rw [split]
    refine State.priceAndHold_refused (s := t) kind price (fun y hy => ?_) first _
    obtain ⟨all, -, -⟩ := placement_zip form search
    obtain ⟨row, seatKind, -⟩ := (findPlacement_seats search).1 y.1 (by
      rw [← all, split]
      exact List.mem_map_of_mem (List.mem_append_left _ hy))
    exact Bool.and_eq_true_iff.2 ⟨decide_eq_true row, Option.isSome_iff_exists.2 ⟨_, seatKind⟩⟩

end Sys2Proof.Machine
end

section
/-! The search (R52, R54 to R59). -/

namespace Sys2Proof.Machine

/-! ## The first of lowest score (R56, R58) -/

theorem leastBy_eq_none {α : Type} {score : α → Nat} {l : List α} : leastBy score l = none ↔ l = [] := by
  cases l with
  | nil => simp [leastBy]
  | cons x l =>
    simp only [leastBy, reduceCtorEq, iff_false]
    split
    · nofun
    · split <;> nofun

/-- Of a list in an order, the first of the members of lowest score comes before the others of that score. -/
theorem leastBy_first {α : Type} {score : α → Nat} {R : α → α → Prop} {l : List α} (ordered : l.Pairwise R) {x : α}
    (h : leastBy score l = some x) : ∀ y ∈ l, score x < score y ∨ score x = score y ∧ (x = y ∨ R x y) := by
  induction l generalizing x with
  | nil => cases h
  | cons z l ih =>
    obtain ⟨first, rest⟩ := List.pairwise_cons.1 ordered
    rw [leastBy] at h
    cases least : leastBy score l with
    | none =>
      rw [least] at h
      obtain rfl : z = x := Option.some.inj h
      rw [leastBy_eq_none.1 least]
      intro y hy
      obtain rfl : y = z := by simpa using hy
      exact .inr ⟨rfl, .inl rfl⟩
    | some w =>
      rw [least] at h
      dsimp only at h
      have after := ih rest least
      have mem := leastBy_mem score least
      split at h <;> obtain rfl := Option.some.inj h
      · rename_i less
        intro y hy
        rcases List.mem_cons.1 hy with rfl | hy
        · exact .inl less
        · exact after y hy
      · rename_i least
        intro y hy
        rcases List.mem_cons.1 hy with rfl | hy
        · exact .inr ⟨rfl, .inl rfl⟩
        · have low : score z ≤ score y := (not_lt.1 least).trans ((after y hy).elim le_of_lt fun e => e.1.le)
          exact low.lt_or_eq.imp_right fun e => ⟨e, .inr (first y hy)⟩

/-! ## The runs and the pairs of the rows searched (R52, R54, R57) -/

section
variable {l : Layout} {sc : Screening} {k : SeatKind} {n row start : Nat} {range : Option (Nat × Nat)}

theorem mem_searchRows : row ∈ searchRows l range ↔
    row < l.rowCount ∧ ∀ first last, range = some (first, last) → first ≤ row ∧ row ≤ last := by
  rw [searchRows, List.mem_filter, List.mem_range]
  refine and_congr_right fun _ => ?_
  cases range with
  | none => simp
  | some p =>
    obtain ⟨first, last⟩ := p
    simp

theorem searchRows_ascending : (searchRows l range).Pairwise (· < ·) := List.pairwise_lt_range.filter _

theorem runSeats_get {j : Nat} (h : j < n) : (runSeats row start n)[j]? = some ⟨row, start + j⟩ := by
  simp [runSeats, h]

theorem isCandidate_iff : isCandidate l sc k n row start = true ↔
    (∀ j, j < n → l.seatKind ⟨row, start + j⟩ = some k ∧ sc.stateAt ⟨row, start + j⟩ = some .free) ∧
      loneSeatDenial l sc (runSeats row start n) = none := by
  simp [isCandidate, runSeats]

/-- A candidate run lies in its row. -/
theorem isCandidate_start (one : 1 ≤ n) (h : isCandidate l sc k n row start = true) : start < l.rowLength row := by
  obtain ⟨kind, -⟩ := (isCandidate_iff.1 h).1 0 (by omega)
  unfold Layout.rowLength
  simp only [Layout.seatKind, Layout.kindAt, Nat.add_zero] at kind
  cases hr : l.rows[row]? with
  | none => simp [hr] at kind
  | some r =>
    rw [hr] at kind
    by_contra far
    simp [List.getElem?_eq_none (not_lt.1 far)] at kind

/-- The run of a row from a start, with its score. -/
def runAt (l : Layout) (n row start : Nat) : Run := { row := row, start := start, score := runScore l n row start }

theorem mem_rowRuns (one : 1 ≤ n) {r : Run} : r ∈ rowRuns l sc k n row ↔
    ∃ start, isCandidate l sc k n row start = true ∧ r = runAt l n row start := by
  simp only [rowRuns, List.mem_map, List.mem_filter, List.mem_range]
  exact ⟨fun ⟨start, ⟨_, cand⟩, e⟩ => ⟨start, cand, e.symm⟩, fun ⟨start, cand, e⟩ => ⟨start, ⟨isCandidate_start one cand, cand⟩, e.symm⟩⟩

/-- Runs in ascending order of row and start. -/
def Run.before (a b : Run) : Prop := a.row < b.row ∨ a.row = b.row ∧ a.start < b.start

theorem rowRuns_ascending : (rowRuns l sc k n row).Pairwise fun a b => a.row = row ∧ b.row = row ∧ a.start < b.start := by
  rw [rowRuns, List.pairwise_map]
  exact (List.pairwise_lt_range.filter _).imp fun lt => ⟨rfl, rfl, lt⟩

theorem runs_ascending : ((searchRows l range).flatMap (rowRuns l sc k n)).Pairwise Run.before := by
  rw [List.pairwise_flatMap]
  refine ⟨fun row _ => rowRuns_ascending.imp fun ⟨a, b, lt⟩ => .inr ⟨a.trans b.symm, lt⟩,
    searchRows_ascending.imp fun {x y} lt a ha b hb => .inl ?_⟩
  rw [rowRuns_row ha, rowRuns_row hb]
  exact lt

/-- A valid pair: two candidate runs in adjacent rows that leave no new lone seat together (R57). -/
def pairValid (l : Layout) (sc : Screening) (k : SeatKind) (n : Nat) (range : Option (Nat × Nat)) (row a b : Nat) : Prop :=
  row ∈ searchRows l range ∧ row + 1 ∈ searchRows l range ∧ isCandidate l sc k ((n + 1) / 2) row a = true ∧
    isCandidate l sc k (n / 2) (row + 1) b = true ∧
    loneSeatDenial l sc (runSeats row a ((n + 1) / 2) ++ runSeats (row + 1) b (n / 2)) = none

/-- The pair of runs from two starts. -/
def pairAt (l : Layout) (n row a b : Nat) : Run × Run := (runAt l ((n + 1) / 2) row a, runAt l (n / 2) (row + 1) b)

theorem lowerSize (n : Nat) : n - upperSize n = n / 2 := by unfold upperSize; omega

theorem mem_pairs (two : 2 ≤ n) {p : Run × Run} :
    p ∈ (searchRows l range).flatMap (rowPairs l sc k n (searchRows l range)) ↔
      ∃ row a b, pairValid l sc k n range row a b ∧ p = pairAt l n row a b := by
  have upper : 1 ≤ upperSize n := by unfold upperSize; omega
  have lower : 1 ≤ n / 2 := by omega
  have whole : pairSeats n = fun p : Run × Run => runSeats p.1.row p.1.start ((n + 1) / 2) ++ runSeats p.2.row p.2.start (n / 2) := by
    funext p
    rw [pairSeats, lowerSize]; rfl
  rw [List.mem_flatMap]
  constructor
  · rintro ⟨row, rowIn, mem⟩
    unfold rowPairs at mem
    split at mem
    · rename_i next
      obtain ⟨u, hu, mem⟩ := List.mem_flatMap.1 mem
      obtain ⟨mem, lone⟩ := List.mem_filter.1 mem
      obtain ⟨w, hw, rfl⟩ := List.mem_map.1 mem
      obtain ⟨a, ca, rfl⟩ := (mem_rowRuns upper).1 hu
      rw [lowerSize] at hw
      obtain ⟨b, cb, rfl⟩ := (mem_rowRuns lower).1 hw
      rw [whole] at lone
      exact ⟨row, a, b, ⟨rowIn, by simpa using next, ca, cb, Option.isNone_iff_eq_none.1 lone⟩, rfl⟩
    · cases mem
  · rintro ⟨row, a, b, ⟨rowIn, next, ca, cb, lone⟩, rfl⟩
    refine ⟨row, rowIn, ?_⟩
    unfold rowPairs
    rw [if_pos (by simpa using next)]
    refine List.mem_flatMap.2 ⟨_, (mem_rowRuns upper).2 ⟨a, ca, rfl⟩, List.mem_filter.2 ⟨List.mem_map.2 ⟨_, ?_, rfl⟩, ?_⟩⟩
    · rw [lowerSize]; exact (mem_rowRuns lower).2 ⟨b, cb, rfl⟩
    · rw [whole]; exact Option.isNone_iff_eq_none.2 lone

/-- Pairs in ascending order of upper row, upper start and lower start. -/
def pairBefore (p q : Run × Run) : Prop :=
  p.1.row < q.1.row ∨ p.1.row = q.1.row ∧ (p.1.start < q.1.start ∨ p.1.start = q.1.start ∧ p.2.start < q.2.start)

theorem mem_rowPairs_row {rows : List Nat} {p : Run × Run} (h : p ∈ rowPairs l sc k n rows row) : p.1.row = row := by
  unfold rowPairs at h
  split at h
  · obtain ⟨u, hu, mem⟩ := List.mem_flatMap.1 h
    obtain ⟨w, -, rfl⟩ := List.mem_map.1 (List.mem_filter.1 mem).1
    exact rowRuns_row hu
  · cases h

theorem pairs_ascending : ((searchRows l range).flatMap (rowPairs l sc k n (searchRows l range))).Pairwise pairBefore := by
  rw [List.pairwise_flatMap]
  refine ⟨fun row _ => ?_, searchRows_ascending.imp fun {x y} lt p hp q hq => .inl ?_⟩
  · unfold rowPairs
    split
    · rw [List.pairwise_flatMap]
      refine ⟨fun u _ => ?_, rowRuns_ascending.imp fun {u v} ⟨hu, hv, lt⟩ p hp q hq => ?_⟩
      · refine List.Pairwise.filter _ ?_
        rw [List.pairwise_map]
        exact rowRuns_ascending.imp fun ⟨_, _, lt⟩ => .inr ⟨rfl, .inr ⟨rfl, lt⟩⟩
      · obtain ⟨w, -, rfl⟩ := List.mem_map.1 (List.mem_filter.1 hp).1
        obtain ⟨x, -, rfl⟩ := List.mem_map.1 (List.mem_filter.1 hq).1
        exact .inr ⟨hu.trans hv.symm, .inl lt⟩
    · exact .nil
  · rw [mem_rowPairs_row hp, mem_rowPairs_row hq]
    exact lt

end

theorem absDiff_cast (a b : Nat) : ((absDiff a b : Nat) : Int) = |(a : Int) - b| := by
  unfold absDiff
  rcases le_total a b with h | h
  · rw [abs_of_nonpos (by omega)]; omega
  · rw [abs_of_nonneg (by omega)]; omega

section
variable {l : Layout} {sc : Screening} {k : SeatKind} {n : Nat} {range : Option (Nat × Nat)} {split : Bool} {p : Placement}

theorem findPlacement_single (h : findPlacement l sc k n range split = some p) (whole : p.split = false) :
    singlePlacement l sc k n range = some p := by
  unfold findPlacement at h
  split at h
  · rename_i q single
    rw [single, h]
  · split at h
    · obtain ⟨q, -, rfl⟩ := Option.map_eq_some_iff.1 h
      cases whole
    · cases h

theorem findPlacement_pair (h : findPlacement l sc k n range split = some p) (pair : p.split = true) :
    singlePlacement l sc k n range = none ∧ (2 ≤ n ∧ split = true) ∧ splitPlacement l sc k n range = some p := by
  unfold findPlacement at h
  split at h
  · rename_i q single
    obtain ⟨r, -, rfl⟩ := Option.map_eq_some_iff.1 single
    obtain rfl := Option.some.inj h
    cases pair
  · rename_i none
    split at h
    · exact ⟨none, by assumption, h⟩
    · cases h

theorem findPlacement_none (h : findPlacement l sc k n range split = none) :
    singlePlacement l sc k n range = none ∧ (2 ≤ n ∧ split = true → splitPlacement l sc k n range = none) := by
  unfold findPlacement at h
  split at h
  · cases h
  · exact ⟨by assumption, fun asked => by rwa [if_pos asked] at h⟩

/-- No single placement, no candidate run (R54, R59). -/
theorem singlePlacement_none (one : 1 ≤ n) (h : singlePlacement l sc k n range = none) (row start : Nat)
    (rowIn : row ∈ searchRows l range) : isCandidate l sc k n row start = false := by
  rw [singlePlacement, Option.map_eq_none_iff, leastBy_eq_none, List.flatMap_eq_nil_iff] at h
  by_contra cand
  have mem := (mem_rowRuns (l := l) (sc := sc) (k := k) (row := row) one).2 ⟨start, by simpa using cand, rfl⟩
  rw [h row rowIn] at mem
  cases mem

/-- The single placement is the candidate run that comes first by score, row and start (R56). -/
theorem singlePlacement_first (one : 1 ≤ n) (h : singlePlacement l sc k n range = some p) :
    ∃ row start, p.seats = runSeats row start n ∧ p.score = runScore l n row start ∧ row ∈ searchRows l range ∧
      isCandidate l sc k n row start = true ∧
      ∀ row' start', row' ∈ searchRows l range → isCandidate l sc k n row' start' = true →
        p.score < runScore l n row' start' ∨
          p.score = runScore l n row' start' ∧ (row < row' ∨ row = row' ∧ start ≤ start') := by
  obtain ⟨r, least, rfl⟩ := Option.map_eq_some_iff.1 h
  obtain ⟨row, rowIn, mem⟩ := List.mem_flatMap.1 (leastBy_mem Run.score least)
  obtain ⟨start, cand, rfl⟩ := (mem_rowRuns one).1 mem
  refine ⟨row, start, rfl, rfl, rowIn, cand, fun row' start' rowIn' cand' => ?_⟩
  have other := leastBy_first runs_ascending least (runAt l n row' start')
    (List.mem_flatMap.2 ⟨row', rowIn', (mem_rowRuns one).2 ⟨start', cand', rfl⟩⟩)
  refine other.imp_right fun ⟨score, order⟩ => ⟨score, ?_⟩
  obtain same | before | ⟨row, start⟩ := order
  · exact .inr ⟨congrArg Run.row same, (congrArg Run.start same).le⟩
  · exact .inl before
  · exact .inr ⟨row, start.le⟩

theorem splitPlacement_none (two : 2 ≤ n) (h : splitPlacement l sc k n range = none) (row a b : Nat) :
    ¬ pairValid l sc k n range row a b := by
  rw [splitPlacement, Option.map_eq_none_iff, leastBy_eq_none] at h
  intro valid
  have mem := (mem_pairs (p := pairAt l n row a b) two).2 ⟨row, a, b, valid, rfl⟩
  rw [h] at mem
  cases mem

/-- The split placement is the valid pair that comes first by score, upper row, upper start and lower start (R58). -/
theorem splitPlacement_first (two : 2 ≤ n) (h : splitPlacement l sc k n range = some p) :
    ∃ row a b, pairValid l sc k n range row a b ∧
      p.seats = runSeats row a ((n + 1) / 2) ++ runSeats (row + 1) b (n / 2) ∧ p.score = pairScore (pairAt l n row a b) ∧
      ∀ row' a' b', pairValid l sc k n range row' a' b' →
        p.score < pairScore (pairAt l n row' a' b') ∨
          p.score = pairScore (pairAt l n row' a' b') ∧ (row < row' ∨ row = row' ∧ (a < a' ∨ a = a' ∧ b ≤ b')) := by
  obtain ⟨q, least, rfl⟩ := Option.map_eq_some_iff.1 h
  obtain ⟨row, a, b, valid, rfl⟩ := (mem_pairs two).1 (leastBy_mem pairScore least)
  refine ⟨row, a, b, valid, by rw [pairSeats, lowerSize]; rfl, rfl, fun row' a' b' valid' => ?_⟩
  have other := leastBy_first pairs_ascending least (pairAt l n row' a' b') ((mem_pairs two).2 ⟨row', a', b', valid', rfl⟩)
  refine other.imp_right fun ⟨score, order⟩ => ⟨score, ?_⟩
  obtain same | before | ⟨row, before | ⟨upper, lower⟩⟩ := order
  · exact .inr ⟨congrArg (·.1.row) same, .inr ⟨congrArg (·.1.start) same, (congrArg (·.2.start) same).le⟩⟩
  · exact .inl before
  · exact .inr ⟨row, .inl before⟩
  · exact .inr ⟨row, .inr ⟨upper, lower.le⟩⟩

end

/-- Settles O32. -/
theorem searchFindsTheLeastRun : Obligations.SearchFindsTheLeastRun := by
  unfold Obligations.SearchFindsTheLeastRun
  intro l sc k n range split one valid score
  refine ⟨fun p found whole => singlePlacement_first one (findPlacement_single found whole), fun p found pair => ?_, fun none => ?_,
    fun row => mem_searchRows, fun row start m some_ => ⟨runSeats_length _ _ _, fun j => runSeats_get, isCandidate_iff, ?_⟩⟩
  · obtain ⟨none, ⟨two, asked⟩, split⟩ := findPlacement_pair found pair
    exact ⟨two, asked, singlePlacement_none one none, splitPlacement_first two split⟩
  · obtain ⟨none, split⟩ := findPlacement_none none
    exact ⟨singlePlacement_none one none, fun two asked => splitPlacement_none two (split ⟨two, asked⟩)⟩
  · have middle : ((2 * start + m - 1 : Nat) : Int) = 2 * start + m - 1 := by omega
    rw [runScore, Nat.cast_add, Nat.cast_mul, absDiff_cast, absDiff_cast, middle]
    rfl

end Sys2Proof.Machine
end

section
/-! The transmitter's choice (R184). -/

namespace Sys2Proof.Machine

/-! ## The notice of highest level (R184) -/

theorem highest_mem {l : List (Condition × Nat)} {e : Condition × Nat} (h : highest l = some e) : e ∈ l := by
  induction l generalizing e with
  | nil => cases h
  | cons x l ih =>
    rw [highest] at h
    cases best : highest l with
    | none => rw [best] at h; obtain rfl := Option.some.inj h; exact List.mem_cons_self
    | some y =>
      rw [best] at h
      dsimp only at h
      split at h <;> obtain rfl := Option.some.inj h
      · exact List.mem_cons_of_mem _ (ih best)
      · exact List.mem_cons_self

/-- Of conditions in an order, the first of those of highest level comes before the others of that level. -/
theorem highest_first {R : Condition × Nat → Condition × Nat → Prop} {l : List (Condition × Nat)} (ordered : l.Pairwise R)
    {e : Condition × Nat} (h : highest l = some e) : ∀ y ∈ l, y.2 < e.2 ∨ y.2 = e.2 ∧ (e = y ∨ R e y) := by
  induction l generalizing e with
  | nil => cases h
  | cons x l ih =>
    obtain ⟨first, rest⟩ := List.pairwise_cons.1 ordered
    rw [highest] at h
    cases best : highest l with
    | none =>
      rw [best] at h
      obtain rfl : x = e := Option.some.inj h
      rw [highest_eq_none.1 best]
      intro y hy
      obtain rfl : y = x := by simpa using hy
      exact .inr ⟨rfl, .inl rfl⟩
    | some w =>
      rw [best] at h
      dsimp only at h
      have after := ih rest best
      split at h <;> obtain rfl := Option.some.inj h
      · rename_i less
        intro y hy
        rcases List.mem_cons.1 hy with rfl | hy
        · exact .inl less
        · exact after y hy
      · rename_i top
        intro y hy
        rcases List.mem_cons.1 hy with rfl | hy
        · exact .inr ⟨rfl, .inl rfl⟩
        · have high : y.2 ≤ x.2 := ((after y hy).elim le_of_lt fun e => e.1.le).trans (not_lt.1 top)
          exact high.lt_or_eq.imp_right fun e => ⟨e, .inr (first y hy)⟩

theorem conditionOrder_ranks : conditionOrder.map Condition.rank = List.range 22 := by decide

theorem mem_conditionOrder (c : Condition) : c ∈ conditionOrder := by
  unfold conditionOrder
  cases c with
  | auth d => exact List.mem_append_left _ (List.mem_map_of_mem (List.mem_finRange d))
  | _ => exact List.mem_append_right _ (by simp)

theorem mem_due {h : Hlc} {c : Condition} {n : Nat} : (c, n) ∈ h.due ↔ h.conditions.raised c = true ∧ levelOf h.levels c = .value n := by
  rw [Hlc.due, List.mem_filterMap]
  constructor
  · rintro ⟨k, -, e⟩
    split at e
    · cases e
      exact ⟨by assumption, by assumption⟩
    · cases e
  · rintro ⟨raised, level⟩
    exact ⟨c, mem_conditionOrder c, by rw [raised, level]⟩

theorem due_ranked (h : Hlc) : h.due.Pairwise fun x y => x.1.rank < y.1.rank := by
  have ranked : conditionOrder.Pairwise fun x y => x.rank < y.rank := by
    have ascending : (conditionOrder.map Condition.rank).Pairwise (· < ·) := by rw [conditionOrder_ranks]; exact List.pairwise_lt_range
    rwa [List.pairwise_map] at ascending
  rw [Hlc.due, List.pairwise_filterMap]
  refine ranked.imp fun {x y} lt a ha b hb => ?_
  split at ha <;> cases ha
  split at hb <;> cases hb
  exact lt

/-- A notice says nothing of the frame under way. -/
theorem State.notice_tx (s : State) (o : Option TxFrame) (c : Condition) : (s.setHlc { s.hlc with tx := o }).notice c = s.notice c := by
  cases c <;> rfl

/-- Settles O18. -/
theorem transmitterChoosesNextFrame : Obligations.TransmitterChoosesNextFrame := by
  unfold Obligations.TransmitterChoosesNextFrame
  intro s
  set t := s.setHlc { s.hlc with tx := none } with ht
  have idle : t.hlc.tx = none := rfl
  refine ⟨t.transmit, rfl, (s.setHlc_kept _ (by decide)).trans (t.transmit_kept (by decide)), fun r rest waits => ?_, fun quiet => ?_⟩
  · have waits : t.hlc.replies = r :: rest := waits
    rw [State.transmit, idle, waits]
    rfl
  · have quiet : t.hlc.replies = [] := quiet
    rw [State.transmit, idle, quiet]
    dsimp only
    cases best : highest t.hlc.due with
    | none =>
      refine .inr ⟨fun c n raised level => ?_, rfl⟩
      have mem : (c, n) ∈ t.hlc.due := mem_due.2 ⟨raised, level⟩
      rw [highest_eq_none.1 best] at mem
      cases mem
    | some e =>
      obtain ⟨c, n⟩ := e
      obtain ⟨raised, level⟩ := mem_due.1 (highest_mem best)
      refine .inl ⟨c, n, raised, level, fun c' n' raised' level' => ?_, ?_, rfl⟩
      · have order := highest_first (due_ranked t.hlc) best (c', n') (mem_due.2 ⟨raised', level'⟩)
        refine order.imp_right fun ⟨same, order⟩ => ⟨same, ?_⟩
        obtain same | less := order
        · cases same; exact le_rfl
        · exact less.le
      · rw [← s.notice_tx none c]
        rfl

end Sys2Proof.Machine
end

section
/-! A reader slot that moves, and what stays (R83 to R92). -/

namespace Sys2Proof.Machine

/-! ## What moves a reader slot leaves alone (R83 to R92) -/

/-- Of one drop only its reader slot and the two outbound slots READER and PUSH_SLOT may change. -/
structure readerOnly (d : Drop) (s u : State) : Prop where
  session : u.session d = s.session d
  orders : u.orders = s.orders
  hlc : u.hlc = s.hlc
  slots : ∀ i, i ≠ .pushSlot → i ≠ .reader → u.slot d i = s.slot d i
  frame : sessionFrame d s u

section
variable {d : Drop} {s t u : State}

theorem readerOnly.refl (d : Drop) (s : State) : readerOnly d s s := ⟨rfl, rfl, rfl, fun _ _ _ => rfl, .refl d s⟩

theorem readerOnly.trans (h : readerOnly d s t) (k : readerOnly d t u) : readerOnly d s u where
  session := k.session.trans h.session
  orders := k.orders.trans h.orders
  hlc := k.hlc.trans h.hlc
  slots i a b := (k.slots i a b).trans (h.slots i a b)
  frame := h.frame.trans k.frame

theorem readerOnly.ite {c : Prop} [Decidable c] (h : c → readerOnly d s t) (k : ¬c → readerOnly d s u) :
    readerOnly d s (if c then t else u) := by
  split
  · exact h ‹_›
  · exact k ‹_›

theorem readerOnly.whenever {c : Prop} [Decidable c] (h : c → readerOnly d s t) : readerOnly d s (if c then t else s) :=
  .ite h fun _ => .refl d s

end

section
variable (s : State) (d : Drop)

theorem State.setReader_readerOnly (r : ReaderSlot) : readerOnly d s (s.setReader d r) :=
  ⟨rfl, rfl, rfl, fun _ _ _ => rfl, s.setReader_frame d r⟩

theorem State.place_readerOnly {i : SlotId} (f : OutFrame) (h : i = .pushSlot ∨ i = .reader) : readerOnly d s (s.place d i f) where
  session := rfl
  orders := rfl
  hlc := rfl
  slots j a b := by
    rw [State.place_slot, if_neg]
    rintro rfl
    exact h.elim a b
  frame := s.place_frame d i f

theorem State.pushSlot_readerOnly (r : SlotReason) : readerOnly d s (s.pushSlot d r) := s.place_readerOnly d _ (.inl rfl)

theorem State.pushSlotAfter_readerOnly (before : ReaderState) (o : Option SlotReason) :
    readerOnly d s (s.pushSlotAfter d before o) := by
  cases o with
  | some r => exact s.pushSlot_readerOnly d r
  | none => exact .ite (fun _ => .refl d s) fun _ => s.pushSlot_readerOnly d _

theorem State.powerOff_readerOnly : readerOnly d s (s.powerOff d) :=
  (s.setReader_readerOnly d _).trans (State.place_readerOnly _ d _ (.inr rfl))

theorem State.powerTest_readerOnly : readerOnly d s (s.powerTest d) :=
  .whenever fun _ => (s.setReader_readerOnly d _).trans (State.place_readerOnly _ d _ (.inr rfl))

theorem State.powerOffPush_readerOnly : readerOnly d s (s.powerOffPush d) :=
  (s.powerOff_readerOnly d).trans (State.pushSlotAfter_readerOnly _ d _ _)

theorem State.leaveCardWait_readerOnly : readerOnly d s (s.leaveCardWait d) := .whenever fun _ => s.powerOffPush_readerOnly d

theorem State.cardRemoved_readerOnly : readerOnly d s (s.cardRemoved d) :=
  ((s.setReader_readerOnly d _).trans (State.powerOff_readerOnly _ d)).trans (State.pushSlot_readerOnly _ d _)

/-! ## Where these moves leave the slot and its frames -/

@[simp] theorem State.send_slot (cs : List Instr) (e : Drop) (i : SlotId) : (s.send cs).slot e i = s.slot e i := rfl

@[simp] theorem State.pushSlot_reader (r : SlotReason) : (s.pushSlot d r).reader d = s.reader d := rfl

theorem State.pushSlot_slot (r : SlotReason) (i : SlotId) :
    (s.pushSlot d r).slot d i =
      if i = .pushSlot then some { frame := .slotPush (slotPushOf (s.reader d) r), sent := false } else s.slot d i :=
  s.place_slot d _ i _

@[simp] theorem State.pushSlotAfter_reader (before : ReaderState) (o : Option SlotReason) :
    (s.pushSlotAfter d before o).reader d = s.reader d := by
  cases o with
  | some r => rfl
  | none => unfold State.pushSlotAfter; dsimp only; split <;> rfl

/-- Outside PUSH_SLOT the push at the end of an event leaves every frame. -/
theorem State.pushSlotAfter_slot (before : ReaderState) (o : Option SlotReason) {i : SlotId} (h : i ≠ .pushSlot) :
    (s.pushSlotAfter d before o).slot d i = s.slot d i := by
  cases o with
  | some r => exact (s.pushSlot_slot d r i).trans (if_neg h)
  | none =>
    unfold State.pushSlotAfter
    dsimp only
    split
    · rfl
    · exact (s.pushSlot_slot d _ i).trans (if_neg h)

theorem State.pushSlotAfter_same {before : ReaderState} (h : (s.reader d).state = before) : s.pushSlotAfter d before none = s := if_pos h

theorem State.pushSlotAfter_changed {before : ReaderState} (h : (s.reader d).state ≠ before) :
    s.pushSlotAfter d before none = s.pushSlot d .change := if_neg h

/-- After a change of state the CHANGE push waits with the slot as it stands. -/
theorem State.pushSlotAfter_waits {before : ReaderState} (h : (s.reader d).state ≠ before) :
    (s.pushSlotAfter d before none).waits d .pushSlot (.slotPush (slotPushOf (s.reader d) .change)) := by
  rw [s.pushSlotAfter_changed d h]
  exact s.place_slot_same d _ _

@[simp] theorem State.powerOff_reader : (s.powerOff d).reader d = (s.reader d).toPowerDown := by simp [State.powerOff]

theorem State.powerOff_slot (i : SlotId) :
    (s.powerOff d).slot d i = if i = .reader then some { frame := .reader .off, sent := false } else s.slot d i :=
  State.place_slot _ d _ i _

@[simp] theorem State.powerOffPush_reader : (s.powerOffPush d).reader d = (s.reader d).toPowerDown := by
  simp [State.powerOffPush]

theorem State.powerOffPush_waits : (s.powerOffPush d).waits d .reader (.reader .off) :=
  (State.pushSlotAfter_slot _ d _ _ (by decide)).trans ((s.powerOff_slot d _).trans (if_pos rfl))

theorem State.powerOffPush_pushed (h : (s.reader d).state ≠ .poweringDown) :
    (s.powerOffPush d).waits d .pushSlot (.slotPush (slotPushOf ((s.powerOffPush d).reader d) .change)) := by
  have moved := State.pushSlotAfter_waits (s.powerOff d) d (before := (s.reader d).state)
    (by rw [State.powerOff_reader]; exact Ne.symm h)
  rw [State.powerOff_reader] at moved
  rw [State.powerOffPush_reader]
  exact moved

theorem State.leaveCardWait_ready (h : (s.reader d).state = .ready) : s.leaveCardWait d = s.powerOffPush d := if_pos h

theorem State.leaveCardWait_other (h : (s.reader d).state ≠ .ready) : s.leaveCardWait d = s := if_neg h

theorem State.powerTest_met (h : s.powerCondition d = true) : (s.powerTest d).reader d = (s.reader d).toPowerUp ∧
    (s.powerTest d).waits d .reader (.reader (.on ((s.reader d).supply.getD .v3))) := by
  unfold State.powerTest
  rw [if_pos h]
  exact ⟨by simp, State.place_slot_same _ d _ _⟩

theorem State.powerTest_unmet (h : ¬s.powerCondition d = true) : s.powerTest d = s := if_neg h

theorem State.powerCondition_iff : s.powerCondition d = true ↔ (s.reader d).state = .classified ∧ (s.reader d).spent = false ∧
    (s.reader d).outstanding = .none ∧ (s.session d).state = .cardWait := by
  simp [State.powerCondition, and_assoc]

end

section
variable {s : State} {d : Drop}

theorem State.readerReport_kiosk {α : Type} {x : α} {act : α → State → State} (kiosk : (s.dropRec d).kind = .kiosk) :
    s.readerReport d (some x) act = act x s := if_pos (by simp [State.isKiosk, kiosk])

theorem State.readerReport_other {α : Type} {body : Body α} {act : α → State → State} (kiosk : (s.dropRec d).kind ≠ .kiosk) :
    s.readerReport d body act = s := by
  cases body with
  | none => rfl
  | some x => exact if_neg (by simp [State.isKiosk, kiosk])

end

/-! ## The six reader timers (R84, R86 to R88, R90) -/

section
variable {s : State} {d : Drop}

theorem State.settleEnd_eq (settling : (s.reader d).state = .settling) (runs : (s.reader d).timing .settle = true) :
    State.settleEnd d s =
      ((s.setReader d ((s.reader d).classify (s.dropRec d).supply)).powerTest d).pushSlotAfter d .settling none :=
  if_pos ⟨settling, runs⟩

theorem State.settleEnd_readerOnly : readerOnly d s (State.settleEnd d s) :=
  .whenever fun _ => ((s.setReader_readerOnly d _).trans (State.powerTest_readerOnly _ d)).trans (State.pushSlotAfter_readerOnly _ d _ _)

theorem State.powerDownDelayEnd_eq (down : (s.reader d).state = .poweringDown) (runs : (s.reader d).timing .delay = true) :
    State.powerDownDelayEnd d s =
      ((s.setReader d (s.reader d).afterPowerDown).powerTest d).pushSlotAfter d .poweringDown none :=
  if_pos ⟨down, runs⟩

theorem State.powerDownDelayEnd_readerOnly : readerOnly d s (State.powerDownDelayEnd d s) :=
  .whenever fun _ => ((s.setReader_readerOnly d _).trans (State.powerTest_readerOnly _ d)).trans (State.pushSlotAfter_readerOnly _ d _ _)

/-- A slot moved and tested holds what it was moved to, powered up when it meets the power condition. -/
theorem State.moved_powerTest (r : ReaderSlot) (before : ReaderState) {u : State}
    (hu : ((s.setReader d r).powerTest d).pushSlotAfter d before none = u) :
    (r.state ≠ .classified ∨ r.spent = true ∨ r.outstanding ≠ .none ∨ (s.session d).state ≠ .cardWait →
      u.reader d = r ∧ u.slot d .reader = s.slot d .reader) ∧
    (r.state = .classified → r.spent = false → r.outstanding = .none → (s.session d).state = .cardWait →
      u.reader d = r.toPowerUp ∧ u.waits d .reader (.reader (.on (r.supply.getD .v3)))) := by
  set v := s.setReader d r with hv
  have condition := v.powerCondition_iff d
  have reader : v.reader d = r := s.setReader_reader_same d r
  have session : v.session d = s.session d := rfl
  rw [reader, session] at condition
  have slot : u.slot d .reader = (v.powerTest d).slot d .reader := by rw [← hu]; exact State.pushSlotAfter_slot _ d _ _ (by decide)
  constructor
  · intro unmet
    have no : ¬v.powerCondition d = true := by
      rw [condition]
      rintro ⟨a, b, e, f⟩
      rcases unmet with h | h | h | h
      · exact h a
      · rw [b] at h; cases h
      · exact h e
      · exact h f
    rw [slot, ← hu, State.pushSlotAfter_reader, v.powerTest_unmet d no]
    exact ⟨reader, rfl⟩
  · intro a b e f
    obtain ⟨up, waits⟩ := v.powerTest_met d (condition.2 ⟨a, b, e, f⟩)
    rw [reader] at up waits
    rw [← hu, State.pushSlotAfter_reader]
    exact ⟨up, (State.pushSlotAfter_slot _ d _ _ (by decide)).trans waits⟩

/-- Classification turns on the two sense contacts, and on the supply for a 5 V card (R86). -/
theorem ReaderSlot.classify_facts (r : ReaderSlot) (p : ReaderSupply) :
    (r.classify p).spent = r.spent ∧ (r.classify p).outstanding = r.outstanding ∧
    (r.classify p).cardClass = (match r.contacts.sense1, r.contacts.sense2 with
      | true, false => some .v3
      | false, true => some .v5
      | true, true => some .dual
      | false, false => some .notACard) ∧
    ((r.classify p).state = .classified ∧ (r.classify p).supply.isSome = true ∨ (r.classify p).state = .unsupported) ∧
    ((r.classify p).state = .unsupported ↔ r.contacts.sense1 = false ∧ (r.contacts.sense2 = true → p = .only3V)) := by
  unfold ReaderSlot.classify
  cases r.contacts.sense1 <;> cases r.contacts.sense2 <;> cases p <;> simp

end

end Sys2Proof.Machine
end

section
/-! The six reader timers (R84, R86 to R88, R90). -/

namespace Sys2Proof.Machine

section
variable {s : State} {d : Drop}

/-- What the end of settling leaves (R86, R87). -/
theorem State.settleEnd_settled (settling : (s.reader d).state = .settling) (runs : (s.reader d).timing .settle = true) {u : State}
    (hu : State.settleEnd d s = u) :
    (((s.reader d).spent = true ∨ (s.session d).state ≠ .cardWait) →
      u.reader d = (s.reader d).classify (s.dropRec d).supply) ∧
    ((s.reader d).spent = false → (s.session d).state = .cardWait → (s.reader d).outstanding = .none →
      ((s.reader d).classify (s.dropRec d).supply).state = .classified →
      u.reader d = ((s.reader d).classify (s.dropRec d).supply).toPowerUp ∧
        ∃ v, u.waits d .reader (.reader (.on v)) ∧ (u.reader d).supply = some v) ∧
    ((u.reader d).cardClass = match (s.reader d).contacts.sense1, (s.reader d).contacts.sense2 with
      | true, false => some .v3
      | false, true => some .v5
      | true, true => some .dual
      | false, false => some .notACard) ∧
    ((u.reader d).state = .unsupported ↔ (s.reader d).contacts.sense1 = false ∧
      ((s.reader d).contacts.sense2 = true → (s.dropRec d).supply = .only3V)) := by
  rw [State.settleEnd_eq settling runs] at hu
  obtain ⟨spent, outstanding, cardClass, supplied, unsupported⟩ := (s.reader d).classify_facts (s.dropRec d).supply
  obtain ⟨stays, powers⟩ := State.moved_powerTest _ _ hu
  generalize (s.reader d).classify (s.dropRec d).supply = r at *
  have either : u.reader d = r ∨ (r.state = .classified ∧ u.reader d = r.toPowerUp) := by
    by_cases met : r.state = .classified ∧ r.spent = false ∧ r.outstanding = .none ∧ (s.session d).state = .cardWait
    · obtain ⟨a, b, e, f⟩ := met
      exact .inr ⟨a, (powers a b e f).1⟩
    · refine .inl (stays ?_).1
      simpa only [not_and_or, Bool.not_eq_false] using met
  refine ⟨fun h => (stays (.inr (h.imp (spent ▸ ·) .inr))).1, fun h session out classified => ?_, ?_, ?_⟩
  · obtain ⟨up, waits⟩ := powers classified (spent ▸ h) (outstanding ▸ out) session
    obtain ⟨-, some⟩ | unsup := supplied
    · obtain ⟨v, hv⟩ := Option.isSome_iff_exists.1 some
      rw [hv] at waits
      exact ⟨up, v, waits, by rw [up]; exact hv⟩
    · rw [classified] at unsup; cases unsup
  · have same : (u.reader d).cardClass = r.cardClass := by
      rcases either with e | ⟨-, e⟩ <;> rw [e]
      rfl
    exact same.trans cardClass
  · rw [← unsupported]
    rcases either with e | ⟨a, e⟩
    · rw [e]
    · rw [e, a]
      exact iff_of_false nofun nofun

/-- What the end of the power-down delay leaves (R90). -/
theorem State.powerDownDelayEnd_moved (down : (s.reader d).state = .poweringDown) (runs : (s.reader d).timing .delay = true)
    {u : State} (hu : State.powerDownDelayEnd d s = u) :
    let r := { s.reader d with state := .classified, timer := none }
    u.waits d .pushSlot (.slotPush (slotPushOf (u.reader d) .change)) ∧
    (bothMade (s.reader d).contacts = true →
      (s.reader d).spent = true ∨ (s.reader d).outstanding ≠ .none ∨ (s.session d).state ≠ .cardWait →
      u.reader d = r ∧ u.slot d .reader = s.slot d .reader) ∧
    (bothMade (s.reader d).contacts = true → (s.reader d).spent = false → (s.reader d).outstanding = .none →
      (s.session d).state = .cardWait →
      u.reader d = r.toPowerUp ∧ ∀ v, (s.reader d).supply = some v → u.waits d .reader (.reader (.on v))) ∧
    (noneMade (s.reader d).contacts = true → (u.reader d).state = .empty ∧ (u.reader d).timer = none ∧
      (u.reader d).spent = false ∧ (u.reader d).dataLost = (s.reader d).dataLost) ∧
    (bothMade (s.reader d).contacts = false → noneMade (s.reader d).contacts = false →
      (u.reader d).state = .partialIn ∧ (u.reader d).timer = some { purpose := .partialIn, ms := 2000 }) := by
  rw [State.powerDownDelayEnd_eq down runs] at hu
  obtain ⟨stays, powers⟩ := State.moved_powerTest _ _ hu
  have both : bothMade (s.reader d).contacts = true →
      (s.reader d).afterPowerDown = { s.reader d with state := .classified, timer := none } := fun h => if_pos h
  have empty : noneMade (s.reader d).contacts = true → (s.reader d).afterPowerDown = (s.reader d).toEmpty := fun h => by
    have no : bothMade (s.reader d).contacts = false := by simp [noneMade, bothMade] at h ⊢; simp [h]
    simp [ReaderSlot.afterPowerDown, ReaderSlot.pulled, h, no]
  have halfway : bothMade (s.reader d).contacts = false → noneMade (s.reader d).contacts = false →
      (s.reader d).afterPowerDown = (s.reader d).toPartial := fun h k => by
    simp [ReaderSlot.afterPowerDown, ReaderSlot.pulled, h, k]
  have moved : (s.reader d).afterPowerDown.state ≠ .poweringDown := by
    unfold ReaderSlot.afterPowerDown ReaderSlot.pulled
    split
    · nofun
    · split <;> nofun
  refine ⟨?_, fun h k => ?_, fun h spent out session => ?_, fun h => ?_, fun h k => ?_⟩
  · rw [← hu, State.pushSlotAfter_reader]
    refine State.pushSlotAfter_waits _ d ?_
    set v := s.setReader d (s.reader d).afterPowerDown
    have reader : v.reader d = (s.reader d).afterPowerDown := s.setReader_reader_same d _
    by_cases met : v.powerCondition d = true
    · rw [(v.powerTest_met d met).1]; nofun
    · rw [v.powerTest_unmet d met, reader]; exact moved
  · rw [both h] at stays
    exact stays (.inr k)
  · rw [both h] at powers
    obtain ⟨up, waits⟩ := powers rfl spent out session
    refine ⟨up, fun v hv => ?_⟩
    rw [show ({ s.reader d with state := .classified, timer := none } : ReaderSlot).supply = some v from hv] at waits
    exact waits
  · rw [empty h] at stays
    rw [(stays (.inl nofun)).1]
    exact ⟨rfl, rfl, rfl, rfl⟩
  · rw [halfway h k] at stays
    rw [(stays (.inl nofun)).1]
    exact ⟨rfl, rfl⟩

/-- A timer command that finds its slot in another state or without its timer changes nothing. -/
theorem ite_idle {p : Prop} {b : Bool} {_ : Decidable (p ∧ b = true)} {t u : State} (h : ¬p ∨ b = false) :
    (if p ∧ b = true then t else u) = u := if_neg fun ⟨a, c⟩ => h.elim (· a) fun e => by rw [e] at c; cases c

end

/-- Settles O44: each timer by the rule of its command. -/
theorem readerTimersMoveTheSlot : Obligations.ReaderTimersMoveTheSlot := by
  unfold Obligations.ReaderTimersMoveTheSlot
  intro d s
  refine ⟨fun st ti => congrArg Host.Outcome.next (if_pos ⟨st, ti⟩), fun st ti => ?_, fun st ti => ?_,
    fun st ti => ⟨fun wait => ?_, fun wait => ?_⟩,
    fun st ti => congrArg Host.Outcome.next (if_pos ⟨st, ti⟩), fun st ti => ?_, ?_⟩
  · have only := State.settleEnd_readerOnly (s := s) (d := d)
    exact ⟨_, rfl, only.orders, only.hlc, only.session, only.frame, State.settleEnd_settled st ti rfl⟩
  · set t := s.setReader d { s.reader d with outstanding := .none } with ht
    have only := (s.setReader_readerOnly d { s.reader d with outstanding := .none }).trans (t.powerOffPush_readerOnly d)
    refine ⟨t.powerOffPush d, congrArg Host.Outcome.next (if_pos ⟨st, ti⟩), ?_, t.powerOffPush_waits d, only.session, only.orders,
      only.hlc, only.frame⟩
    rw [t.powerOffPush_reader d, ht, State.setReader_reader_same]
    rfl
  · exact congrArg Host.Outcome.next ((if_pos ⟨st, ti⟩).trans (if_pos wait))
  · have only := s.powerOffPush_readerOnly d
    exact ⟨s.powerOffPush d, congrArg Host.Outcome.next ((if_pos ⟨st, ti⟩).trans (if_neg wait)), s.powerOffPush_reader d,
      s.powerOffPush_waits d, only.session, only.orders, only.frame⟩
  · have only := State.powerDownDelayEnd_readerOnly (s := s) (d := d)
    exact ⟨_, rfl, only.orders, only.hlc, only.session, only.frame, State.powerDownDelayEnd_moved st ti rfl⟩
  · exact ⟨fun h => congrArg Host.Outcome.next (ite_idle h),
      fun h => congrArg Host.Outcome.next (ite_idle h),
      fun h => congrArg Host.Outcome.next (ite_idle h),
      fun h => congrArg Host.Outcome.next (ite_idle h),
      fun h => congrArg Host.Outcome.next (ite_idle h),
      fun h => congrArg Host.Outcome.next (ite_idle h)⟩

end Sys2Proof.Machine
end

section
/-! Reports of the contacts (R84, R85, R88 to R90). -/

namespace Sys2Proof.Machine

/-! ## Reports of the contacts (R84, R85, R88 to R90) -/

section
variable {s : State} {d : Drop} {c : Contacts}

theorem ReaderSlot.contactsMove_contacts (r : ReaderSlot) (c : Contacts) : (r.contactsMove c).contacts = c := by
  unfold ReaderSlot.contactsMove ReaderSlot.pulled
  dsimp only
  split <;> (repeat' split) <;> rfl

theorem ReaderSlot.contactsMove_of_powered {r : ReaderSlot} (h : r.state.powered = true) :
    r.contactsMove c = { r with contacts := c } := by
  unfold ReaderSlot.contactsMove
  cases e : r.state <;> rw [e] at h <;> first | rfl | cases h

theorem bothMade_noneMade (h : noneMade c = true) : bothMade c = false := by
  obtain ⟨a, b, _, _⟩ := c
  cases a <;> cases b <;> first | rfl | cases h

theorem State.contacts_unpowered (off : (s.reader d).state.powered = false) : State.contacts d c s =
    (s.setReader d ((s.reader d).contactsMove c)).pushSlotAfter d (s.reader d).state none := by
  unfold State.contacts
  dsimp only
  split <;> rename_i e <;> first | rfl | (rw [e] at off; cases off)

theorem State.contacts_recorded (on : (s.reader d).state.powered = true)
    (calm : bothMade c = true ∨ (s.reader d).state = .poweringDown) :
    State.contacts d c s = s.setReader d { s.reader d with contacts := c } := by
  rw [← ReaderSlot.contactsMove_of_powered on]
  unfold State.contacts
  dsimp only
  split <;> rename_i e
  · exact if_pos (calm.resolve_right (by rw [e]; nofun))
  · exact if_pos (calm.resolve_right (by rw [e]; nofun))
  · rfl
  all_goals rw [e] at on; cases on

theorem State.contacts_noted (up : (s.reader d).state = .poweringUp) (waits : (s.reader d).timing .delay = false)
    (pulled : bothMade c = false) :
    State.contacts d c s = s.setReader d { s.reader d with contacts := c, removalPending := true } := by
  have on : (s.reader d).state.powered = true := by rw [up]; rfl
  unfold State.contacts
  simp only [up, pulled, waits, ReaderSlot.contactsMove_of_powered on, Bool.false_eq_true, if_false, State.setReader_reader_same,
    State.setReader_setReader]

theorem State.contacts_removed (up : (s.reader d).state = .ready ∨ (s.reader d).state = .poweringUp ∧ (s.reader d).timing .delay = true)
    (pulled : bothMade c = false) :
    State.contacts d c s = (s.setReader d { s.reader d with contacts := c }).cardRemoved d := by
  have on : (s.reader d).state.powered = true := by rcases up with h | ⟨h, -⟩ <;> rw [h] <;> rfl
  rw [← ReaderSlot.contactsMove_of_powered on]
  unfold State.contacts
  rcases up with h | ⟨h, delay⟩
  · simp only [h, pulled, Bool.false_eq_true, if_false]
  · simp only [h, pulled, delay, Bool.false_eq_true, if_false, if_true]

/-- A report of the contacts records them and moves the slot in one of four ways. -/
theorem State.contacts_cases (s : State) (d : Drop) (c : Contacts) :
    State.contacts d c s = (s.setReader d ((s.reader d).contactsMove c)).pushSlotAfter d (s.reader d).state none ∨
    State.contacts d c s = s.setReader d { s.reader d with contacts := c } ∨
    State.contacts d c s = s.setReader d { s.reader d with contacts := c, removalPending := true } ∨
    State.contacts d c s = (s.setReader d { s.reader d with contacts := c }).cardRemoved d := by
  cases on : (s.reader d).state.powered with
  | false => exact .inl (State.contacts_unpowered on)
  | true =>
    by_cases calm : bothMade c = true ∨ (s.reader d).state = .poweringDown
    · exact .inr (.inl (State.contacts_recorded on calm))
    · obtain ⟨pulled, down⟩ := not_or.1 calm
      have pulled := Bool.not_eq_true _ ▸ pulled
      by_cases removed : (s.reader d).state = .ready ∨ (s.reader d).state = .poweringUp ∧ (s.reader d).timing .delay = true
      · exact .inr (.inr (.inr (State.contacts_removed removed pulled)))
      · obtain ⟨ready, delay⟩ := not_or.1 removed
        have up : (s.reader d).state = .poweringUp := by
          cases e : (s.reader d).state <;> rw [e] at on down ready <;> first | rfl | contradiction
        exact .inr (.inr (.inl (State.contacts_noted up (by simpa [up] using delay) pulled)))

theorem State.contacts_readerOnly (c : Contacts) : readerOnly d s (State.contacts d c s) := by
  have set := fun r => s.setReader_readerOnly d r
  rcases s.contacts_cases d c with e | e | e | e <;> rw [e]
  · exact (set _).trans (State.pushSlotAfter_readerOnly _ d _ _)
  · exact set _
  · exact set _
  · exact (set _).trans (State.cardRemoved_readerOnly _ d)

theorem State.cardRemoved_facts (s : State) (d : Drop) :
    (s.cardRemoved d).reader d = { s.reader d with dataLost := true }.toPowerDown ∧
    (s.cardRemoved d).waits d .reader (.reader .off) ∧
    (s.cardRemoved d).waits d .pushSlot (.slotPush (slotPushOf ((s.cardRemoved d).reader d) .cardRemoved)) := by
  unfold State.cardRemoved
  refine ⟨by simp, ?_, State.place_slot_same _ d _ _⟩
  exact (State.pushSlot_slot _ d _ _).trans ((State.powerOff_slot _ d _).trans (if_pos rfl))

theorem State.contacts_contacts (c : Contacts) : ((State.contacts d c s).reader d).contacts = c := by
  rcases s.contacts_cases d c with e | e | e | e <;> rw [e]
  · simp [ReaderSlot.contactsMove_contacts]
  · simp
  · simp
  · simp [(State.cardRemoved_facts _ d).1, ReaderSlot.toPowerDown]

/-- Where the contacts move a slot without card power (R84, R85). -/
theorem ReaderSlot.contactsMove_moves (r : ReaderSlot) (c : Contacts) :
    let recorded := { r with contacts := c }
    (r.state = .empty →
      (bothMade c = true → r.contactsMove c = recorded.toSettling) ∧ (noneMade c = true → r.contactsMove c = recorded) ∧
      (bothMade c = false → noneMade c = false → r.contactsMove c = recorded.toPartial)) ∧
    (r.state = .partialIn →
      (bothMade c = true → r.contactsMove c = recorded.toSettling) ∧ (noneMade c = true → r.contactsMove c = recorded.toEmpty) ∧
      (bothMade c = false → noneMade c = false → r.contactsMove c = recorded)) ∧
    (r.state = .settling →
      (bothMade c = true → (c ≠ r.contacts → r.contactsMove c = recorded.toSettling) ∧ (c = r.contacts → r.contactsMove c = r)) ∧
      (noneMade c = true → r.contactsMove c = recorded.toEmpty) ∧
      (bothMade c = false → noneMade c = false → r.contactsMove c = recorded.toPartial)) ∧
    (r.state = .classified →
      (bothMade c = true →
        (c.sense1 = r.contacts.sense1 ∧ c.sense2 = r.contacts.sense2 → r.contactsMove c = recorded) ∧
        (c.sense1 ≠ r.contacts.sense1 ∨ c.sense2 ≠ r.contacts.sense2 → r.contactsMove c = recorded.toSettling)) ∧
      (noneMade c = true → r.contactsMove c = recorded.toEmpty) ∧
      (bothMade c = false → noneMade c = false → r.contactsMove c = recorded.toPartial)) ∧
    (r.state = .unsupported ∨ r.state = .fault →
      (noneMade c = true → r.contactsMove c = recorded.toEmpty) ∧ (noneMade c = false → r.contactsMove c = recorded)) := by
  have none : noneMade c = true → bothMade c = false := bothMade_noneMade
  unfold ReaderSlot.contactsMove
  refine ⟨fun e => ?_, fun e => ?_, fun e => ?_, fun e => ?_, fun e => ?_⟩
  · exact ⟨fun a => by simp [e, a], fun a => by simp [e, a, none a], fun a b => by simp [e, a, b]⟩
  · exact ⟨fun a => by simp [e, a], fun a => by simp [e, a, none a], fun a b => by simp [e, a, b]⟩
  · exact ⟨fun a => ⟨fun b => by simp [e, a, b], fun b => by subst b; simp [e, a]; rw [← e]⟩, fun a => by simp [e, a, none a, ReaderSlot.pulled],
      fun a b => by simp [e, a, b, ReaderSlot.pulled]⟩
  · exact ⟨fun a => ⟨fun b => by simp [e, a, b], fun b => by simp [e, a, not_and_or.2 b]⟩, fun a => by simp [e, a, none a, ReaderSlot.pulled],
      fun a b => by simp [e, a, b, ReaderSlot.pulled]⟩
  · rcases e with e | e <;> exact ⟨fun a => by simp [e, a], fun a => by simp [e, a]⟩

end
/-- Settles O43: the contacts move an unpowered slot by its state, and a powered one in three ways. -/
theorem contactsMoveTheSlot : Obligations.ContactsMoveTheSlot := by
  unfold Obligations.ContactsMoveTheSlot
  intro d c s kiosk r recorded settling halfIn empty
  set v := s.accept (.contacts d (some c)) with hv
  set u := State.contacts d c v with hu
  have only : readerOnly d v u := State.contacts_readerOnly c
  have unpowered : r.state.powered = false → u = (v.setReader d (r.contactsMove c)).pushSlotAfter d r.state none :=
    fun off => State.contacts_unpowered (s := v) off
  have moved : r.state.powered = false → u.reader d = r.contactsMove c := fun off => by
    rw [unpowered off, State.pushSlotAfter_reader, State.setReader_reader_same]
  have quiet : ∀ x, u = v.setReader d x → u.slot d .reader = s.slot d .reader ∧ u.slot d .pushSlot = s.slot d .pushSlot :=
    fun x e => by rw [e]; exact ⟨rfl, rfl⟩
  have kept : r.state.powered = true → bothMade c = true ∨ r.state = .poweringDown → u = v.setReader d recorded :=
    fun on calm => State.contacts_recorded (s := v) on calm
  have noted : r.state = .poweringUp → r.timing .delay = false → bothMade c = false →
      u = v.setReader d { recorded with removalPending := true } := fun up wait pulled => State.contacts_noted (s := v) up wait pulled
  obtain ⟨ofEmpty, ofPartial, ofSettling, ofClassified, ofFault⟩ := r.contactsMove_moves c
  refine ⟨u, congrArg Host.Outcome.next (State.readerReport_kiosk kiosk), State.contacts_contacts c, only.session, only.orders, only.hlc,
    (s.accept_frame d _).trans only.frame, only.slots, fun e => ?_, fun e => ?_, fun e => ?_, fun e => ?_, fun e => ?_,
      fun off => ⟨?_, fun changed => ?_, fun same => ?_⟩,
    fun on both => ?_, fun down => ?_, fun up wait pulled => ?_, fun on calm => ?_, fun up pulled => ?_⟩
  · rw [moved (by rw [e]; rfl)]; exact ofEmpty e
  · rw [moved (by rw [e]; rfl)]; exact ofPartial e
  · rw [moved (by rw [e]; rfl)]; exact ofSettling e
  · rw [moved (by rw [e]; rfl)]; exact ofClassified e
  · rw [moved (by rcases e with e | e <;> rw [e] <;> rfl)]; exact ofFault e
  · rw [unpowered off]; exact State.pushSlotAfter_slot _ d _ _ (by decide)
  · rw [moved off] at changed ⊢
    rw [unpowered off]
    have waits := State.pushSlotAfter_waits (v.setReader d (r.contactsMove c)) d (before := r.state)
    rw [State.setReader_reader_same] at waits
    exact waits changed
  · rw [moved off] at same
    rw [unpowered off, State.pushSlotAfter_same _ d (by rw [State.setReader_reader_same]; exact same)]
    rfl
  · rw [kept on (.inl both), State.setReader_reader_same]
  · rw [kept (by rw [down]; rfl) (.inr down), State.setReader_reader_same]
  · rw [noted up wait pulled, State.setReader_reader_same]
  · by_cases both : bothMade c = true
    · exact quiet _ (kept on (.inl both))
    · rcases calm with h | down | ⟨up, wait⟩
      · exact absurd h both
      · exact quiet _ (kept on (.inr down))
      · exact quiet _ (noted up wait (Bool.not_eq_true _ ▸ both))
  · have removed : u = (v.setReader d recorded).cardRemoved d := State.contacts_removed (s := v) up pulled
    have facts := State.cardRemoved_facts (v.setReader d recorded) d
    rw [← removed, State.setReader_reader_same] at facts
    exact facts

end Sys2Proof.Machine
end

section
/-! Reports of the reader, and a session that ends (R88 to R91, R98 to R100). -/

namespace Sys2Proof.Machine

/-! ## Reports of the reader (R88 to R91, R100) -/

section
variable {s : State} {d : Drop}

theorem State.pushTender_waits (s : State) (d : Drop) : (s.pushTender d).waits d .pushTender (.tenderPush (tenderPushOf (s.session d))) :=
  s.place_slot_same d _ _

theorem State.pushTender_slot (s : State) (d : Drop) {i : SlotId} (h : i ≠ .pushTender) : (s.pushTender d).slot d i = s.slot d i :=
  (s.place_slot d _ i _).trans (if_neg h)

theorem State.takeToken_facts (s : State) (d : Drop) (t : Token) :
    (s.takeToken d t).session d = { s.session d with state := .cardRead, token := some t, cardWait := none } ∧
    (s.takeToken d t).waits d .pushTender (.tenderPush (tenderPushOf ((s.takeToken d t).session d))) ∧
    (s.takeToken d t).reader d = s.reader d ∧ (s.takeToken d t).orders = s.orders ∧ (s.takeToken d t).hlc = s.hlc ∧
    sessionFrame d s (s.takeToken d t) :=
  ⟨s.setSession_session_same d _, State.pushTender_waits _ d, rfl, rfl, rfl,
    (s.setSession_frame d _).trans (State.place_frame _ d _ _)⟩

/-- The session under a READY card is given the token, if it waits for one (R100). -/
theorem State.token_facts (ready : (s.reader d).state = .ready) (t : Token) {u : State} (hu : State.token d t s = u) :
    u.reader d = (s.reader d).toPowerDown ∧ u.waits d .reader (.reader .off) ∧
    u.waits d .pushSlot (.slotPush (slotPushOf (u.reader d) .change)) ∧
    ((s.session d).state = .cardWait →
      u.session d = { s.session d with state := .cardRead, token := some t, cardWait := none } ∧
      u.waits d .pushTender (.tenderPush (tenderPushOf (u.session d)))) ∧
    ((s.session d).state ≠ .cardWait → u.session d = s.session d) ∧
    u.orders = s.orders ∧ u.hlc = s.hlc ∧ sessionFrame d s u := by
  obtain ⟨session, waits, reader, orders, hlc, frame⟩ := s.takeToken_facts d t
  set v := if (s.session d).state = .cardWait then s.takeToken d t else s with hv
  have made : v.powerOffPush d = u := (if_pos ready : State.token d t s = v.powerOffPush d) ▸ hu
  have same : v.reader d = s.reader d ∧ v.orders = s.orders ∧ v.hlc = s.hlc ∧ sessionFrame d s v := by
    rw [hv]
    split
    · exact ⟨reader, orders, hlc, frame⟩
    · exact ⟨rfl, rfl, rfl, .refl d s⟩
  obtain ⟨vreader, vorders, vhlc, vframe⟩ := same
  have only := v.powerOffPush_readerOnly d
  have off := v.powerOffPush_reader d
  have offWaits := v.powerOffPush_waits d
  have pushed := v.powerOffPush_pushed d (by rw [vreader, ready]; nofun)
  rw [made] at only off offWaits pushed
  refine ⟨by rw [off, vreader], offWaits, pushed, fun wait => ?_, fun wait => ?_, only.orders.trans vorders, only.hlc.trans vhlc,
    vframe.trans only.frame⟩
  · have e : v = s.takeToken d t := if_pos wait
    rw [only.session, e]
    exact ⟨session, (only.slots _ (by decide) (by decide)).trans (e ▸ waits)⟩
  · have e : v = s := if_neg wait
    rw [only.session, e]

theorem State.readFailed_facts (ready : (s.reader d).state = .ready) {u : State} (hu : State.readFailed d () s = u) :
    u.reader d = (s.reader d).toPowerDown ∧ u.waits d .reader (.reader .off) ∧
    u.waits d .pushSlot (.slotPush (slotPushOf (u.reader d) .readFailed)) ∧ readerOnly d s u := by
  have made : (s.powerOff d).pushSlot d .readFailed = u := (if_pos ready).symm.trans hu
  rw [← made]
  refine ⟨s.powerOff_reader d, ?_, State.place_slot_same _ d _ _, (s.powerOff_readerOnly d).trans (State.pushSlot_readerOnly _ d _)⟩
  exact (State.pushSlot_slot _ d _ _).trans ((s.powerOff_slot d _).trans (if_pos rfl))

theorem State.powerDoneOn_unwanted (h : (s.reader d).removalPending = true ∨ (s.session d).state ≠ .cardWait) {u : State}
    (hu : s.powerDoneOn d = u) :
    u.reader d = (s.reader d).toPowerDown ∧ u.waits d .reader (.reader .off) ∧ readerOnly d s u := by
  have made : (s.setReader d { s.reader d with outstanding := .none }).powerOffPush d = u := (if_pos h).symm.trans hu
  rw [← made]
  refine ⟨?_, State.powerOffPush_waits _ d, (s.setReader_readerOnly d _).trans (State.powerOffPush_readerOnly _ d)⟩
  rw [State.powerOffPush_reader, State.setReader_reader_same]
  rfl

theorem State.powerDone_on (up : (s.reader d).state = .poweringUp) (out : (s.reader d).outstanding = .on) :
    State.powerDone d true s = s.powerDoneOn d := by
  unfold State.powerDone
  rw [up, out]

theorem State.powerDone_off (down : (s.reader d).state = .poweringDown) (out : (s.reader d).outstanding = .off) :
    State.powerDone d false s =
      s.setReader d { s.reader d with outstanding := .none, timer := some { purpose := .delay, ms := 40 } } := by
  unfold State.powerDone
  rw [down, out]

end

/-- Settles O42: each report by the rule of its command, from a kiosk drop. -/
theorem readerReportsMoveTheCard : Obligations.ReaderReportsMoveTheCard := by
  unfold Obligations.ReaderReportsMoveTheCard
  intro d t s
  have taken : ∀ c, sessionFrame d s (s.accept c) := s.accept_frame d
  refine ⟨fun kiosk => ?_, fun other => ?_⟩
  · have acts : ∀ {α : Type} (c : Instr) (x : α) (act : α → State → State),
        (s.accept c).readerReport d (some x) act = act x (s.accept c) := fun c x act => State.readerReport_kiosk kiosk
    refine ⟨fun ready => ?_, fun no => ⟨?_, ?_⟩, fun ready => ?_, fun up out => ⟨fun calm wait => ?_, fun unwanted => ?_⟩,
      fun down out => ?_⟩
    · obtain ⟨reader, off, push, gets, keeps, orders, hlc, frame⟩ :=
        State.token_facts (s := s.accept (.token d (some t))) (d := d) ready t rfl
      exact ⟨_, congrArg Host.Outcome.next (acts _ t (State.token d)), reader, off, push, gets, keeps, orders, hlc, (taken _).trans frame⟩
    · exact congrArg Host.Outcome.next ((acts _ t (State.token d)).trans (if_neg no))
    · exact congrArg Host.Outcome.next ((acts _ () (State.readFailed d)).trans (if_neg no))
    · obtain ⟨reader, off, push, only⟩ := State.readFailed_facts (s := s.accept (.readFailed d (some ()))) (d := d) ready rfl
      exact ⟨_, congrArg Host.Outcome.next (acts _ () (State.readFailed d)), reader, off, push, only.session, only.orders, only.hlc,
        (taken _).trans only.frame⟩
    · refine congrArg Host.Outcome.next ((acts _ true (State.powerDone d)).trans
        ((State.powerDone_on (s := s.accept (.powerDone d (some true))) up out).trans (if_neg ?_)))
      rintro (h | h)
      · exact absurd (calm.symm.trans h) nofun
      · exact h wait
    · obtain ⟨reader, off, only⟩ := State.powerDoneOn_unwanted (s := s.accept (.powerDone d (some true))) (d := d) unwanted rfl
      exact ⟨_, congrArg Host.Outcome.next ((acts _ true (State.powerDone d)).trans
          (State.powerDone_on (s := s.accept (.powerDone d (some true))) up out)), reader, off,
        only.session, only.hlc, (taken _).trans only.frame⟩
    · exact congrArg Host.Outcome.next ((acts _ false (State.powerDone d)).trans (State.powerDone_off (s :=
        s.accept (.powerDone d (some false))) down out))
  · have idle : ∀ {α : Type} (c : Instr) (x : Body α) (act : α → State → State),
        (s.accept c).readerReport d x act = s.accept c := fun c x act => State.readerReport_other other
    exact ⟨congrArg Host.Outcome.next (idle _ (some t) (State.token d)), congrArg Host.Outcome.next (idle _ (some ()) (State.readFailed d)),
      fun on => congrArg Host.Outcome.next (idle _ (some on) (State.powerDone d)),
      fun c => congrArg Host.Outcome.next (idle _ (some c) (State.contacts d))⟩

/-! ## A session that ends (R98) -/

section
variable {s t : State} {d : Drop} {c : Instr}

/-- What the end of a session leaves of its drop (R98, R99). -/
theorem State.endSession_facts (t : State) (d : Drop) (o : TenderOutcome) (returns order : List Instr) {u : State}
    (hu : t.endSession d o returns order = u) :
    u.session d = (t.session d).ended ∧ u.orders = t.orders ++ (returns ++ order) ∧
    u.waits d .pushTender (.tenderPush (endedPush (t.session d) o)) ∧
    ((t.reader d).state = .ready → u.reader d = (t.reader d).toPowerDown ∧ u.waits d .reader (.reader .off)) ∧
    ((t.reader d).state ≠ .ready → u.reader d = t.reader d ∧ u.slot d .reader = t.slot d .reader ∧
      u.slot d .pushSlot = t.slot d .pushSlot) ∧
    u.hlc = { t.hlc with conditions := t.hlc.conditions.put (.auth d) false } ∧
    (∀ i, i ≠ .pushTender → i ≠ .reader → i ≠ .pushSlot → u.slot d i = t.slot d i) := by
  set v := (t.send returns).unraise (.auth d) with hv
  have only := v.leaveCardWait_readerOnly d
  set w := v.leaveCardWait d with hw
  have made : (w.send order).idleSession d o = u := hu
  have slot : ∀ i, i ≠ .pushTender → u.slot d i = w.slot d i := fun i h => by
    rw [← made]; exact (State.place_slot _ d _ i _).trans (if_neg h)
  have reader : u.reader d = w.reader d := by rw [← made]; rfl
  have session : w.session d = t.session d := only.session
  refine ⟨?_, ?_, ?_, fun ready => ?_, fun other => ?_, ?_, fun i a b e => (slot i a).trans (only.slots i e b)⟩
  · rw [← made, ← session]; exact State.setSession_session_same _ d _
  · rw [← made, ← List.append_assoc]
    exact congrArg (· ++ order) only.orders
  · rw [← made, ← session]; exact State.place_slot_same _ d _ _
  · have e : w = v.powerOffPush d := v.leaveCardWait_ready d ready
    rw [reader, State.waits, slot _ (by decide), e]
    exact ⟨v.powerOffPush_reader d, v.powerOffPush_waits d⟩
  · have e : w = v := v.leaveCardWait_other d other
    rw [reader, slot _ (by decide), slot _ (by decide), e]
    exact ⟨rfl, rfl, rfl⟩
  · rw [← made]; exact only.hlc

/-- A session ended after its command was taken, and perhaps a reply placed, is over (R98, R99). -/
theorem State.endSession_sessionOver {o : TenderOutcome} {returns order : List Instr} {x : Session}
    (orders : t.orders = s.orders.erase c) (start : (t.session d).start = (s.session d).start) (ended : (t.session d).ended = x)
    (reader : t.reader d = s.reader d) (slots : ∀ i, i ≠ .reply → t.slot d i = s.slot d i) (hlc : t.hlc = s.hlc)
    (frame : sessionFrame d s t) :
    sessionOver d c x o (returns ++ order) s (t.endSession d o returns order) := by
  obtain ⟨session, sent, push, ready, other, hlc', -⟩ := t.endSession_facts d o returns order rfl
  have same : endedPush (t.session d) o = endedPush (s.session d) o := by simp only [endedPush, start]
  rw [reader] at ready other
  refine ⟨session.trans ended, orders ▸ sent, same ▸ push, ready, fun h => ?_, hlc ▸ hlc', frame.trans (t.endSession_frame d _ _ _)⟩
  obtain ⟨a, b, e⟩ := other h
  exact ⟨a, b.trans (slots _ (by decide)), e.trans (slots _ (by decide))⟩

end

end Sys2Proof.Machine
end

section
/-! How a session ends without a sale (R96, R98, R102, R103, R108, R110). -/

namespace Sys2Proof.Machine

section
variable {s : State} {d : Drop} {o : TenderOutcome} {returns order : List Instr}

theorem State.replyDrop_frame (s : State) (d : Drop) (r : DropReply) : sessionFrame d s (s.replyDrop d r) := s.place_frame d _ _

theorem State.replyDrop_slot (s : State) (d : Drop) (r : DropReply) {i : SlotId} (h : i ≠ .reply) :
    (s.replyDrop d r).slot d i = s.slot d i := (s.place_slot d _ i _).trans (if_neg h)

/-- A session ended at the taking of a command is over. -/
theorem State.accept_sessionOver (s : State) (d : Drop) (c : Instr) (o : TenderOutcome) (returns order : List Instr) :
    sessionOver d c (s.session d).ended o (returns ++ order) s ((s.accept c).endSession d o returns order) :=
  State.endSession_sessionOver rfl rfl rfl rfl (fun _ _ => rfl) rfl (s.accept_frame d c)

/-- A session ended after a reply is over, and the reply waits. -/
theorem State.replied_sessionOver (s : State) (d : Drop) (c : Instr) (r : DropReply) (o : TenderOutcome) (returns order : List Instr)
    {u : State} (hu : ((s.accept c).replyDrop d r).endSession d o returns order = u) :
    sessionOver d c (s.session d).ended o (returns ++ order) s u ∧ u.waits d .reply (.reply r) := by
  refine ⟨hu ▸ State.endSession_sessionOver rfl rfl rfl rfl (fun i h => State.replyDrop_slot _ d r h) rfl
    ((s.accept_frame d c).trans (State.replyDrop_frame _ d r)), ?_⟩
  obtain ⟨-, -, -, -, -, -, rest⟩ := State.endSession_facts ((s.accept c).replyDrop d r) d o returns order hu
  exact (rest .reply (by decide) (by decide) (by decide)).trans (State.place_slot_same _ d _ _)

/-- A session whose sale number is kept as timed out is over, its journal grant consumed by a timeout void order (R108, R110). -/
theorem State.endVoid_sessionOver (c : Instr) {sale : Nat} (grant : (s.session d).journalGrant = some sale) (o : TenderOutcome)
    (order : List Instr) :
    sessionOver d c { (s.session d).ended with lastTimedOut := sale } o
      ([.timeoutVoidOrder { sale := sale, drop := d, serial := (s.session d).serial, frozen := (s.session d).frozen
                            time := s.hlc.clock }] ++ (s.session d).otherReturns d ++ order) s
      ((s.accept c).endVoid d o order) := by
  have void : (s.accept c).voidOrder d = [.timeoutVoidOrder { sale := sale, drop := d, serial := (s.session d).serial
                                                              frozen := (s.session d).frozen, time := s.hlc.clock }] := by
    unfold State.voidOrder
    rw [State.accept_session, grant]
    rfl
  have kept : ((s.accept c).keepTimedOut d).session d = { s.session d with lastTimedOut := sale } := by
    unfold State.keepTimedOut
    rw [State.setSession_session_same, State.accept_session, grant]
    rfl
  rw [← void]
  refine State.endSession_sessionOver rfl ?_ ?_ rfl (fun _ _ => rfl) rfl ((s.accept_frame d c).trans (State.setSession_frame _ d _))
  · rw [kept]
  · rw [kept]; rfl

theorem State.afterAttempt_eq (s : State) (d : Drop) (o : TenderOutcome) : s.afterAttempt d o =
    [if (s.session d).attempt = some 3 then .expire d (s.session d).serial else .unfreeze d (s.session d).serial o] := by
  unfold State.afterAttempt State.unfreezeOrder
  split <;> rfl

theorem State.answerMatches_iff (s : State) (d : Drop) (ref : Nat) (p : Phase) : s.answerMatches d ref p = true ↔
    (s.session d).state = .reserving ∧ (s.session d).reference = ref ∧ (s.session d).phase = some p := by
  simp [State.answerMatches, and_assoc]

theorem State.not_answerMatches {ref : Nat} {p : Phase}
    (h : (s.session d).state ≠ .reserving ∨ (s.session d).reference ≠ ref ∨ (s.session d).phase ≠ some p) :
    ¬s.answerMatches d ref p = true := by
  rw [State.answerMatches_iff, not_and_or, not_and_or]
  exact h

/-- A CANCEL past its checks on the drop and the part state (R103). -/
theorem exec_cancel (n : Nat) (ready : s.kioskReady d) :
    exec (.cancel d (some n)) s = ((s.accept (.cancel d (some n))).cancel d n).done := by
  have kiosk : ¬(s.accept (.cancel d (some n))).isKiosk d = false := by
    simp [State.isKiosk, ready.1]
  exact congrArg State.done ((if_neg kiosk).trans (if_neg (not_not.2 ready.2)))

theorem State.cancel_idle {n : Nat} (idle : (s.session d).state = .idle) : s.cancel d n = s.cancelReply d .noTender .none := if_pos idle

theorem State.cancel_stale {n : Nat} (live : (s.session d).state ≠ .idle) (stale : (s.session d).serial ≠ n) :
    s.cancel d n = s.cancelReply d .staleBasket .none := (if_neg live).trans (if_pos stale)

theorem State.cancel_late {n : Nat} (serial : (s.session d).serial = n)
    (late : (s.session d).state = .authPending ∨ (s.session d).state = .committing) :
    s.cancel d n = s.cancelReply d .tooLate .none := by
  unfold State.cancel
  rcases late with e | e <;> simp [e, serial]

theorem State.cancel_open {n : Nat} (serial : (s.session d).serial = n)
    (waits : (s.session d).state = .cardWait ∨ (s.session d).state = .cardRead) :
    s.cancel d n = (s.cancelReply d .ok .none).cancelSession d := by
  unfold State.cancel
  rcases waits with e | e <;> simp [e, serial]

theorem State.release_none {n : Nat} (h : (s.session d).state = .idle ∨ (s.session d).serial ≠ n) : s.release d n = s :=
  if_neg fun ⟨a, b⟩ => h.elim a (· b)

theorem State.release_void (late : (s.session d).state = .authPending ∨ (s.session d).state = .committing) :
    s.release d (s.session d).serial = s.endVoid d .cancelled [] := by
  unfold State.release
  rcases late with e | e <;> simp [e]

theorem State.release_open
    (waits : (s.session d).state = .reserving ∨ (s.session d).state = .cardWait ∨ (s.session d).state = .cardRead) :
    s.release d (s.session d).serial = s.endSession d .cancelled (s.allReturns d) [] := by
  unfold State.release
  rcases waits with e | e | e <;> simp [e]

end

/-- Settles O40: each end is `endSession` after the command is taken, and perhaps a reply. -/
theorem sessionsEndWithoutASale : Obligations.SessionsEndWithoutASale := by
  unfold Obligations.SessionsEndWithoutASale
  intro d s
  refine ⟨fun ref p code st re ph => ?_, fun ref p code h => ?_, fun st zero => ?_, fun st => ?_, fun n ready serial waits => ?_,
    fun n ready idle => ?_, fun n ready live stale => ?_, fun n ready serial late => ?_, fun sale grant => ⟨fun st zero => ?_,
      fun late => ?_⟩,
    fun st => ?_, fun waits => ?_, fun n h => ?_⟩
  · obtain ⟨ended, reply⟩ := s.replied_sessionOver d (.reservationRefusal d ref p code)
      { code := code, serial := some (s.basket d).serial, basket := some (basketRecord (s.basket d) s.fau.generation), detail := .none }
      (.refused code) (s.allReturns d) (s.unfreezeOrder d (.refused code)) rfl
    exact ⟨_, congrArg State.done (if_pos ((State.answerMatches_iff _ d ref p).2 ⟨st, re, ph⟩)), ended, reply⟩
  · exact congrArg State.done (if_neg (State.not_answerMatches (s := s.accept _) h))
  · rw [← s.afterAttempt_eq d .cardTimeout]
    exact ⟨_, congrArg State.done (if_pos ⟨st, zero⟩), s.accept_sessionOver d (.cardWaitTimeout d) .cardTimeout _ _⟩
  · exact congrArg State.done (if_neg fun h => st h.1)
  · subst serial
    obtain ⟨ended, reply⟩ := s.replied_sessionOver d (.cancel d (some (s.session d).serial))
      { code := .ok, serial := (s.session d).start.map (·.serial), basket := none, detail := .none }
      .cancelled (s.allReturns d) (s.unfreezeOrder d .cancelled) rfl
    exact ⟨_, (exec_cancel _ ready).trans (congrArg State.done (State.cancel_open (s := s.accept _) rfl waits)), ended, reply⟩
  · exact (exec_cancel n ready).trans (congrArg State.done (State.cancel_idle (s := s.accept _) idle))
  · exact (exec_cancel n ready).trans (congrArg State.done (State.cancel_stale (s := s.accept _) live stale))
  · exact (exec_cancel n ready).trans (congrArg State.done (State.cancel_late (s := s.accept _) serial late))
  · exact ⟨_, congrArg State.done (if_pos ⟨st, zero⟩), State.endVoid_sessionOver (.authTimeout d) grant .authTimeout _⟩
  · refine ⟨_, congrArg State.done (State.release_void (s := s.accept _) late), ?_⟩
    have ended := State.endVoid_sessionOver (.release d (s.session d).serial) grant .cancelled []
    rwa [List.append_nil] at ended
  · exact congrArg State.done (if_neg fun h => st h.1)
  · refine ⟨_, congrArg State.done (State.release_open (s := s.accept _) waits), ?_⟩
    have ended := s.accept_sessionOver d (.release d (s.session d).serial) .cancelled (s.allReturns d) []
    rwa [List.append_nil] at ended
  · exact congrArg State.done (State.release_none (s := s.accept _) h)

end Sys2Proof.Machine
end

section
/-! The host's result, the off delivery and the confirmation (R101, R105 to R107, R109). -/

namespace Sys2Proof.Machine

/-! ## The host's result (R105 to R107) -/

section
variable {s : State} {d : Drop}

theorem State.pendingSale_of_only {sale : Nat} (pending : (s.session d).state = .authPending)
    (grant : (s.session d).journalGrant = some sale)
    (only : ∀ e, (s.session e).state = .authPending → (s.session e).journalGrant = some sale → e = d) :
    s.pendingSale sale = some d := by
  unfold State.pendingSale
  cases found : (List.finRange 16).find? fun d => (s.session d).state == .authPending && (s.session d).journalGrant == some sale with
  | none => exact absurd (List.find?_eq_none.1 found d (List.mem_finRange d)) (by simp [pending, grant])
  | some e =>
    have holds := List.find?_some found
    obtain ⟨state, number⟩ := Bool.and_eq_true_iff.1 holds
    rw [only e (eq_of_beq state) (eq_of_beq number)]

theorem State.pendingSale_none {sale : Nat} (h : ∀ d, (s.session d).state = .authPending → (s.session d).journalGrant ≠ some sale) :
    s.pendingSale sale = none :=
  List.find?_eq_none.2 fun d _ holds => by
    obtain ⟨state, number⟩ := Bool.and_eq_true_iff.1 holds
    exact h d (eq_of_beq state) (eq_of_beq number)

theorem State.timedOut_iff {sale : Nat} : s.timedOut sale = true ↔ ∃ d, (s.session d).lastTimedOut = sale := by
  simp [State.timedOut]

theorem State.authResult_bad {h : HostTag} {r : AuthResultReq} (bad : authFieldsOk r = false) :
    State.authResult h r s = s.replyHost h .badValue .none := if_neg (by rw [bad]; nofun)

theorem State.authResult_matched {h : HostTag} {r : AuthResultReq} (ok : authFieldsOk r = true) (found : s.pendingSale r.sale = some d) :
    State.authResult h r s = s.matchedResult h d r := by
  unfold State.authResult
  rw [if_pos ok, found]

theorem State.authResult_late {h : HostTag} {r : AuthResultReq} (ok : authFieldsOk r = true) (missing : s.pendingSale r.sale = none)
    (late : ∃ d, (s.session d).lastTimedOut = r.sale) : State.authResult h r s = s.replyHost h .late .none := by
  unfold State.authResult
  rw [if_pos ok, missing]
  exact if_pos (State.timedOut_iff.2 late)

theorem State.authResult_unknown {h : HostTag} {r : AuthResultReq} (ok : authFieldsOk r = true) (missing : s.pendingSale r.sale = none)
    (unknown : ∀ d, (s.session d).lastTimedOut ≠ r.sale) : State.authResult h r s = s.replyHost h .unknownTender .none := by
  unfold State.authResult
  rw [if_pos ok, missing]
  refine if_neg fun late => ?_
  obtain ⟨d, e⟩ := State.timedOut_iff.1 late
  exact unknown d e

/-- What an approval leaves (R106). -/
theorem State.approve_facts {t : Token} {sale : Nat} (token : (s.session d).token = some t)
    (grant : (s.session d).journalGrant = some sale) (approval : Text) {u : State} (hu : s.approve d approval = u) :
    u.session d = { s.session d with state := .committing, token := none, authWait := none } ∧
    u.orders = s.orders ++
      [.commit d { serial := (s.session d).serial, sale := sale, payment := .card approval t.scheme
                   firstVoucher := if (s.session d).snacks = 0 then none else (s.session d).voucherGrant.map (·.1) }] ∧
    u.waits d .pushTender (.tenderPush (tenderPushOf (u.session d))) ∧ u.reader d = s.reader d ∧ u.hlc = s.hlc ∧
    sessionFrame d s u := by
  rw [← hu]
  refine ⟨s.setSession_session_same d _, ?_, State.pushTender_waits _ d, rfl, rfl,
    ((s.setSession_frame d _).trans (State.send_frame _ d _)).trans (State.place_frame _ d _ _)⟩
  have order : (s.session d).commitOrder ((s.session d).payment approval) =
      { serial := (s.session d).serial, sale := sale, payment := .card approval t.scheme
        firstVoucher := if (s.session d).snacks = 0 then none else (s.session d).voucherGrant.map (·.1) } := by
    unfold Session.commitOrder Session.payment
    rw [token, grant]
    rfl
  rw [← order]
  rfl

theorem State.decline_sessionOver (s : State) (d : Drop) (c : Instr) (o : TenderOutcome) :
    sessionOver d c (s.session d).ended o (s.allReturns d ++
      [if (s.session d).attempt = some 3 then .expire d (s.session d).serial else .unfreeze d (s.session d).serial o]) s
      ((s.accept c).decline d o) := by
  rw [← s.afterAttempt_eq d o]
  exact s.accept_sessionOver d c o _ _

theorem State.offDelivered_facts (read : (s.session d).state = .cardRead) {u : State} (hu : s.offDelivered d = u) :
    u.session d = { s.session d with state := .authPending, authWait := some s.hlc.authTimeout } ∧
    u.hlc.conditions.raised (.auth d) = true ∧ hlcKept s u ∧ u.reader d = s.reader d ∧
    u.waits d .pushTender (.tenderPush (tenderPushOf (u.session d))) ∧ u.orders = s.orders ∧ sessionFrame d s u := by
  rw [← hu, show s.offDelivered d = ((s.setSession d { s.session d with state := .authPending, authWait := some s.hlc.authTimeout }).raise
    (.auth d)).pushTender d from if_pos read]
  refine ⟨s.setSession_session_same d _, ?_, rfl, rfl, State.pushTender_waits _ d, rfl,
    ((s.setSession_frame d _).trans (State.raise_frame _ d _)).trans (State.place_frame _ d _ _)⟩
  exact State.raise_raised _ _

theorem State.idleSession_facts (s : State) (d : Drop) (o : TenderOutcome) {u : State} (hu : s.idleSession d o = u) :
    u.session d = (s.session d).ended ∧ u.waits d .pushTender (.tenderPush (endedPush (s.session d) o)) ∧
    u.reader d = s.reader d ∧ u.hlc = s.hlc ∧ u.orders = s.orders ∧ sessionFrame d s u := by
  rw [← hu]
  exact ⟨s.setSession_session_same d _, State.place_slot_same _ d _ _, rfl, rfl, rfl, s.idleSession_frame d o⟩

end

/-- Settles O41: the result by its session and its two outcomes; the delivery and the confirmation by the session's state. -/
theorem authorisationAndConfirmation : Obligations.AuthorisationAndConfirmation := by
  unfold Obligations.AuthorisationAndConfirmation
  refine ⟨fun h r s ready => ?_, fun d n s => ⟨fun read => ?_, fun other => ?_, fun commits serial => ?_, fun other => ?_⟩⟩
  · set c := Instr.authResult h (some r) with hc
    have acts : ∀ {u : State}, State.authResult h r (s.accept c) = u → exec c s = .next u.transmit := fun e => State.serve_ready ready e
    have missing : (∀ d, (s.session d).state = .authPending → (s.session d).journalGrant ≠ some r.sale) →
        (s.accept c).pendingSale r.sale = none := fun no => State.pendingSale_none no
    refine ⟨fun bad => acts (State.authResult_bad bad), fun ok => ⟨fun d t pending grant only token => ?_, fun no =>
      ⟨fun late => acts (State.authResult_late ok (missing no) late),
        fun unknown => acts (State.authResult_unknown ok (missing no) unknown)⟩⟩⟩
    have matched : State.authResult h r (s.accept c) = (s.accept c).matchedResult h d r :=
      State.authResult_matched ok (State.pendingSale_of_only pending grant only)
    refine ⟨fun approved same => ?_, fun approved differs => ?_, fun declined => ?_⟩
    · have no : r.outcome ≠ 2 := by rw [approved]; decide
      obtain ⟨session, orders, push, reader, hlc, frame⟩ :=
        State.approve_facts (s := s.accept c) (d := d) token grant r.approval rfl
      exact ⟨_, acts (matched.trans ((if_neg no).trans (if_pos same))), session, orders, push, reader, hlc,
        (s.accept_frame d c).trans frame⟩
    · have no : r.outcome ≠ 2 := by rw [approved]; decide
      exact ⟨_, acts (matched.trans ((if_neg no).trans (if_neg differs))), s.decline_sessionOver d c .mismatch⟩
    · exact ⟨_, acts (matched.trans (if_pos declined)), s.decline_sessionOver d c .declined⟩
  · obtain ⟨session, raised, kept, reader, push, orders, frame⟩ :=
      State.offDelivered_facts (s := s.accept (.readerOffDelivered d)) (d := d) read rfl
    exact ⟨_, rfl, session, raised, kept, reader, push, orders, (s.accept_frame d _).trans frame⟩
  · exact congrArg State.done (if_neg other)
  · obtain ⟨session, push, reader, hlc, orders, frame⟩ := (s.accept (.commitConfirmation d n)).idleSession_facts d .sold rfl
    exact ⟨_, congrArg Host.Outcome.next (if_pos ⟨commits, serial⟩), session, push, reader, hlc, orders, (s.accept_frame d _).trans frame⟩
  · exact congrArg Host.Outcome.next (if_neg fun ⟨a, b⟩ => other.elim (· a) (· b))

end Sys2Proof.Machine
end

section
/-! The reservation protocol (R94, R95, R97). -/

namespace Sys2Proof.Machine

/-! ## The reservation protocol (R94, R95, R97) -/

section
variable {s : State} {d : Drop}

@[simp] theorem State.setSession_setSession (s : State) (d : Drop) (x y : Session) :
    (s.setSession d x).setSession d y = s.setSession d y := by simp [State.setSession, vput]

theorem State.tenderStart_facts (idle : (s.session d).state = .idle) (t : TenderStart) {u : State} (hu : s.tenderStart d t = u) :
    u.session d = (s.session d).started t ∧ u.orders = s.orders ++ [.journalGrantRequest d (u.session d).reference] ∧
    u.waits d .pushTender (.tenderPush (tenderPushOf (u.session d))) ∧ u.hlc = s.hlc ∧ u.reader d = s.reader d ∧ sessionFrame d s u := by
  have made : ((s.setSession d ((s.session d).started t)).send [.journalGrantRequest d ((s.session d).started t).reference]).pushTender d = u :=
    (if_pos idle).symm.trans hu
  have session : u.session d = (s.session d).started t := by rw [← made]; exact s.setSession_session_same d _
  rw [session, ← made]
  refine ⟨rfl, rfl, ?_, rfl, rfl, ((s.setSession_frame d _).trans (State.send_frame _ d _)).trans (State.place_frame _ d _ _)⟩
  have waits := State.pushTender_waits ((s.setSession d ((s.session d).started t)).send
    [.journalGrantRequest d ((s.session d).started t).reference]) d
  rwa [State.send_session, State.setSession_session_same] at waits

theorem State.granted_journal {t : TenderStart} (start : (s.session d).start = some t) (n : Nat) :
    s.granted d (.journal n) =
      (s.setSession d { s.session d with journalGrant := some n, phase := some (if t.snacks = 0 then .print else .voucher) }).send
        [if t.snacks = 0 then .printGrantRequest d (s.session d).reference (t.seats + 1)
          else .voucherGrantRequest d (s.session d).reference t.snacks] := by
  have snacks : (s.session d).snacks = t.snacks := by unfold Session.snacks; rw [start]
  unfold State.granted State.askPrint State.askVoucher Session.record
  dsimp only
  rw [State.setSession_session_same, State.setSession_setSession, State.setSession_setSession, snacks]
  by_cases none : t.snacks = 0
  · simp only [if_pos none, Session.seats, start]
  · simp only [if_neg none, Session.snacks, start]

theorem State.granted_voucher {t : TenderStart} (start : (s.session d).start = some t) (a k : Nat) :
    s.granted d (.voucher a k) =
      (s.setSession d { s.session d with voucherGrant := some (a, k), phase := some .print }).send
        [.printGrantRequest d (s.session d).reference (t.seats + 1)] := by
  unfold State.granted State.askPrint Session.record
  dsimp only
  rw [State.setSession_session_same, State.setSession_setSession]
  simp only [Session.seats, start]

/-- What COMMIT with nothing to pay leaves (R97). -/
theorem State.commitZero_facts (s : State) (d : Drop) {u : State} (hu : s.commitZero d = u) :
    u.session d = { s.session d with state := .committing, phase := none } ∧ u.reader d = s.reader d ∧ u.hlc = s.hlc ∧
    u.orders = s.orders ++ [.commit d ((s.session d).commitOrder .none)] ∧
    u.waits d .pushTender (.tenderPush (tenderPushOf (u.session d))) ∧
    u.waits d .reply (.reply
      { code := .ok, serial := some (s.basket d).serial, basket := some (basketRecord (s.basket d) s.fau.generation)
        detail := .tender .committing none none }) ∧ sessionFrame d s u := by
  rw [← hu]
  refine ⟨s.setSession_session_same d _, rfl, rfl, rfl, State.pushTender_waits _ d, ?_, ?_⟩
  · exact (State.pushTender_slot _ d (by decide)).trans (State.place_slot_same _ d _ _)
  · exact (((s.setSession_frame d _).trans (State.send_frame _ d _)).trans (State.replyDrop_frame _ d _)).trans (State.place_frame _ d _ _)

/-- What the entry to CARD_WAIT leaves (R97). -/
theorem State.enterCardWait_facts (s : State) (d : Drop) {u : State} (hu : s.enterCardWait d = u) :
    u.session d = { s.session d with state := .cardWait, phase := none, attempt := some (s.session d).nextAttempt
                                     cardWait := some s.hlc.cardWait } ∧
    u.hlc = s.hlc ∧ u.orders = s.orders ++ [.attempt d (s.session d).serial] ∧
    u.waits d .pushTender (.tenderPush (tenderPushOf (u.session d))) ∧
    u.waits d .reply (.reply
      { code := .ok, serial := some (s.basket d).serial, basket := some (basketRecord (s.basket d) s.fau.generation)
        detail := .tender .cardWait (some (s.session d).nextAttempt) (some (s.session d).frozen) }) ∧
    (u.reader d).contacts = (s.reader d).contacts ∧
    ((s.reader d).state = .classified → (s.reader d).outstanding = .none →
      u.reader d = { s.reader d with spent := false }.toPowerUp ∧
      u.waits d .reader (.reader (.on ((s.reader d).supply.getD .v3)))) ∧
    ((s.reader d).state ≠ .classified → u.reader d = { s.reader d with spent := false }) ∧ sessionFrame d s u := by
  set x : Session := { s.session d with state := .cardWait, phase := none, attempt := some (s.session d).nextAttempt
                                        cardWait := some s.hlc.cardWait } with hx
  set v := (((s.setSession d x).send [.attempt d x.serial]).setReader d { s.reader d with spent := false }).basketReply d .ok
    (.tender .cardWait x.attempt (some x.frozen)) with hv
  set w := v.pushTender d with hw
  have made : (w.powerTest d).pushSlotAfter d (s.reader d).state none = u := hu
  have session : w.session d = x := s.setSession_session_same d x
  have reader : w.reader d = { s.reader d with spent := false } := State.setReader_reader_same _ d _
  have only : readerOnly d w u := made ▸ (w.powerTest_readerOnly d).trans (State.pushSlotAfter_readerOnly _ d _ _)
  have slots : u.slot d .reader = (w.powerTest d).slot d .reader := by
    rw [← made]; exact State.pushSlotAfter_slot _ d _ _ (by decide)
  have moved : u.reader d = (w.powerTest d).reader d := by rw [← made, State.pushSlotAfter_reader]
  have condition := w.powerCondition_iff d
  rw [reader, session] at condition
  have powered : (s.reader d).state = .classified → (s.reader d).outstanding = .none →
      u.reader d = { s.reader d with spent := false }.toPowerUp ∧
      u.waits d .reader (.reader (.on ((s.reader d).supply.getD .v3))) := fun a b => by
    obtain ⟨up, waits⟩ := w.powerTest_met d (condition.2 ⟨a, rfl, b, rfl⟩)
    rw [reader] at up waits
    exact ⟨moved.trans up, slots.trans waits⟩
  have stays : ¬((s.reader d).state = .classified ∧ (s.reader d).outstanding = .none) →
      u.reader d = { s.reader d with spent := false } := fun h => by
    rw [moved, w.powerTest_unmet d fun met => h ⟨(condition.1 met).1, (condition.1 met).2.2.1⟩, reader]
  refine ⟨only.session.trans session, only.hlc, only.orders, ?_, ?_, ?_, powered, fun h => stays fun met => h met.1, ?_⟩
  · rw [only.session, State.waits, only.slots _ (by decide) (by decide)]
    exact v.pushTender_waits d
  · rw [State.waits, only.slots _ (by decide) (by decide), hw, State.pushTender_slot _ d (by decide)]
    exact State.place_slot_same _ d _ _
  · by_cases h : (s.reader d).state = .classified ∧ (s.reader d).outstanding = .none
    · rw [(powered h.1 h.2).1]; rfl
    · rw [stays h]
  · exact (((((s.setSession_frame d x).trans (State.send_frame _ d _)).trans (State.setReader_frame _ d _)).trans
      (State.replyDrop_frame _ d _)).trans (State.place_frame _ d _ _)).trans only.frame

end
section
variable {s : State} {d : Drop}

/-- The last grant ends the protocol (R97): what is common to its two ends. -/
theorem State.granted_print {t : TenderStart} {c : Instr} {k : Nat} (start : (s.session d).start = some t) :
    ∃ u : State, (s.accept c).granted d (.print k) = u ∧ u.hlc = s.hlc ∧ sessionFrame d s u ∧
      u.waits d .pushTender (.tenderPush (tenderPushOf (u.session d))) ∧ (u.session d).phase = none ∧
      (u.session d).printGrant = some k ∧ (u.session d).journalGrant = (s.session d).journalGrant ∧
      (u.session d).voucherGrant = (s.session d).voucherGrant ∧ (u.session d).start = some t ∧
      u.waits d .reply (.reply
        { code := .ok, serial := some (s.basket d).serial, basket := some (basketRecord (s.basket d) s.fau.generation)
          detail := if t.frozen = 0 then .tender .committing none none
            else .tender .cardWait (some (t.attempts + 1)) (some t.frozen) }) ∧
      (t.frozen = 0 → (u.session d).state = .committing ∧ u.reader d = s.reader d ∧ u.orders = s.orders.erase c ++
        [.commit d { serial := t.serial, sale := (s.session d).journalGrant.getD 0, payment := .none
                     firstVoucher := if t.snacks = 0 then none else (s.session d).voucherGrant.map (·.1) }]) ∧
      (0 < t.frozen → (u.session d).state = .cardWait ∧ (u.session d).attempt = some (t.attempts + 1) ∧
        (u.session d).cardWait = some s.hlc.cardWait ∧ (u.reader d).contacts = (s.reader d).contacts ∧
        ((s.reader d).state = .classified → (s.reader d).outstanding = .none →
          u.reader d = { s.reader d with spent := false }.toPowerUp ∧
          u.waits d .reader (.reader (.on ((s.reader d).supply.getD .v3)))) ∧
        ((s.reader d).state ≠ .classified → u.reader d = { s.reader d with spent := false }) ∧
        u.orders = s.orders.erase c ++ [.attempt d t.serial]) := by
  set v := (s.accept c).setSession d ((s.session d).record (.print k)) with hv
  have session : v.session d = { s.session d with printGrant := some k } := State.setSession_session_same _ d _
  have made : (s.accept c).granted d (.print k) = v.allGranted d := rfl
  have vframe : sessionFrame d s v := (s.accept_frame d c).trans (State.setSession_frame _ d _)
  have serial : (v.session d).serial = t.serial := by rw [session]; simp only [Session.serial, start]
  have frozen : (v.session d).frozen = t.frozen := by rw [session]; simp only [Session.frozen, start]
  have snacks : (v.session d).snacks = t.snacks := by rw [session]; simp only [Session.snacks, start]
  have attempt : (v.session d).nextAttempt = t.attempts + 1 := by rw [session]; simp only [Session.nextAttempt, start]
  rw [made]
  by_cases free : t.frozen = 0
  · have ends : v.allGranted d = v.commitZero d := if_pos (frozen.trans free)
    obtain ⟨hsession, reader, hlc, orders, push, reply, frame⟩ := v.commitZero_facts d rfl
    rw [ends, if_pos free]
    rw [session] at hsession
    refine ⟨_, rfl, hlc, vframe.trans frame, push, congrArg Session.phase hsession, congrArg Session.printGrant hsession,
      by rw [hsession], by rw [hsession], (congrArg Session.start hsession).trans start,
      reply, fun _ => ⟨congrArg Session.state hsession, reader, ?_⟩, fun charged => absurd free charged.ne'⟩
    rw [orders, Session.commitOrder, serial, Session.firstVoucher, snacks, session]
    rfl
  · have ends : v.allGranted d = v.enterCardWait d := if_neg (frozen ▸ free)
    obtain ⟨hsession, hlc, orders, push, reply, contacts, powers, stays, frame⟩ := v.enterCardWait_facts d rfl
    rw [ends, if_neg free]
    rw [attempt, frozen] at reply
    rw [attempt, session] at hsession
    refine ⟨_, rfl, hlc, vframe.trans frame, push, congrArg Session.phase hsession, congrArg Session.printGrant hsession,
      by rw [hsession], by rw [hsession], (congrArg Session.start hsession).trans start,
      reply, fun zero => absurd zero free, fun _ => ⟨congrArg Session.state hsession, congrArg Session.attempt hsession,
        congrArg Session.cardWait hsession, contacts, powers, stays, ?_⟩⟩
    rw [orders, serial]
    rfl

end

/-- Settles O39: the start by the session's state, a grant by whether it matches and by its kind. -/
theorem reservationProtocol : Obligations.ReservationProtocol := by
  unfold Obligations.ReservationProtocol
  refine ⟨fun d t s idle => ?_, fun d ref t s st re start => ?_, fun d ref g s stray => ?_⟩
  · obtain ⟨session, orders, push, hlc, reader, frame⟩ :=
      State.tenderStart_facts (s := s.accept (.tenderStart d t)) (d := d) idle t rfl
    exact ⟨_, rfl, session, orders, push, hlc, reader, (s.accept_frame d _).trans frame⟩
  · subst re
    have acts : ∀ g, (s.session d).phase = some (grantPhase g) → exec (.reservationGrant d (s.session d).reference g) s =
        .next ((s.accept (.reservationGrant d (s.session d).reference g)).granted d g) := fun g phase =>
      congrArg Host.Outcome.next (if_pos ((State.answerMatches_iff _ d _ _).2 ⟨st, rfl, phase⟩))
    refine ⟨fun n phase => (acts (.journal n) phase).trans (congrArg Host.Outcome.next (State.granted_journal (s := s.accept _) start n)),
      fun a k phase => (acts (.voucher a k) phase).trans (congrArg Host.Outcome.next (State.granted_voucher (s := s.accept _) start a k)),
      fun k phase => ?_⟩
    obtain ⟨u, made, facts⟩ := State.granted_print (c := .reservationGrant d (s.session d).reference (.print k)) (k := k) start
    exact ⟨u, (acts (.print k) phase).trans (congrArg Host.Outcome.next made), facts⟩
  · exact congrArg Host.Outcome.next (if_neg (State.not_answerMatches (s := s.accept _) stray))

end Sys2Proof.Machine
end

section
/-! The frame of a printer, feeding and queued items (R152, R154, R162). -/

namespace Sys2Proof.Machine

/-! ## The frame of one printer (R148 to R164) -/

section
variable {d : Drop} {s t u : State}

theorem printerFrame.refl (d : Drop) (s : State) : printerFrame d s s :=
  ⟨fun _ _ => ⟨rfl, rfl⟩, .refl d s, .of_hlc rfl, .refl _ s, rfl, rfl⟩

theorem printerFrame.trans (h : printerFrame d s t) (k : printerFrame d t u) : printerFrame d s u := by
  obtain ⟨printers, slots, hlc, kept, later, backlog⟩ := h
  obtain ⟨printers', slots', hlc', kept', later', backlog'⟩ := k
  refine ⟨fun e he => ?_, slots.trans slots', hlc.trans hlc', kept.trans kept', later'.trans later, backlog'.trans backlog⟩
  rw [(printers' e he).1, (printers' e he).2]
  exact printers e he

theorem printerFrame.ite {c : Prop} [Decidable c] (h : c → printerFrame d s t) (k : ¬c → printerFrame d s u) :
    printerFrame d s (if c then t else u) := by
  split
  · exact h ‹_›
  · exact k ‹_›

theorem printerFrame.whenever {c : Prop} [Decidable c] (h : c → printerFrame d s t) : printerFrame d s (if c then t else s) :=
  .ite h fun _ => .refl d s

end

section
variable (s : State) (d : Drop)

/-- What leaves the other blocks, the printers and the queues of the other drops, and the two settings, leaves a printer's frame. -/
theorem printerFrame.of_pru {u : State} (printers : printersKeptBut d s u) (kept : keptBut [.pru, .orders] s u)
    (later : u.pru.printLater = s.pru.printLater) (backlog : u.pru.backlog = s.pru.backlog) : printerFrame d s u :=
  ⟨printers, .of_klc (kept .klc (by decide)), .of_hlc (kept .hlc (by decide)), kept.mono (by decide), later, backlog⟩

theorem State.accept_printerFrame (c : Instr) : printerFrame d s (s.accept c) :=
  .of_pru s d (fun _ _ => ⟨rfl, rfl⟩) (s.accept_kept c (by decide)) rfl rfl

theorem State.setPrinter_printerFrame (p : Printer) : printerFrame d s (s.setPrinter d p) :=
  .of_pru s d (fun _ h => ⟨s.setPrinter_printer_ne d p h, rfl⟩) (s.setPrinter_kept d p (by decide)) rfl rfl

theorem State.setQueue_printerFrame (q : List PrintItem) : printerFrame d s (s.setQueue d q) :=
  .of_pru s d (fun _ h => ⟨rfl, s.setQueue_queue_ne d q h⟩) (s.setQueue_kept d q (by decide)) rfl rfl

theorem State.setReservations_printerFrame (rs : List PrintReservation) :
    printerFrame d s (s.setPru { s.pru with reservations := rs }) :=
  .of_pru s d (fun _ _ => ⟨rfl, rfl⟩) (s.setPru_kept _ (by decide)) rfl rfl

theorem State.place_printerFrame (i : SlotId) (f : OutFrame) : printerFrame d s (s.place d i f) :=
  ⟨fun _ _ => ⟨rfl, rfl⟩, s.place_slotsKeptBut d i f, .of_hlc rfl, s.place_kept d i f (by decide), rfl, rfl⟩

theorem State.withdraw_printerFrame (i : SlotId) : printerFrame d s (s.withdraw d i) :=
  ⟨fun _ _ => ⟨rfl, rfl⟩, s.withdraw_slotsKeptBut d i, .of_hlc rfl, s.withdraw_kept d i (by decide), rfl, rfl⟩

theorem State.raise_printerFrame (k : Condition) : printerFrame d s (s.raise k) :=
  ⟨fun _ _ => ⟨rfl, rfl⟩, .of_klc rfl, s.raise_hlcKept k, s.raise_kept k (by decide), rfl, rfl⟩

theorem State.backlogTest_printerFrame (n : Nat) : printerFrame d s (s.backlogTest d n) :=
  .whenever fun _ => s.raise_printerFrame d _

theorem State.feed_printerFrame : printerFrame d s (s.feed d) := by
  obtain ⟨i, fed⟩ | same := s.feed_cases d
  · rw [fed]; exact (s.setPrinter_printerFrame d _).trans (State.place_printerFrame _ d _ _)
  · rw [same]; exact .refl d s

theorem State.printerReady_printerFrame : printerFrame d s (s.printerReady d) :=
  (s.setPrinter_printerFrame d _).trans (State.feed_printerFrame _ d)

/-! ## Feeding (R154) -/

theorem State.feed_idle (h : (s.printer d).state ≠ .ready ∨ s.queue d = []) : s.feed d = s :=
  h.elim State.feed_of_notReady State.feed_of_empty

theorem State.feed_feeds {i : PrintItem} {rest : List PrintItem} (ready : (s.printer d).state = .ready) (head : s.queue d = i :: rest) :
    (s.feed d).printer d = { s.printer d with state := .busy, headSent := true } ∧ (s.feed d).waits d .print (.print i) := by
  rw [State.feed_of_ready ready head]
  exact ⟨s.setPrinter_printer_same d _, State.place_slot_same _ d _ _⟩

/-- A printer that reports ready is READY and feeds (R157, R159). -/
theorem State.printerReady_facts {u : State} (hu : s.printerReady d = u) :
    u.queue d = s.queue d ∧ (u.printer d).retries = 0 ∧ (u.printer d).paperLow = (s.printer d).paperLow ∧
    (s.queue d = [] → (u.printer d).state = .ready ∧ u.slot d .print = s.slot d .print) ∧
    (∀ i rest, s.queue d = i :: rest → (u.printer d).state = .busy ∧ (u.printer d).headSent = true ∧ u.waits d .print (.print i)) ∧
    u.orders = s.orders ∧ u.hlc = s.hlc ∧ printerFrame d s u := by
  set v := s.setPrinter d { s.printer d with state := .ready, retries := 0 } with hv
  have printer : v.printer d = { s.printer d with state := .ready, retries := 0 } := s.setPrinter_printer_same d _
  have made : v.feed d = u := hu
  have fed : ∀ i rest, s.queue d = i :: rest → u.printer d = { s.printer d with state := .busy, headSent := true, retries := 0 } ∧
      u.waits d .print (.print i) := fun i rest head => by
    obtain ⟨busy, waits⟩ := v.feed_feeds d (by rw [printer]) (show v.queue d = i :: rest from head)
    rw [made] at busy waits
    rw [printer] at busy
    exact ⟨busy, waits⟩
  have idle : s.queue d = [] → u = v := fun empty => made.symm.trans (v.feed_idle d (.inr empty))
  refine ⟨by rw [← made]; exact v.feed_queue d d, ?_, ?_, fun empty => ?_, fun i rest head => ?_, by rw [← made]; exact v.feed_orders d,
    by rw [← made]; exact v.feed_hlc d, made ▸ s.printerReady_printerFrame d⟩
  · cases queue : s.queue d with
    | nil => rw [idle queue, printer]
    | cons i rest => rw [(fed i rest queue).1]
  · cases queue : s.queue d with
    | nil => rw [idle queue, printer]
    | cons i rest => rw [(fed i rest queue).1]
  · rw [idle empty, printer]
    exact ⟨rfl, rfl⟩
  · obtain ⟨busy, waits⟩ := fed i rest head
    rw [busy]
    exact ⟨rfl, rfl, waits⟩

/-! ## A print order (R152, R154, R162) -/

theorem eraseLast_append {α : Type} {p : α → Bool} {xs ys : List α} {r : α} (hit : p r = true) (passed : ∀ y ∈ ys, ¬p y = true) :
    eraseLast p (xs ++ r :: ys) = xs ++ ys := by
  have front : (ys.reverse ++ r :: xs.reverse).eraseP p = ys.reverse ++ xs.reverse := by
    rw [List.eraseP_append_right _ fun y hy => passed y (List.mem_reverse.1 hy), List.eraseP_cons_of_pos hit]
  simp [eraseLast, front]

theorem eraseLast_of_none {α : Type} {p : α → Bool} {l : List α} (passed : ∀ y ∈ l, ¬p y = true) : eraseLast p l = l := by
  rw [eraseLast, List.eraseP_of_forall_not fun y hy => passed y (List.mem_reverse.1 hy), List.reverse_reverse]

@[simp] theorem State.setQueue_setQueue (p q : List PrintItem) : (s.setQueue d p).setQueue d q = s.setQueue d q := by
  simp [State.setQueue, vput]

@[simp] theorem State.setQueue_self : s.setQueue d (s.queue d) = s := by simp [State.setQueue, State.queue, vput, vget]

theorem State.setQueue_queuePlaces (q : List PrintItem) :
    (s.setQueue d q).queuePlaces d = q.length + s.pru.reservedFor d := by
  rw [State.queuePlaces, State.setQueue_queue_same]; rfl

/-- Items are appended in order while there is room (R152). -/
theorem State.appendItems_eq (items : List PrintItem) (s : State) :
    items.foldl (State.appendItem d) s = s.setQueue d (s.queue d ++ items.take (16 - s.queuePlaces d)) := by
  induction items generalizing s with
  | nil => simp
  | cons i items ih =>
    rw [List.foldl_cons, ih]
    by_cases room : s.queuePlaces d < 16
    · have appended : State.appendItem d s i = s.setQueue d (s.queue d ++ [i]) := if_pos room
      have places : (s.setQueue d (s.queue d ++ [i])).queuePlaces d = s.queuePlaces d + 1 := by
        rw [State.setQueue_queuePlaces, State.queuePlaces, List.length_append, List.length_singleton]
        omega
      have one : 16 - s.queuePlaces d = 16 - (s.queuePlaces d + 1) + 1 := by omega
      rw [appended, places, State.setQueue_queue_same, State.setQueue_setQueue, one, List.take_succ_cons, List.append_assoc,
        List.singleton_append]
    · have full : State.appendItem d s i = s := if_neg room
      have none : 16 - s.queuePlaces d = 0 := by omega
      rw [full, none, List.take_zero, List.take_zero]

/-- What a print order leaves once its reservation is consumed: the items appended, the backlog tested, the printer fed. -/
theorem State.itemsQueued_facts (v : State) (d : Drop) (items : List PrintItem) {u : State}
    (hu : ((v.setQueue d (v.queue d ++ items)).backlogTest d (v.queue d).length).feed d = u) :
    u.queue d = v.queue d ++ items ∧ u.pru.reservations = v.pru.reservations ∧
    (∀ i rest, (v.printer d).state = .ready → v.queue d ++ items = i :: rest →
      (u.printer d).state = .busy ∧ (u.printer d).headSent = true ∧ u.waits d .print (.print i)) ∧
    ((v.printer d).state ≠ .ready ∨ v.queue d ++ items = [] → u.printer d = v.printer d ∧ u.slot d .print = v.slot d .print) ∧
    ((v.queue d).length < v.pru.backlog → v.pru.backlog ≤ (v.queue d ++ items).length → u.hlc.conditions.raised .printer = true) ∧
    (v.pru.backlog ≤ (v.queue d).length ∨ (v.queue d ++ items).length < v.pru.backlog → u.hlc = v.hlc) ∧
    u.orders = v.orders ∧ printerFrame d v u := by
  set q := v.setQueue d (v.queue d ++ items) with hq
  have queue : q.queue d = v.queue d ++ items := v.setQueue_queue_same d _
  set w := q.backlogTest d (v.queue d).length with hw
  have wqueue : w.queue d = v.queue d ++ items := (q.backlogTest_queue d _ d).trans queue
  have printer : w.printer d = v.printer d := q.backlogTest_printer d _ d
  refine ⟨by rw [← hu, State.feed_queue, wqueue], ?_, fun i rest ready head => ?_, fun idle => ?_, fun below reached => ?_,
    fun apart => ?_, ?_, ?_⟩
  · rw [← hu, State.feed_reservations, hw, State.backlogTest_pru, hq, State.setQueue_reservations]
  · obtain ⟨busy, waits⟩ := w.feed_feeds d (printer ▸ ready) (wqueue.trans head)
    rw [hu] at busy waits
    rw [busy]
    exact ⟨rfl, rfl, waits⟩
  · rw [← hu, w.feed_idle d (idle.imp (printer ▸ ·) wqueue.trans), printer, hw, State.backlogTest_slot]
    exact ⟨rfl, rfl⟩
  · rw [← hu, State.feed_hlc]
    exact State.backlogTest_raised below (queue ▸ reached)
  · have calm : w = q := if_neg fun ⟨below, reached⟩ => by
      rw [queue] at reached
      exact apart.elim (not_le.2 below) (not_lt.2 reached)
    rw [← hu, State.feed_hlc, calm]
    rfl
  · rw [← hu, State.feed_orders, hw, State.backlogTest_orders]; rfl
  · exact hu ▸ ((v.setQueue_printerFrame d _).trans (State.backlogTest_printerFrame _ d _)).trans (State.feed_printerFrame _ d)

end

end Sys2Proof.Machine
end

section
/-! Print grants, returns and orders (R150 to R152). -/

namespace Sys2Proof.Machine

/-! ## Grants, returns and orders (R150 to R152) -/

section
variable {s : State} {d : Drop}

theorem PrinterState.refuses_iff {p : PrinterState} : p.refuses = true ↔ p = .paused ∨ p = .fault ∨ p = .offline := by
  cases p <;> simp [PrinterState.refuses]

theorem PrinterState.not_refuses {p : PrinterState} (h : p = .ready ∨ p = .busy) : p.refuses = false := by
  rcases h with rfl | rfl <;> rfl

/-- A print order is its reservation consumed and its items queued while there is room (R152). -/
theorem State.printOrder_eq (c : Instr) (items : List PrintItem) {v : State} (hv : (s.accept c).consumePrint d = v) :
    (s.accept c).printOrder d items =
      ((v.setQueue d (v.queue d ++ items.take (16 - v.queuePlaces d))).backlogTest d (v.queue d).length).feed d := by
  have queue : (s.accept c).queue d = v.queue d := by rw [← hv]; rfl
  rw [State.printOrder, hv, State.appendItems_eq, queue]

/-- What a print order leaves, whichever of its items found room (R152). -/
theorem State.printOrder_facts {c : Instr} {items taken : List PrintItem} {rs : List PrintReservation}
    (consumed : eraseLast (fun r => r.drop == d) s.pru.reservations = rs)
    (room : items.take (16 - ((s.queue d).length + ({ s.pru with reservations := rs } : Pru).reservedFor d)) = taken) {u : State}
    (hu : (s.accept c).printOrder d items = u) :
    u.queue d = s.queue d ++ taken ∧ u.pru.reservations = rs ∧
    (∀ i rest, (s.printer d).state = .ready → s.queue d ++ taken = i :: rest →
      (u.printer d).state = .busy ∧ (u.printer d).headSent = true ∧ u.waits d .print (.print i)) ∧
    ((s.printer d).state ≠ .ready ∨ s.queue d ++ taken = [] → u.printer d = s.printer d ∧ u.slot d .print = s.slot d .print) ∧
    ((s.queue d).length < s.pru.backlog → s.pru.backlog ≤ (s.queue d ++ taken).length → u.hlc.conditions.raised .printer = true) ∧
    (s.pru.backlog ≤ (s.queue d).length ∨ (s.queue d ++ taken).length < s.pru.backlog → u.hlc = s.hlc) ∧
    u.orders = s.orders.erase c ∧ printerFrame d s u := by
  have made : (s.accept c).consumePrint d = (s.accept c).setPru { s.pru with reservations := rs } := by rw [← consumed]; rfl
  rw [State.printOrder_eq c items made] at hu
  set v := (s.accept c).setPru { s.pru with reservations := rs }
  have taken' : items.take (16 - v.queuePlaces d) = taken := room
  rw [taken'] at hu
  obtain ⟨queue, reservations, feeds, idle, raised, calm, orders, frame⟩ := v.itemsQueued_facts d taken hu
  exact ⟨queue, reservations, feeds, idle, raised, calm, orders,
    ((s.accept_printerFrame d c).trans (State.setReservations_printerFrame _ d rs)).trans frame⟩

end

/-- Settles O54: a grant by its two tests, a return by its reservation, an order by the room its reservation leaves. -/
theorem printGrantsAndOrders : Obligations.PrintGrantsAndOrders := by
  unfold Obligations.PrintGrantsAndOrders
  refine ⟨fun d ref k s => ⟨fun never out => ?_, fun some => ?_⟩, fun d ref xs ys r s split passed drop reference => ?_,
    fun d ref s absent => ?_, fun d items xs ys r s split passed drop law fits => ?_, fun d items s absent => ?_⟩
  · exact congrArg Host.Outcome.next (if_pos ⟨never, PrinterState.refuses_iff.2 out⟩)
  · have open' : ¬(s.pru.printLater = false ∧ (s.printer d).state.refuses = true) := fun ⟨never, out⟩ => by
      rcases some with later | calm
      · rw [never] at later; cases later
      · rw [PrinterState.not_refuses calm] at out; cases out
    exact ⟨fun full => congrArg Host.Outcome.next ((if_neg open').trans (if_pos full)),
      fun room => congrArg Host.Outcome.next ((if_neg open').trans (if_neg (not_lt.2 room)))⟩
  · have found : s.pru.reservations.eraseP (fun r => r.drop == d && r.reference == ref) = xs ++ ys := by
      rw [split, List.eraseP_append_right _ fun x hx => by simpa [imp_iff_not_or] using passed x hx,
        List.eraseP_cons_of_pos (by simp [drop, reference])]
    exact congrArg (fun rs => Host.Outcome.next ((s.accept (.printReturn d ref)).setPru { s.pru with reservations := rs })) found
  · have none : s.pru.reservations.eraseP (fun r => r.drop == d && r.reference == ref) = s.pru.reservations :=
      List.eraseP_of_forall_not fun x hx => by simpa [imp_iff_not_or] using absent x hx
    exact congrArg (fun rs => Host.Outcome.next ((s.accept (.printReturn d ref)).setPru { s.pru with reservations := rs })) none
  · have consumed : eraseLast (fun r => r.drop == d) s.pru.reservations = xs ++ ys := by
      rw [split]
      exact eraseLast_append (by simpa using drop) fun y hy => by simpa using passed y hy
    have reserved : s.pru.reservedFor d = ({ s.pru with reservations := xs ++ ys } : Pru).reservedFor d + r.count := by
      simp [Pru.reservedFor, split, drop]
      omega
    have places := law d
    rw [State.queuePlaces, reserved] at places
    have all : items.take (16 - ((s.queue d).length + ({ s.pru with reservations := xs ++ ys } : Pru).reservedFor d)) = items :=
      List.take_of_length_le (by omega)
    obtain ⟨queue, reservations, feeds, idle, raised, calm, orders, frame⟩ :=
      State.printOrder_facts (c := .printOrder d items) consumed all rfl
    rw [List.length_append] at raised calm
    exact ⟨_, rfl, queue, reservations, feeds, fun other => idle (.inl other), raised, calm, orders, frame⟩
  · have consumed : eraseLast (fun r => r.drop == d) s.pru.reservations = s.pru.reservations :=
      eraseLast_of_none fun y hy => by simpa using absent y hy
    have reserved : ({ s.pru with reservations := s.pru.reservations } : Pru).reservedFor d = 0 := by
      rw [Pru.reservedFor, List.filter_eq_nil_iff.2 fun y hy => by simpa using absent y hy]
      rfl
    obtain ⟨queue, reservations, feeds, idle, raised, calm, orders, frame⟩ :=
      State.printOrder_facts (c := .printOrder d items) consumed rfl rfl
    rw [reserved] at queue feeds idle raised calm
    exact ⟨_, rfl, queue, reservations, feeds, idle, raised, calm, orders, frame⟩

end Sys2Proof.Machine
end

section
/-! Reports of a printer (R155 to R158). -/

namespace Sys2Proof.Machine

/-! ## Reports of a printer (R155 to R158) -/

section
variable {s : State} {d : Drop} {tag : PrintTag}

theorem State.printerReport_kiosk {α : Type} {x : α} {act : α → State → State} (kiosk : (s.dropRec d).kind = .kiosk) :
    s.printerReport d (some x) act = act x s := if_pos ((s.isKiosk_iff d).2 kiosk)

theorem State.printerReport_other {α : Type} {body : Body α} {act : α → State → State} (kiosk : (s.dropRec d).kind ≠ .kiosk) :
    s.printerReport d body act = s := by
  cases body with
  | none => rfl
  | some x => exact if_neg (mt (s.isKiosk_iff d).1 kiosk)

theorem State.isHead_of_head {i : PrintItem} {rest : List PrintItem} (head : s.queue d = i :: rest) (named : itemTag i = tag) :
    s.isHead d tag = true := by
  unfold State.isHead
  rw [head]
  exact beq_iff_eq.2 named

theorem State.not_isHead (h : s.queue d = [] ∨ ∃ i rest, s.queue d = i :: rest ∧ itemTag i ≠ tag) : ¬s.isHead d tag = true := by
  unfold State.isHead
  rcases h with empty | ⟨i, rest, head, other⟩
  · rw [empty]; nofun
  · rw [head]; exact fun e => other (eq_of_beq e)

/-- What a PRINTED of the head item leaves (R155). -/
theorem State.printed_facts {i : PrintItem} {rest : List PrintItem} (head : s.queue d = i :: rest) (named : itemTag i = tag)
    (sent : (s.printer d).headSent = true) {u : State} (hu : State.printed d tag s = u) :
    u.queue d = rest ∧ (u.printer d).retries = 0 ∧ (u.printer d).paperLow = (s.printer d).paperLow ∧
    ((s.printer d).state = .busy → rest = [] → (u.printer d).state = .ready ∧ (u.printer d).headSent = false) ∧
    (∀ j more, (s.printer d).state = .busy → rest = j :: more →
      (u.printer d).state = .busy ∧ (u.printer d).headSent = true ∧ u.waits d .print (.print j)) ∧
    ((s.printer d).state ≠ .busy → (u.printer d).state = (s.printer d).state ∧ (u.printer d).headSent = false ∧
      u.slot d .print = s.slot d .print) ∧
    u.orders = s.orders ∧ u.hlc = s.hlc ∧ printerFrame d s u := by
  set t := (s.setQueue d rest).setPrinter d { s.printer d with headSent := false, retries := 0 } with ht
  have printer : t.printer d = { s.printer d with headSent := false, retries := 0 } := State.setPrinter_printer_same _ d _
  have queue : t.queue d = rest := s.setQueue_queue_same d rest
  have frame : printerFrame d s t := (s.setQueue_printerFrame d _).trans (State.setPrinter_printerFrame _ d _)
  have tail : (s.queue d).tail = rest := by rw [head]; rfl
  have made : (if (s.printer d).state = .busy then (t.setPrinter d { t.printer d with state := .ready }).feed d else t) = u := by
    rw [State.printed, if_pos ⟨State.isHead_of_head head named, sent⟩, tail] at hu
    exact hu
  by_cases busy : (s.printer d).state = .busy
  · rw [if_pos busy] at made
    set v := t.setPrinter d { t.printer d with state := .ready } with hv
    have ready : v.printer d = { s.printer d with state := .ready, headSent := false, retries := 0 } := by
      rw [hv, State.setPrinter_printer_same, printer]
    have vqueue : v.queue d = rest := queue
    have uqueue : u.queue d = rest := by rw [← made, State.feed_queue]; exact queue
    have orders : u.orders = s.orders := by rw [← made, State.feed_orders]; rfl
    have hlc : u.hlc = s.hlc := by rw [← made, State.feed_hlc]; rfl
    have uframe : printerFrame d s u :=
      made ▸ (frame.trans (State.setPrinter_printerFrame t d _)).trans (State.feed_printerFrame _ d)
    cases rest with
    | nil =>
      have same : u = v := made.symm.trans (v.feed_idle d (.inr vqueue))
      have idle : u.printer d = { s.printer d with state := .ready, headSent := false, retries := 0 } := same ▸ ready
      rw [idle]
      exact ⟨uqueue, rfl, rfl, fun _ _ => ⟨rfl, rfl⟩, fun j more _ => nofun, fun other => absurd busy other,
        orders, hlc, uframe⟩
    | cons j more =>
      obtain ⟨fed, waits⟩ := v.feed_feeds d (by rw [ready]) vqueue
      rw [made, ready] at fed
      rw [made] at waits
      rw [fed]
      refine ⟨uqueue, rfl, rfl, fun _ => nofun, fun j' more' _ e => ?_, fun other => absurd busy other, orders, hlc, uframe⟩
      obtain ⟨rfl, -⟩ := List.cons.inj e
      exact ⟨rfl, rfl, waits⟩
  · rw [if_neg busy] at made
    subst made
    rw [printer]
    exact ⟨queue, rfl, rfl, fun h => absurd h busy, fun j more h => absurd h busy, fun _ => ⟨rfl, rfl, rfl⟩, rfl, rfl, frame⟩

/-- What the first two FAILED of the head item leave: it is sent again (R156). -/
theorem State.failed_again {i : PrintItem} {rest : List PrintItem} (head : s.queue d = i :: rest) (named : itemTag i = tag)
    (busy : (s.printer d).state = .busy) (few : (s.printer d).retries < 2) {u : State} (hu : State.failed d tag s = u) :
    u.queue d = s.queue d ∧ u.printer d = { s.printer d with retries := (s.printer d).retries + 1, headSent := true } ∧
    u.waits d .print (.print i) ∧ u.orders = s.orders ∧ u.hlc = s.hlc ∧ printerFrame d s u := by
  set v := s.setPrinter d { s.printer d with state := .ready, retries := (s.printer d).retries + 1 } with hv
  have made : v.feed d = u := by
    rw [← hu, State.failed, if_pos ⟨State.isHead_of_head head named, busy⟩]
    exact (if_pos (Nat.succ_lt_succ few)).symm
  have printer : v.printer d = { s.printer d with state := .ready, retries := (s.printer d).retries + 1 } :=
    s.setPrinter_printer_same d _
  obtain ⟨fed, waits⟩ := v.feed_feeds d (by rw [printer]) (show v.queue d = i :: rest from head)
  rw [made, printer] at fed
  rw [made] at waits
  refine ⟨by rw [← made, State.feed_queue]; rfl, ?_, waits, by rw [← made, State.feed_orders]; rfl,
    by rw [← made, State.feed_hlc]; rfl, made ▸ (s.setPrinter_printerFrame d _).trans (State.feed_printerFrame _ d)⟩
  rw [fed, ← busy]

theorem State.failed_fault {i : PrintItem} {rest : List PrintItem} (head : s.queue d = i :: rest) (named : itemTag i = tag)
    (busy : (s.printer d).state = .busy) (many : 2 ≤ (s.printer d).retries) :
    State.failed d tag s = (s.setPrinter d { s.printer d with state := .fault, retries := 3 }).raise .printer := by
  rw [State.failed, if_pos ⟨State.isHead_of_head head named, busy⟩]
  exact if_neg (by omega)

/-! ## STATUS (R157) -/

theorem State.recordPaper_facts (s : State) (d : Drop) (low : Bool) {v : State} (hv : s.recordPaper d low = v) :
    v.printer d = { s.printer d with paperLow := low } ∧ v.queue d = s.queue d ∧ v.slot d .print = s.slot d .print ∧
    v.orders = s.orders ∧ (low = true → (s.printer d).paperLow = false → v.hlc.conditions.raised .printer = true) ∧
    printerFrame d s v := by
  have printer := s.setPrinter_printer_same d { s.printer d with paperLow := low }
  have frame := s.setPrinter_printerFrame d { s.printer d with paperLow := low }
  by_cases sets : low = true ∧ (s.printer d).paperLow = false
  · have made : (s.setPrinter d { s.printer d with paperLow := low }).raise .printer = v := (if_pos sets).symm.trans hv
    rw [← made]
    exact ⟨printer, rfl, rfl, rfl, fun _ _ => State.raise_raised _ _, frame.trans (State.raise_printerFrame _ d _)⟩
  · have made : s.setPrinter d { s.printer d with paperLow := low } = v := (if_neg sets).symm.trans hv
    rw [← made]
    exact ⟨printer, rfl, rfl, rfl, fun a b => absurd ⟨a, b⟩ sets, frame⟩

theorem State.movePrinter_again {c : PrinterCondition} (ready : c = .ready)
    (out : (s.printer d).state = .paused ∨ (s.printer d).state = .fault) :
    s.movePrinter d c = s.printerReady d := by
  unfold State.movePrinter
  rcases out with e | e <;> rw [ready, e]

theorem State.movePrinter_pauses {c : PrinterCondition} (stops : c ≠ .ready) (ready : (s.printer d).state = .ready) :
    s.movePrinter d c = s.setPrinter d { s.printer d with state := .paused } := by
  unfold State.movePrinter
  cases c <;> first | contradiction | rw [ready]

theorem State.movePrinter_interrupts {c : PrinterCondition} (stops : c ≠ .ready) (busy : (s.printer d).state = .busy) :
    s.movePrinter d c = (s.setPrinter d { s.printer d with state := .paused }).withdraw d .print := by
  unfold State.movePrinter
  cases c <;> first | contradiction | rw [busy]

theorem State.movePrinter_same {c : PrinterCondition}
    (h : (c = .ready ∧ ((s.printer d).state = .ready ∨ (s.printer d).state = .busy)) ∨
      (c ≠ .ready ∧ ((s.printer d).state = .paused ∨ (s.printer d).state = .fault))) : s.movePrinter d c = s := by
  unfold State.movePrinter
  rcases h with ⟨ready, e | e⟩ | ⟨stops, e | e⟩
  · rw [ready, e]
  · rw [ready, e]
  · cases c <;> first | contradiction | rw [e]
  · cases c <;> first | contradiction | rw [e]

/-- What the condition of a STATUS leaves of a printer that is not OFFLINE (R157). -/
theorem State.movePrinter_facts (s : State) (d : Drop) (c : PrinterCondition) (on : (s.printer d).state ≠ .offline) {u : State}
    (hu : s.movePrinter d c = u) :
    (u.printer d).paperLow = (s.printer d).paperLow ∧ u.queue d = s.queue d ∧ u.orders = s.orders ∧ u.hlc = s.hlc ∧ printerFrame d s u ∧
    (c ≠ .ready → (s.printer d).state = .ready ∨ (s.printer d).state = .busy →
      (u.printer d).state = .paused ∧ (u.printer d).retries = (s.printer d).retries) ∧
    (c ≠ .ready → (s.printer d).state = .busy → u.slot d .print = none) ∧
    (c ≠ .ready → (s.printer d).state = .paused ∨ (s.printer d).state = .fault → (u.printer d).state = (s.printer d).state) ∧
    (c = .ready → (s.printer d).state = .paused ∨ (s.printer d).state = .fault →
      (u.printer d).retries = 0 ∧
      (s.queue d = [] → (u.printer d).state = .ready ∧ u.slot d .print = s.slot d .print) ∧
      ∀ i rest, s.queue d = i :: rest → (u.printer d).state = .busy ∧ (u.printer d).headSent = true ∧ u.waits d .print (.print i)) ∧
    (c = .ready → (s.printer d).state = .ready ∨ (s.printer d).state = .busy → (u.printer d).state = (s.printer d).state) := by
  have active : (s.printer d).state = .ready ∨ (s.printer d).state = .busy ∨ (s.printer d).state = .paused ∨
      (s.printer d).state = .fault := by
    cases e : (s.printer d).state <;> simp_all
  have printer := s.setPrinter_printer_same d { s.printer d with state := .paused }
  have frame := s.setPrinter_printerFrame d { s.printer d with state := .paused }
  by_cases ready : c = .ready
  · by_cases out : (s.printer d).state = .paused ∨ (s.printer d).state = .fault
    · rw [State.movePrinter_again ready out] at hu
      obtain ⟨queue, retries, paper, empty, feeds, orders, hlc, uframe⟩ := s.printerReady_facts d hu
      refine ⟨paper, queue, orders, hlc, uframe, fun no => absurd ready no, fun no => absurd ready no, fun no => absurd ready no,
        fun _ _ => ⟨retries, empty, feeds⟩, fun _ runs => ?_⟩
      rcases out with e | e <;> rw [e] at runs <;> rcases runs with h | h <;> cases h
    · have runs : (s.printer d).state = .ready ∨ (s.printer d).state = .busy := by tauto
      rw [State.movePrinter_same (.inl ⟨ready, runs⟩)] at hu
      subst hu
      exact ⟨rfl, rfl, rfl, rfl, .refl d s, fun no => absurd ready no, fun no => absurd ready no, fun no => absurd ready no,
        fun _ h => absurd h out, fun _ _ => rfl⟩
  · have rest : (u.printer d).paperLow = (s.printer d).paperLow ∧ u.queue d = s.queue d ∧ u.orders = s.orders ∧ u.hlc = s.hlc ∧
        printerFrame d s u := by
      rcases active with e | e | e
      · rw [← hu, State.movePrinter_pauses ready e]
        exact ⟨by rw [printer], rfl, rfl, rfl, frame⟩
      · rw [← hu, State.movePrinter_interrupts ready e]
        exact ⟨by rw [State.withdraw_printer, printer], rfl, rfl, rfl, frame.trans (State.withdraw_printerFrame _ d _)⟩
      · rw [← hu, State.movePrinter_same (.inr ⟨ready, e⟩)]
        exact ⟨rfl, rfl, rfl, rfl, .refl d s⟩
    obtain ⟨paper, queue, orders, hlc, uframe⟩ := rest
    refine ⟨paper, queue, orders, hlc, uframe, fun _ runs => ?_, fun _ busy => ?_, fun _ out => ?_, fun h => absurd h ready,
      fun h => absurd h ready⟩
    · rcases runs with e | e
      · rw [← hu, State.movePrinter_pauses ready e, printer]
        exact ⟨rfl, rfl⟩
      · rw [← hu, State.movePrinter_interrupts ready e, State.withdraw_printer, printer]
        exact ⟨rfl, rfl⟩
    · rw [← hu, State.movePrinter_interrupts ready busy]
      exact State.withdraw_slot_same _ d .print
    · rw [← hu, State.movePrinter_same (.inr ⟨ready, out⟩)]

end
/-- Settles O55: each report by the rule of its command, from a kiosk drop. -/
theorem printerReportsMoveTheQueue : Obligations.PrinterReportsMoveTheQueue := by
  unfold Obligations.PrinterReportsMoveTheQueue
  refine ⟨fun d tag r s other => ?_, fun d tag s kiosk => ?_⟩
  · have idle : ∀ {α : Type} (c : Instr) (x : Body α) (act : α → State → State),
        (s.accept c).printerReport d x act = s.accept c := fun c x act => State.printerReport_other other
    exact ⟨congrArg Host.Outcome.next (idle _ (some tag) (State.printed d)), congrArg State.done (idle _ (some tag) (State.failed d)),
      congrArg State.done (idle _ (some r) (State.printerStatus d))⟩
  have acts : ∀ {α : Type} (c : Instr) (x : α) (act : α → State → State),
      (s.accept c).printerReport d (some x) act = act x (s.accept c) := fun c x act => State.printerReport_kiosk kiosk
  have taken : ∀ c, printerFrame d s (s.accept c) := s.accept_printerFrame d
  refine ⟨fun i rest head named sent => ?_, fun h => ?_, fun i rest head named busy => ⟨fun few => ?_, fun many => ?_⟩, fun h => ?_,
    fun off r => ?_, fun on r => ?_⟩
  · obtain ⟨queue, retries, paper, empty, feeds, other, orders, hlc, frame⟩ :=
      State.printed_facts (s := s.accept (.printed d (some tag))) (d := d) head named sent rfl
    exact ⟨_, congrArg Host.Outcome.next (acts _ tag (State.printed d)), queue, retries, paper, empty, feeds, other, orders, hlc,
      (taken _).trans frame⟩
  · refine congrArg Host.Outcome.next ((acts _ tag (State.printed d)).trans (if_neg fun ⟨named, sent⟩ => ?_))
    rcases h with h | h | unsent
    · exact State.not_isHead (s := s.accept _) (.inl h) named
    · exact State.not_isHead (s := s.accept _) (.inr h) named
    · exact absurd (unsent.symm.trans sent) nofun
  · obtain ⟨queue, printer, waits, orders, hlc, frame⟩ :=
      State.failed_again (s := s.accept (.failed d (some tag))) (d := d) head named busy few rfl
    exact ⟨_, congrArg State.done (acts _ tag (State.failed d)), queue, printer, waits, orders, hlc, (taken _).trans frame⟩
  · exact congrArg State.done ((acts _ tag (State.failed d)).trans
      (State.failed_fault (s := s.accept (.failed d (some tag))) head named busy many))
  · refine congrArg State.done ((acts _ tag (State.failed d)).trans (if_neg fun ⟨named, busy⟩ => ?_))
    rcases h with h | h | other
    · exact State.not_isHead (s := s.accept _) (.inl h) named
    · exact State.not_isHead (s := s.accept _) (.inr h) named
    · exact other busy
  · exact congrArg State.done ((acts _ r (State.printerStatus d)).trans (if_pos off))
  · set c := Instr.printerStatus d (some r) with hc
    obtain ⟨printer, queue, slot, orders, raised, frame⟩ := (s.accept c).recordPaper_facts d r.paperLow rfl
    have state : (((s.accept c).recordPaper d r.paperLow).printer d).state = (s.printer d).state := by rw [printer]; rfl
    have retries : (((s.accept c).recordPaper d r.paperLow).printer d).retries = (s.printer d).retries := by rw [printer]; rfl
    obtain ⟨paper, queue', orders', hlc, frame', pauses, withdraws, stays, readies, runs⟩ :=
      State.movePrinter_facts ((s.accept c).recordPaper d r.paperLow) d r.condition (state ▸ on) rfl
    have queue : ((s.accept c).recordPaper d r.paperLow).queue d = s.queue d := queue
    have slot : ((s.accept c).recordPaper d r.paperLow).slot d .print = s.slot d .print := slot
    rw [state] at pauses withdraws stays readies runs
    rw [retries] at pauses
    rw [queue, slot] at readies
    refine ⟨_, congrArg State.done ((acts _ r (State.printerStatus d)).trans (if_neg on)), paper.trans (congrArg Printer.paperLow printer),
      queue'.trans queue, orders'.trans orders, ((taken c).trans frame).trans frame', fun low was => ?_, pauses, withdraws, stays, readies,
      runs⟩
    rw [hlc]
    exact raised low was

end Sys2Proof.Machine
end

section
/-! A drop lost, returned or changed in kind at its three owners (R50, R92, R104, R111, R159, R163). -/

namespace Sys2Proof.Machine

/-! ## A drop lost, returned or changed in kind (R50, R92, R104, R111, R159, R163) -/

section
variable {s : State} {d : Drop}

theorem State.losePrinter_facts (s : State) (d : Drop) {u : State} (hu : s.losePrinter d = u) :
    (u.printer d).state = .offline ∧ (u.printer d).paperLow = false ∧ (u.printer d).retries = (s.printer d).retries ∧
    u.queue d = s.queue d ∧ ((s.printer d).state = .busy → u.slot d .print = none) ∧ u.orders = s.orders ∧ u.hlc = s.hlc ∧
    printerFrame d s u := by
  have printer := s.setPrinter_printer_same d { s.printer d with state := .offline, paperLow := false }
  have frame := s.setPrinter_printerFrame d { s.printer d with state := .offline, paperLow := false }
  by_cases busy : (s.printer d).state = .busy
  · have made : (s.setPrinter d { s.printer d with state := .offline, paperLow := false }).withdraw d .print = u :=
      (if_pos busy).symm.trans hu
    rw [← made, State.withdraw_printer, printer]
    exact ⟨rfl, rfl, rfl, rfl, fun _ => State.withdraw_slot_same _ d _, rfl, rfl, frame.trans (State.withdraw_printerFrame _ d _)⟩
  · have made : s.setPrinter d { s.printer d with state := .offline, paperLow := false } = u := (if_neg busy).symm.trans hu
    rw [← made, printer]
    exact ⟨rfl, rfl, rfl, rfl, fun h => absurd h busy, rfl, rfl, frame⟩

theorem State.withdraw_slot (s : State) (d : Drop) {i j : SlotId} (h : j ≠ i) : (s.withdraw d i).slot d j = s.slot d j := by
  unfold State.slot
  rw [State.withdraw_dropRec, if_pos rfl]
  exact vget_vput_ne _ _ (slotIndex_ne h)

/-- The slot of a lost drop is EMPTY, and pushed when it was not (R92). -/
theorem State.loseSlot_facts (s : State) (d : Drop) {u : State} (hu : s.loseSlot d = u) :
    u.reader d = ReaderSlot.reset ∧ u.slot d .reader = none ∧
    ((s.reader d).state ≠ .empty → u.waits d .pushSlot (.slotPush (slotPushOf (u.reader d) .change))) ∧
    ((s.reader d).state = .empty → u.slot d .pushSlot = s.slot d .pushSlot) ∧
    (∀ i, i ≠ .reader → i ≠ .pushSlot → u.slot d i = s.slot d i) ∧ u.session d = s.session d ∧ u.orders = s.orders ∧ u.hlc = s.hlc := by
  set v := (s.setReader d ReaderSlot.reset).withdraw d .reader with hv
  have made : v.pushSlotAfter d (s.reader d).state none = u := hu
  have reader : v.reader d = ReaderSlot.reset := s.setReader_reader_same d _
  have only := v.pushSlotAfter_readerOnly d (s.reader d).state none
  have ureader : u.reader d = ReaderSlot.reset := by rw [← made, State.pushSlotAfter_reader, reader]
  rw [made] at only
  refine ⟨ureader, ?_, fun used => ?_, fun empty => ?_, fun i a b => ?_, only.session, only.orders, only.hlc⟩
  · rw [← made, State.pushSlotAfter_slot _ d _ _ (by decide)]
    exact State.withdraw_slot_same _ d _
  · have waits := v.pushSlotAfter_waits d (before := (s.reader d).state) (by rw [reader]; exact Ne.symm used)
    rw [made, reader] at waits
    rw [ureader]
    exact waits
  · rw [← made, v.pushSlotAfter_same d (by rw [reader]; exact empty.symm)]
    exact State.withdraw_slot _ d (by decide)
  · rw [← made, State.pushSlotAfter_slot _ d _ _ b]
    exact State.withdraw_slot _ d a

/-- The slot of a drop reset or changed in kind is EMPTY, a card under power being sent the off command (R110, R111). -/
theorem State.resetSlot_facts (s : State) (d : Drop) {u : State} (hu : s.resetSlot d = u) :
    u.reader d = ReaderSlot.reset ∧ ((s.reader d).state.powered = true → u.waits d .reader (.reader .off)) ∧
    ((s.reader d).state.powered = false → u.slot d .reader = s.slot d .reader) ∧
    ((s.reader d).state ≠ .empty → u.waits d .pushSlot (.slotPush (slotPushOf (u.reader d) .change))) ∧
    ((s.reader d).state = .empty → u.slot d .pushSlot = s.slot d .pushSlot) ∧ readerOnly d s u := by
  set t := s.setReader d ReaderSlot.reset with ht
  set v := if (s.reader d).state.powered then t.place d .reader (.reader .off) else t with hv
  have made : v.pushSlotAfter d (s.reader d).state none = u := hu
  have reader : v.reader d = ReaderSlot.reset := by
    have same : v.reader d = t.reader d := by rw [hv]; split <;> rfl
    rw [same]
    exact s.setReader_reader_same d _
  have ureader : u.reader d = ReaderSlot.reset := by rw [← made, State.pushSlotAfter_reader, reader]
  have slots : u.slot d .reader = v.slot d .reader := by rw [← made, State.pushSlotAfter_slot _ d _ _ (by decide)]
  have push : v.slot d .pushSlot = s.slot d .pushSlot := by
    rw [hv]
    split
    · exact (State.place_slot _ d _ _ _).trans (if_neg (by decide))
    · rfl
  have vonly : readerOnly d s v := by
    rw [hv]
    exact .ite (fun _ => (s.setReader_readerOnly d _).trans (t.place_readerOnly d _ (.inr rfl))) fun _ => s.setReader_readerOnly d _
  refine ⟨ureader, fun on => ?_, fun off => ?_, fun used => ?_, fun empty => ?_,
    made ▸ vonly.trans (v.pushSlotAfter_readerOnly d _ _)⟩
  · rw [State.waits, slots, hv, if_pos on]
    exact State.place_slot_same _ d _ _
  · rw [slots, hv, if_neg (by rw [off]; nofun)]
    rfl
  · have waits := v.pushSlotAfter_waits d (before := (s.reader d).state) (by rw [reader]; exact Ne.symm used)
    rw [made, reader] at waits
    rw [ureader]
    exact waits
  · rw [← made, v.pushSlotAfter_same d (by rw [reader]; exact empty.symm)]
    exact push

/-- What a lost drop leaves of its session (R104). -/
theorem State.loseSession_facts (s : State) (d : Drop) {u : State} (hu : s.loseSession d = u) :
    ((s.session d).state = .reserving ∨ (s.session d).state = .cardWait ∨ (s.session d).state = .cardRead →
      u.session d = (s.session d).ended ∧
      u.orders = s.orders ++ s.allReturns d ++ [.unfreeze d (s.session d).serial .cancelled] ∧
      u.waits d .pushTender (.tenderPush (endedPush (s.session d) .cancelled)) ∧
      u.hlc = { s.hlc with conditions := s.hlc.conditions.put (.auth d) false }) ∧
    ((s.session d).state = .reserving → u.waits d .reply (.reply
      { code := .cancelled, serial := some (s.basket d).serial, basket := some (basketRecord (s.basket d) s.fau.generation)
        detail := .none })) ∧
    ((s.session d).state ≠ .reserving → u.slot d .reply = s.slot d .reply) ∧
    ((s.session d).state = .idle ∨ (s.session d).state = .authPending ∨ (s.session d).state = .committing → u = s) ∧
    ((u.reader d).state = .empty ↔ (s.reader d).state = .empty) ∧
    ((s.reader d).state = .empty → u.slot d .pushSlot = s.slot d .pushSlot) := by
  have ends : ∀ t : State, t.session d = s.session d → t.orders = s.orders → t.hlc = s.hlc → t.reader d = s.reader d →
      (∀ i, i ≠ .reply → t.slot d i = s.slot d i) → t.cancelSession d = u →
      (u.session d = (s.session d).ended ∧
        u.orders = s.orders ++ s.allReturns d ++ [.unfreeze d (s.session d).serial .cancelled] ∧
        u.waits d .pushTender (.tenderPush (endedPush (s.session d) .cancelled)) ∧
        u.hlc = { s.hlc with conditions := s.hlc.conditions.put (.auth d) false }) ∧ u.slot d .reply = t.slot d .reply ∧
      ((u.reader d).state = .empty ↔ (s.reader d).state = .empty) ∧
      ((s.reader d).state = .empty → u.slot d .pushSlot = s.slot d .pushSlot) := by
    intro t session orders hlc reader slots made
    obtain ⟨a, b, c, ready, other, e, rest⟩ := t.endSession_facts d .cancelled _ _ made
    have returns : t.allReturns d = s.allReturns d := by unfold State.allReturns; rw [session]
    have order : t.unfreezeOrder d .cancelled = [.unfreeze d (s.session d).serial .cancelled] := by
      unfold State.unfreezeOrder; rw [session]
    rw [session] at a c
    rw [returns, order, orders, ← List.append_assoc] at b
    rw [hlc] at e
    rw [reader] at ready other
    refine ⟨⟨a, b, c, e⟩, rest _ (by decide) (by decide) (by decide), ?_, fun empty => ?_⟩
    · by_cases h : (s.reader d).state = .ready
      · rw [(ready h).1, h]
        exact iff_of_false nofun nofun
      · rw [(other h).1]
    · exact ((other (by rw [empty]; nofun)).2.2).trans (slots _ (by decide))
  by_cases reserving : (s.session d).state = .reserving
  · have made : (s.basketReply d .cancelled .none).cancelSession d = u := by rw [← hu, State.loseSession, reserving]
    obtain ⟨over', reply, empty, push⟩ := ends (s.basketReply d .cancelled .none) rfl rfl rfl rfl (fun i h => s.replyDrop_slot d _ h) made
    refine ⟨fun _ => over', fun _ => reply.trans (State.place_slot_same _ d _ _), fun h => absurd reserving h, fun h => ?_, empty, push⟩
    rw [reserving] at h
    rcases h with h | h | h <;> cases h
  · by_cases waits : (s.session d).state = .cardWait ∨ (s.session d).state = .cardRead
    · have made : s.cancelSession d = u := by rw [← hu, State.loseSession]; rcases waits with e | e <;> rw [e]
      obtain ⟨over', reply, empty, push⟩ := ends s rfl rfl rfl rfl (fun _ _ => rfl) made
      refine ⟨fun _ => over', fun h => absurd h reserving, fun _ => reply, fun h => ?_, empty, push⟩
      rcases waits with e | e <;> rw [e] at h <;> rcases h with h | h | h <;> cases h
    · have same : u = s := by
        rw [← hu, State.loseSession]
        cases e : (s.session d).state <;> simp [e] at reserving waits ⊢
      rw [same]
      exact ⟨fun h => absurd h (by tauto), fun h => absurd h reserving, fun _ => rfl, fun _ => rfl, Iff.rfl, fun _ => rfl⟩

end
/-- What the loss of a kiosk drop leaves at the TDU (R92, R98, R99, R104). -/
theorem State.dropLost_facts (s : State) (d : Drop) (c : Instr) {u : State} (hu : ((s.accept c).loseSession d).loseSlot d = u) :
    u.reader d = ReaderSlot.reset ∧ u.slot d .reader = none ∧
    ((s.reader d).state ≠ .empty → u.waits d .pushSlot (.slotPush (slotPushOf (u.reader d) .change))) ∧
    ((s.reader d).state = .empty → u.slot d .pushSlot = s.slot d .pushSlot) ∧
    ((s.session d).state = .reserving ∨ (s.session d).state = .cardWait ∨ (s.session d).state = .cardRead →
      u.session d = (s.session d).ended ∧
      u.orders = s.orders.erase c ++ s.allReturns d ++ [.unfreeze d (s.session d).serial .cancelled] ∧
      u.waits d .pushTender (.tenderPush (endedPush (s.session d) .cancelled)) ∧
      u.hlc = { s.hlc with conditions := s.hlc.conditions.put (.auth d) false }) ∧
    ((s.session d).state = .reserving → replied d .cancelled .none u) ∧
    ((s.session d).state ≠ .reserving → u.slot d .reply = s.slot d .reply) ∧
    ((s.session d).state = .idle ∨ (s.session d).state = .authPending ∨ (s.session d).state = .committing →
      u.session d = s.session d ∧ u.orders = s.orders.erase c ∧ u.slot d .pushTender = s.slot d .pushTender ∧ u.hlc = s.hlc) ∧
    sessionFrame d s u := by
  obtain ⟨ends, reply, noReply, same, empty, push⟩ := (s.accept c).loseSession_facts d rfl
  have vframe := (s.accept c).loseSession_frame d
  set v := (s.accept c).loseSession d
  obtain ⟨reader, off, used, unused, slots, session, orders, hlc⟩ := v.loseSlot_facts d hu
  have frame : sessionFrame d s u := ((s.accept_frame d c).trans vframe).trans (hu ▸ v.loseSlot_frame d)
  refine ⟨reader, off, fun h => used (mt empty.1 h), fun h => (unused (empty.2 h)).trans (push h), fun h => ?_, fun h => ?_, fun h => ?_,
    fun h => ?_, frame⟩
  · obtain ⟨a, b, e, f⟩ := ends h
    exact ⟨session.trans a, orders.trans b, (slots _ (by decide) (by decide)).trans e, hlc.trans f⟩
  · obtain ⟨-, -, -, kept⟩ := frame
    have basket : u.basket d = s.basket d := congrArg (fun x : Sbu => vget x.baskets d) (kept .sbu (by decide))
    have fau : u.fau = s.fau := kept .fau (by decide)
    unfold replied
    rw [basket, fau]
    exact (slots _ (by decide) (by decide)).trans (reply h)
  · exact (slots _ (by decide) (by decide)).trans (noReply h)
  · have e := same h
    rw [e] at session orders hlc slots
    exact ⟨session, orders, slots _ (by decide) (by decide), hlc⟩

/-- Settles O45: each event by the rule of its owner. -/
theorem dropEventsReachTheOwners : Obligations.DropEventsReachTheOwners := by
  unfold Obligations.DropEventsReachTheOwners
  intro d k s
  refine ⟨fun kiosk => ?_, fun other => ?_, ?_, ?_⟩
  · have is : ∀ c, (s.accept c).isKiosk d = true := fun c => ((s.accept c).isKiosk_iff d).2 kiosk
    refine ⟨?_, congrArg Host.Outcome.next (if_pos (is _)), ?_, ?_, ?_⟩
    · set c := Instr.dropOnlineSbu d
      have as := ((s.accept c).pushBasket_pushedAs d .resync).of_accept
      exact ⟨(s.accept c).pushBasket d .resync, congrArg State.done (if_pos (is c)), State.pushBasket_pushed _ d _, as.fresh, as.stale,
        State.pushBasket_orders _ d _, (s.accept_basketFrame d c).trans (State.pushBasket_basketFrame _ d _)⟩
    · obtain ⟨queue, retries, -, empty, feeds, orders, hlc, frame⟩ := (s.accept (.dropOnlinePru d)).printerReady_facts d rfl
      refine ⟨_, congrArg Host.Outcome.next (if_pos (is _)), queue, retries, fun none => (empty none).1, fun i rest head => ?_, orders, hlc,
        (s.accept_printerFrame d _).trans frame⟩
      obtain ⟨busy, -, waits⟩ := feeds i rest head
      exact ⟨busy, waits⟩
    · obtain ⟨state, paper, retries, queue, withdrawn, orders, hlc, frame⟩ := (s.accept (.dropOfflinePru d)).losePrinter_facts d rfl
      exact ⟨_, congrArg Host.Outcome.next (if_pos (is _)), state, paper, retries, queue, withdrawn, orders, hlc,
        (s.accept_printerFrame d _).trans frame⟩
    · exact ⟨_, congrArg State.done (if_pos (is _)), s.dropLost_facts d (.dropOfflineTdu d) rfl⟩
  · have no : ∀ c, ¬(s.accept c).isKiosk d = true := fun c => mt ((s.accept c).isKiosk_iff d).1 other
    exact ⟨congrArg State.done (if_neg (no _)), congrArg Host.Outcome.next (if_neg (no _)), congrArg Host.Outcome.next (if_neg (no _)),
      congrArg Host.Outcome.next (if_neg (no _)), congrArg State.done (if_neg (no _))⟩
  · set c := Instr.dropKindChangeTdu d k with hc
    obtain ⟨reader, off, -, used, unused, only⟩ := (s.accept c).resetSlot_facts d rfl
    have frame : sessionFrame d s ((s.accept c).resetSlot d) := (s.accept_frame d c).trans only.frame
    by_cases becomes : k = .kiosk
    · refine ⟨_, congrArg Host.Outcome.next (if_pos becomes), reader, ?_, off, used, unused, only.orders, only.hlc,
        frame.trans (State.setSession_frame _ d _)⟩
      rw [State.setSession_session_same, if_pos becomes, only.session]
      rfl
    · refine ⟨_, congrArg Host.Outcome.next (if_neg becomes), reader, ?_, off, used, unused, only.orders, only.hlc, frame⟩
      rw [if_neg becomes, only.session]
      rfl
  · set t := s.accept (.dropKindChangePru d k)
    exact ⟨t.resetPrinter d, rfl, t.setPrinter_printer_same d _, rfl, State.withdraw_slot_same _ d _, rfl, rfl,
      ((s.accept_printerFrame d _).trans (t.setPrinter_printerFrame d _)).trans (State.withdraw_printerFrame _ d _)⟩

end Sys2Proof.Machine
end

section
/-! The need test and COUNTER_BASE (R124, R129). -/

namespace Sys2Proof.Machine

/-! ## The need test (R124) -/

section
variable {j : Jnu} {a b : Nat} {w : Marks}

theorem Jnu.need_absent (absent : j.store.mode = .absent) : j.need = none := by
  unfold Jnu.need
  rw [absent]

theorem Jnu.need_of_counters (sale : j.saleCounter = some a) (voucher : j.store.voucherCounter = some b)
    (present : j.store.mode ≠ .absent) : j.need = match j.store.written with
      | none => some (marksAhead a b)
      | some w => if (w.sale - a ≤ 64 ∨ w.voucher - b ≤ 64) ∧ marksAhead a b ≠ w then some (marksAhead a b) else none := by
  unfold Jnu.need
  rw [sale, voucher]
  cases e : j.store.mode with
  | absent => exact absurd e present
  | guarding => rfl
  | seeding => rfl

theorem Jnu.need_first (sale : j.saleCounter = some a) (voucher : j.store.voucherCounter = some b)
    (present : j.store.mode ≠ .absent) (written : j.store.written = none) : j.need = some (marksAhead a b) := by
  rw [Jnu.need_of_counters sale voucher present, written]

theorem Jnu.need_near (sale : j.saleCounter = some a) (voucher : j.store.voucherCounter = some b)
    (present : j.store.mode ≠ .absent) (written : j.store.written = some w) (near : w.sale - a ≤ 64 ∨ w.voucher - b ≤ 64)
    (moves : marksAhead a b ≠ w) : j.need = some (marksAhead a b) := by
  rw [Jnu.need_of_counters sale voucher present, written]
  exact if_pos ⟨near, moves⟩

theorem Jnu.need_none (sale : j.saleCounter = some a) (voucher : j.store.voucherCounter = some b) (written : j.store.written = some w)
    (calm : marksAhead a b = w ∨ (64 < w.sale - a ∧ 64 < w.voucher - b)) : j.need = none := by
  by_cases absent : j.store.mode = .absent
  · exact Jnu.need_absent absent
  · rw [Jnu.need_of_counters sale voucher absent, written]
    refine if_neg fun ⟨near, moves⟩ => ?_
    obtain ⟨far, far'⟩ := calm.resolve_left moves
    exact near.elim (not_le.2 far) (not_le.2 far')

theorem Jnu.needTest_writes {m : Marks} (need : j.need = some m) (idle : j.store.op = .idle) :
    j.needTest = { j with store := j.store.beginWrite m } := by
  unfold Jnu.needTest
  rw [need, idle]

theorem Jnu.needTest_notes {m : Marks} (need : j.need = some m) (writing : j.store.op = .writing) :
    j.needTest = { j with store := { j.store with pendingNeed := true } } := by
  unfold Jnu.needTest
  rw [need, writing]

theorem Jnu.needTest_same (h : j.need = none ∨ j.store.op = .reading ∨ j.store.op = .retryWait) : j.needTest = j := by
  unfold Jnu.needTest
  rcases h with h | h | h <;> rw [h]
  · cases j.need <;> rfl
  · cases j.need <;> rfl

/-- The need test changes the store controller alone, and of it neither the mode, the marks nor the counter. -/
theorem Jnu.needTest_kept (j : Jnu) : j.needTest.store.mode = j.store.mode ∧ j.needTest.store.written = j.store.written ∧
    j.needTest.store.voucherCounter = j.store.voucherCounter := by
  unfold Jnu.needTest
  split <;> exact ⟨rfl, rfl, rfl⟩

end

/-! ## COUNTER_BASE (R129) -/

section
variable {s : State} {h : HostTag} {r : CounterBaseReq}

theorem exec_counterBase {u : State} (open' : s.hlc.partState = .ready ∨ s.hlc.partState = .needCounters)
    (e : State.counterBase h r (s.accept (.counterBase h (some r))) = u) : exec (.counterBase h (some r)) s = .next u.transmit := by
  refine (State.serveWith_act (s.accept (.counterBase h (some r))) h .none (State.counterBase h) r ?_).trans (congrArg State.done e)
  rcases open' with e | e <;> simp [readyOrNeed, e]

theorem State.counterBase_bad (bad : r.sale = 0 ∨ 4294967295 < r.sale ∨ r.voucher = 0 ∨ 99999999 < r.voucher) :
    State.counterBase h r s = s.replyHost h .badValue .none := if_neg (by omega)

end

/-- Settles O49: the need test by what is needed and what the controller does; the report and the base make it. -/
theorem countersAskForWrites : Obligations.CountersAskForWrites := by
  unfold Obligations.CountersAskForWrites
  refine ⟨fun j a b w sale voucher written present => ⟨fun near moves => ⟨?_, ?_⟩, fun same => ?_, fun far far' => ?_⟩,
    fun j a b sale voucher written present => ⟨?_, ?_⟩, fun j h => ?_, fun n s => rfl, fun h r s => ⟨?_, ?_, ?_⟩⟩
  · exact Jnu.needTest_writes (Jnu.need_near sale voucher present written near moves)
  · exact Jnu.needTest_notes (Jnu.need_near sale voucher present written near moves)
  · exact Jnu.needTest_same (.inl (Jnu.need_none sale voucher written (.inl same)))
  · exact Jnu.needTest_same (.inl (Jnu.need_none sale voucher written (.inr ⟨far, far'⟩)))
  · exact Jnu.needTest_writes (Jnu.need_first sale voucher present written)
  · exact Jnu.needTest_notes (Jnu.need_first sale voucher present written)
  · exact Jnu.needTest_same (h.imp_left Jnu.need_absent)
  · intro needs low high vlow vhigh
    set c := Instr.counterBase h (some r)
    set based : Jnu := { s.jnu with saleCounter := some r.sale, store := { s.jnu.store with voucherCounter := some r.voucher } } with hb
    obtain ⟨mode, marks, counter⟩ := based.needTest_kept
    have act : State.counterBase h r (s.accept c) =
        ((((s.accept c).setJnu based.needTest).send [.voucherBaseSet r.voucher]).enterPart .ready).replyHost h .ok .none :=
      (if_pos ⟨low, high, vlow, vhigh⟩).trans (if_pos needs)
    refine ⟨_, exec_counterBase (.inr needs) act, rfl, ⟨rfl, fun absent => ?_⟩, based.needTest_saleCounter, counter,
      based.needTest_journal, based.needTest_reservations, rfl, fun seeding idle none => ?_, ?_⟩
    · exact Jnu.needTest_same (.inl (Jnu.need_absent absent))
    · have writes := Jnu.needTest_writes (j := based)
        (Jnu.need_first rfl rfl (fun absent => absurd (seeding.symm.trans absent) nofun) none) idle
      exact ⟨congrArg (fun j : Jnu => j.store.op) writes, congrArg (fun j : Jnu => j.store.writing) writes⟩
    · exact (((s.accept_kept c (by decide)).trans (State.setJnu_kept _ _ (by decide))).trans (State.send_kept _ _ (by decide))).trans
        (State.enterPart_kept _ _ (by decide))
  · intro ready low high vlow vhigh
    exact exec_counterBase (.inl ready) ((if_pos ⟨low, high, vlow, vhigh⟩).trans (if_neg (by rw [State.accept_hlc, ready]; nofun)))
  · intro started bad
    have open' : s.hlc.partState = .ready ∨ s.hlc.partState = .needCounters := by
      cases e : s.hlc.partState <;> simp [e] at started ⊢
    exact exec_counterBase open' (State.counterBase_bad bad)

end Sys2Proof.Machine
end

section
/-! Journal grants, and the tries of the store (R114, R123 to R126). -/

namespace Sys2Proof.Machine

/-! ## Journal grants (R114, R126) -/

section
variable {s : State} {d : Drop} {ref n : Nat}

theorem Jnu.forbids_of_mark {j : Jnu} (guarding : j.store.mode = .guarding) (mark : ∀ w, j.store.written = some w → w.sale ≤ n) :
    j.forbids n = true := by
  unfold Jnu.forbids
  rw [guarding]
  cases e : j.store.written with
  | none => rfl
  | some w => simpa using mark w e

theorem Jnu.not_forbids {j : Jnu} (h : j.store.mode ≠ .guarding ∨ ∃ w, j.store.written = some w ∧ n < w.sale) :
    ¬j.forbids n = true := by
  unfold Jnu.forbids
  rcases h with other | ⟨w, written, below⟩
  · cases e : j.store.mode with
    | guarding => exact absurd e other
    | seeding => nofun
    | absent => nofun
  · rw [written]
    cases j.store.mode with
    | guarding => simpa using below
    | seeding => nofun
    | absent => nofun

theorem State.journalGrant_full (full : 64 ≤ s.jnu.places) :
    s.journalGrant d ref = s.send [.reservationRefusal d ref .journal .journalFull] := if_pos full

theorem State.journalGrant_none (room : s.jnu.places < 64) (counter : s.jnu.saleCounter = none) : s.journalGrant d ref = s := by
  unfold State.journalGrant
  rw [if_neg (not_le.2 room), counter]

theorem State.journalGrant_counter (room : s.jnu.places < 64) (counter : s.jnu.saleCounter = some n) :
    s.journalGrant d ref =
      if 4294967296 ≤ n then s.send [.reservationRefusal d ref .journal .counterEnd]
      else if s.jnu.forbids n then s.send [.reservationRefusal d ref .journal .counterLimit]
      else (s.setJnu (s.jnu.grant n)).send [.reservationGrant d ref (.journal n)] := by
  unfold State.journalGrant
  rw [if_neg (not_le.2 room), counter]

end

/-- Settles O46: a grant by the order of its checks, its need test by the rules of the store. -/
theorem journalGrantsSaleNumbers : Obligations.JournalGrantsSaleNumbers := by
  unfold Obligations.JournalGrantsSaleNumbers
  refine ⟨fun d ref s => ?_, fun sale s => ⟨_, rfl, rfl, rfl, (s.accept_kept _ (by decide)).trans (State.setJnu_kept _ _ (by decide))⟩⟩
  set c := Instr.journalGrantRequest d ref
  refine ⟨fun full => congrArg Host.Outcome.next (State.journalGrant_full (s := s.accept c) full),
    fun room counter => congrArg Host.Outcome.next (State.journalGrant_none (s := s.accept c) room counter),
    fun room n counter => ⟨fun ended => ?_, fun left guarding mark => ?_, fun left free => ?_⟩⟩
  · exact congrArg Host.Outcome.next ((State.journalGrant_counter (s := s.accept c) room counter).trans (if_pos ended))
  · exact congrArg Host.Outcome.next ((State.journalGrant_counter (s := s.accept c) room counter).trans
      ((if_neg (not_le.2 left)).trans (if_pos (Jnu.forbids_of_mark (j := s.jnu) guarding mark))))
  · set granted : Jnu := { s.jnu with reservations := s.jnu.reservations ++ [n], saleCounter := some (n + 1) } with hg
    obtain ⟨mode, marks, -⟩ := granted.needTest_kept
    refine ⟨((s.accept c).setJnu granted.needTest).send [.reservationGrant d ref (.journal n)],
      congrArg Host.Outcome.next ((State.journalGrant_counter (s := s.accept c) room counter).trans
        ((if_neg (not_le.2 left)).trans (if_neg (Jnu.not_forbids (j := s.jnu) free)))), rfl, rfl, granted.needTest_reservations,
      granted.needTest_saleCounter, fun b w voucher written present near moves => ⟨fun idle => ?_, fun writing => ?_⟩,
      fun b w voucher written far far' => ?_, granted.needTest_journal, mode, marks,
      ((s.accept_kept c (by decide)).trans (State.setJnu_kept _ _ (by decide))).trans (State.send_kept _ _ (by decide))⟩
    · have writes := Jnu.needTest_writes (j := granted) (Jnu.need_near rfl voucher present written near moves) idle
      exact ⟨congrArg (fun j : Jnu => j.store.op) writes, congrArg (fun j : Jnu => j.store.writing) writes,
        congrArg (fun j : Jnu => j.store.bus) writes⟩
    · exact congrArg Jnu.store (Jnu.needTest_notes (j := granted) (Jnu.need_near rfl voucher present written near moves) writing)
    · have same : granted.needTest = granted := Jnu.needTest_same (.inl (Jnu.need_none rfl voucher written (.inr ⟨far, far'⟩)))
      exact (congrArg Jnu.store same : granted.needTest.store = granted.store)

/-! ## The tries of the store (R123 to R125) -/

section
variable {s : State}

theorem Store.lastTry_iff {st : Store} {n : Nat} (tries : st.tries = some n) : st.lastTry = true ↔ 3 ≤ n := by
  simp [Store.lastTry, tries]

theorem State.storeAgain_eq {n : Nat} (tries : s.jnu.store.tries = some n) :
    s.storeAgain = s.setJnu { s.jnu with store := { s.jnu.store with tries := some (n + 1) } } := by
  rw [State.storeAgain, tries]; rfl

theorem State.endLoad_facts (s : State) : s.endLoad.jnu = s.jnu ∧ s.endLoad.orders = s.orders ∧
    s.endLoad.hlc = { s.hlc with partState := if s.hlc.partState = .starting then .ready else s.hlc.partState } ∧
    keptBut [.hlc] s s.endLoad := by
  unfold State.endLoad
  split
  · exact ⟨rfl, rfl, rfl, s.enterPart_kept _ (by decide)⟩
  · exact ⟨rfl, rfl, rfl, .refl _ s⟩

theorem State.storeReadTryEnd_good {a : Option (List Byte)} {m : Marks} (reading : s.jnu.store.op = .reading)
    (good : a.bind readMarks = some m) : s.storeReadTryEnd a = s.storeRead m := by
  rw [State.storeReadTryEnd, if_pos reading, good]

theorem State.storeReadTryEnd_bad {a : Option (List Byte)} (reading : s.jnu.store.op = .reading) (bad : a.bind readMarks = none) :
    s.storeReadTryEnd a = if s.jnu.store.lastTry then s.storeReadFailed else s.storeAgain := by
  rw [State.storeReadTryEnd, if_pos reading, bad]

theorem State.storeWriteTryEnd_writing {k : Nat} {m : Marks} (op : s.jnu.store.op = .writing) (writing : s.jnu.store.writing = some m) :
    s.storeWriteTryEnd k =
      if 10 ≤ k then s.storeWritten m else if s.jnu.store.lastTry then s.storeWriteFailed else s.storeAgain := by
  rw [State.storeWriteTryEnd, op, writing]

theorem State.storeWriteTryEnd_idle {k : Nat} (h : s.jnu.store.op ≠ .writing ∨ s.jnu.store.writing = none) :
    s.storeWriteTryEnd k = s := by
  unfold State.storeWriteTryEnd
  split
  · rename_i m op writing
    rcases h with h | h
    · exact absurd op h
    · rw [writing] at h; cases h
  · rfl

/-- What a good read leaves (R123): the counters at the marks, and for a guarded store a write of marks ahead. -/
theorem State.storeRead_facts (s : State) (m : Marks) {u : State} (hu : s.storeRead m = u) :
    u.jnu.saleCounter = some m.sale ∧ u.jnu.store.written = some m ∧ u.orders = s.orders ++ [.voucherCounterStart m.voucher m.voucher] ∧
    u.jnu.journal = s.jnu.journal ∧ u.jnu.reservations = s.jnu.reservations ∧
    (s.jnu.store.mode = .guarding → m.sale ≤ 4294967295 →
      u.jnu.store.op = .writing ∧ u.jnu.store.tries = some 1 ∧ u.hlc = s.hlc ∧
      u.jnu.store.writing = some (marksAhead m.sale m.voucher) ∧
      u.jnu.store.bus = some (.write 0 (storeRecordBytes (marksAhead m.sale m.voucher)))) ∧
    keptBut [.jnu, .hlc, .orders] s u := by
  set j : Jnu := { s.jnu with saleCounter := some m.sale
                              store := { s.jnu.store with op := .idle, tries := none, written := some m
                                                          voucherCounter := some m.voucher, bus := none } } with hj
  obtain ⟨-, marks, -⟩ := j.needTest_kept
  set t := (s.setJnu j.needTest).send [.voucherCounterStart m.voucher m.voucher] with ht
  have made : (if j.needTest.store.op = .idle then t.endLoad else t) = u := hu
  have tkept : keptBut [.jnu, .hlc, .orders] s t := (s.setJnu_kept _ (by decide)).trans (State.send_kept _ _ (by decide))
  have same : u.jnu = j.needTest ∧ u.orders = s.orders ++ [.voucherCounterStart m.voucher m.voucher] ∧
      (j.needTest.store.op ≠ .idle → u = t) ∧ keptBut [.jnu, .hlc, .orders] s u := by
    rw [← made]
    split
    · rename_i idle
      obtain ⟨jnu, orders, -, kept⟩ := t.endLoad_facts
      exact ⟨jnu, orders, fun busy => absurd idle busy, tkept.trans (kept.mono (by decide))⟩
    · exact ⟨rfl, rfl, fun _ => rfl, tkept⟩
  obtain ⟨jnu, orders, waits, kept⟩ := same
  rw [jnu]
  refine ⟨j.needTest_saleCounter, marks, orders, j.needTest_journal, j.needTest_reservations, fun guarding below => ?_, kept⟩
  have moves : marksAhead m.sale m.voucher ≠ m := fun e => by
    have sale := congrArg Marks.sale e
    simp only [marksAhead] at sale
    omega
  have near : m.sale - m.sale ≤ 64 ∨ m.voucher - m.voucher ≤ 64 := .inl (by omega)
  have writes := Jnu.needTest_writes (j := j)
    (Jnu.need_near rfl rfl (fun absent => absurd (guarding.symm.trans absent) nofun) rfl near moves) rfl
  rw [waits (by rw [writes]; nofun), writes]
  exact ⟨rfl, rfl, rfl, rfl, rfl⟩

/-- What a write acknowledged whole leaves (R125). -/
theorem State.storeWritten_facts (s : State) (m : Marks) {u : State} (hu : s.storeWritten m = u) :
    let j := { s.jnu with store := { s.jnu.store with
      op := .idle, written := some m, writing := none, tries := none, pendingNeed := false, bus := none } }
    u.jnu = (if s.jnu.store.pendingNeed = true then j.needTest else j) ∧ u.orders = s.orders ++ [.voucherMarkUpdate m.voucher] ∧
    u.hlc = { s.hlc with partState := if s.hlc.partState = .starting then .ready else s.hlc.partState } ∧
    keptBut [.jnu, .hlc, .orders] s u := by
  intro j
  obtain ⟨jnu, orders, hlc, kept⟩ := ((s.setJnu (if s.jnu.store.pendingNeed then j.needTest else j)).send
    [.voucherMarkUpdate m.voucher]).endLoad_facts
  rw [← hu]
  exact ⟨jnu, orders, hlc, ((s.setJnu_kept _ (by decide)).trans (State.send_kept _ _ (by decide))).trans (kept.mono (by decide))⟩

end

/-- Settles O48: the end of a try by the operation under way and what it brought; the retry by the need. -/
theorem storeReadsAndWrites : Obligations.StoreReadsAndWrites := by
  unfold Obligations.StoreReadsAndWrites
  refine ⟨fun a s => ⟨fun reading => ⟨fun m good => ?_, fun n bad tries left => ?_, fun bad tries => ?_⟩, fun other => ?_⟩,
    ⟨fun k m s op writing => ⟨fun whole => ?_, fun n few tries left => ?_, fun few tries => ?_⟩, fun k s h => ?_, fun s => ?_⟩⟩
  · obtain ⟨sale, marks, orders, journal, reservations, guards, kept⟩ := s.storeRead_facts m rfl
    exact ⟨_, congrArg State.done (State.storeReadTryEnd_good reading good), sale, marks, orders, journal, reservations, guards, kept⟩
  · have again : ¬s.jnu.store.lastTry = true := mt (Store.lastTry_iff tries).1 (not_le.2 left)
    exact congrArg State.done ((State.storeReadTryEnd_bad reading bad).trans ((if_neg again).trans (State.storeAgain_eq tries)))
  · refine ⟨_, congrArg State.done ((State.storeReadTryEnd_bad reading bad).trans (if_pos ((Store.lastTry_iff tries).2 le_rfl))), rfl, rfl, ?_⟩
    exact ((s.setJnu_kept _ (by decide)).trans (State.raise_kept _ _ (by decide))).trans (State.enterPart_kept _ _ (by decide))
  · exact congrArg State.done (if_neg other)
  · obtain ⟨jnu, orders, hlc, kept⟩ := s.storeWritten_facts m rfl
    refine ⟨_, congrArg State.done ((State.storeWriteTryEnd_writing op writing).trans (if_pos whole)), ?_, ?_, ?_, ?_, orders,
      jnu, hlc, kept⟩
    all_goals rw [jnu]
    · split
      · exact (Jnu.needTest_kept _).2.1
      · rfl
    · split
      · exact Jnu.needTest_saleCounter _
      · rfl
    · split
      · exact Jnu.needTest_journal _
      · rfl
    · split
      · exact Jnu.needTest_reservations _
      · rfl
  · have again : ¬s.jnu.store.lastTry = true := mt (Store.lastTry_iff tries).1 (not_le.2 left)
    exact congrArg State.done ((State.storeWriteTryEnd_writing op writing).trans
      ((if_neg (not_le.2 few)).trans ((if_neg again).trans (State.storeAgain_eq tries))))
  · set t := (s.setJnu { s.jnu with store := { s.jnu.store with
      op := .retryWait, writing := none, tries := none, pendingNeed := false, failure := some .writeFailed, bus := none } }).raise .store
      with ht
    obtain ⟨jnu, orders, hlc, kept⟩ := t.endLoad_facts
    refine ⟨t.endLoad, congrArg State.done ((State.storeWriteTryEnd_writing op writing).trans
      ((if_neg (not_le.2 few)).trans (if_pos ((Store.lastTry_iff tries).2 le_rfl)))), jnu, ?_, ?_, ?_⟩
    · rw [hlc]
      change t.hlc.conditions.raised .store = true
      exact State.raise_raised _ _
    · rw [hlc]; rfl
    · exact ((s.setJnu_kept _ (by decide)).trans (State.raise_kept _ _ (by decide))).trans (kept.mono (by decide))
  · exact congrArg State.done (State.storeWriteTryEnd_idle h)
  · refine ⟨_, rfl, rfl, (s.accept_kept _ (by decide)).trans (State.setJnu_kept _ _ (by decide)), fun other => if_neg other,
      fun waits none => ?_, fun m waits need => ?_⟩
    · have retried : s.jnu.retry = { s.jnu with store := { s.jnu.store with op := .idle } } := by
        rw [Jnu.retry, if_pos waits, none]
      exact congrArg (fun j : Jnu => j.store.op) retried
    · have retried : s.jnu.retry = { s.jnu with store := s.jnu.store.beginWrite m } := by
        rw [Jnu.retry, if_pos waits, need]
      exact ⟨congrArg (fun j : Jnu => j.store.op) retried, congrArg (fun j : Jnu => j.store.writing) retried,
        congrArg (fun j : Jnu => j.store.tries) retried, congrArg (fun j : Jnu => j.store.bus) retried⟩

end Sys2Proof.Machine
end

section
/-! Issue orders, line by line (R136, R137). -/

namespace Sys2Proof.Machine

/-! ## An issue order, line by line (R136, R137) -/

section
variable (o : IssueOrder)

theorem Vcu.issueLine_discarded {v : Vcu} {l : IssueLine} (h : (∃ e ∈ v.used, e.serial = l.serial) ∨ 1024 ≤ v.places) :
    v.issueLine o l = v := if_pos (h.imp_left Vcu.find_isSome.2)

theorem Vcu.issueLine_issued {v : Vcu} {l : IssueLine} (fresh : ∀ e ∈ v.used, e.serial ≠ l.serial) (room : v.places < 1024) :
    v.issueLine o l = { v with used := v.used ++ [issuedEntry o l] } := by
  refine if_neg fun h => h.elim (fun found => ?_) (not_le.2 room)
  obtain ⟨e, he, same⟩ := Vcu.find_isSome.1 found
  exact fresh e he same

/-- Lines issued only add entries to the table. -/
theorem Vcu.issueLines_kept (ls : List IssueLine) (v : Vcu) :
    (ls.foldl (Vcu.issueLine o) v).reservations = v.reservations ∧ (ls.foldl (Vcu.issueLine o) v).counter = v.counter ∧
    (ls.foldl (Vcu.issueLine o) v).guardMark = v.guardMark ∧ (ls.foldl (Vcu.issueLine o) v).guardOn = v.guardOn ∧
    (ls.foldl (Vcu.issueLine o) v).retention = v.retention := by
  induction ls generalizing v with
  | nil => exact ⟨rfl, rfl, rfl, rfl, rfl⟩
  | cons l ls ih =>
    obtain ⟨reservations, counter, mark, on, retention⟩ := ih (v.issueLine o l)
    rw [List.foldl_cons, reservations, counter, mark, on, retention]
    obtain h | ⟨-, h⟩ := v.issueLine_used o l <;> rw [h] <;> exact ⟨rfl, rfl, rfl, rfl, rfl⟩

theorem Vcu.issueLines_prefix (ls : List IssueLine) (v : Vcu) : v.used <+: (ls.foldl (Vcu.issueLine o) v).used := by
  induction ls generalizing v with
  | nil => exact List.prefix_rfl
  | cons l ls ih =>
    refine List.IsPrefix.trans ?_ (ih _)
    obtain h | ⟨-, h⟩ := v.issueLine_used o l <;> rw [h]
    exact List.prefix_append _ _

theorem Vcu.mem_issueLines {ls : List IssueLine} {v : Vcu} {e : VoucherEntry} (he : e ∈ (ls.foldl (Vcu.issueLine o) v).used) :
    e ∈ v.used ∨ ∃ l ∈ ls, e = issuedEntry o l := by
  induction ls generalizing v with
  | nil => exact .inl he
  | cons l ls ih =>
    rcases ih he with there | ⟨k, hk, same⟩
    · obtain h | ⟨-, h⟩ := v.issueLine_used o l <;> rw [h] at there
      · exact .inl there
      · rcases List.mem_append.1 there with old | new
        · exact .inl old
        · exact .inr ⟨l, List.mem_cons_self, List.mem_singleton.1 new⟩
    · exact .inr ⟨k, List.mem_cons_of_mem _ hk, same⟩

/-- Lines with fresh serials, each its own, and room for all of them are all issued. -/
theorem Vcu.issueLines_all (ls : List IssueLine) (v : Vcu) (own : (ls.map (·.serial)).Nodup)
    (fresh : ∀ l ∈ ls, ∀ e ∈ v.used, e.serial ≠ l.serial) (room : v.places + ls.length ≤ 1024) :
    (ls.foldl (Vcu.issueLine o) v).used = v.used ++ ls.map (issuedEntry o) := by
  induction ls generalizing v with
  | nil => simp
  | cons l ls ih =>
    obtain ⟨apart, own⟩ := List.nodup_cons.1 own
    rw [List.length_cons] at room
    have issued := Vcu.issueLine_issued o (fresh l List.mem_cons_self) (show v.places < 1024 by omega)
    rw [List.foldl_cons, issued, ih _ own]
    · simp
    · intro k hk e he
      rcases List.mem_append.1 he with old | new
      · exact fresh k (List.mem_cons_of_mem _ hk) e old
      · obtain rfl := List.mem_singleton.1 new
        exact fun same => apart (List.mem_map.2 ⟨k, hk, same.symm⟩)
    · simp only [Vcu.places, List.length_append, List.length_singleton] at room ⊢
      have same : ({ v with used := v.used ++ [issuedEntry o l] } : Vcu).reservedCount = v.reservedCount := rfl
      omega

theorem validUntil_seconds (m : Nat) : siteSeconds (validUntil o m) =
    min (65535 * 86400 + 86399) (m * 60 + match o.screening with
      | some sc => sc.day * 86400 + sc.minute * 60
      | none => siteSeconds o.time) := by
  have last : siteSeconds lastTime = 65535 * 86400 + 86399 := rfl
  unfold validUntil minuteStart
  cases o.screening with
  | none =>
    dsimp only
    rw [last]
    split
    · rw [last]; omega
    · rw [siteSeconds_siteTimeOf]; omega
  | some sc =>
    dsimp only
    rw [last, siteSeconds_siteTimeOf]
    split
    · rw [last]; omega
    · rw [siteSeconds_siteTimeOf]; omega

end

/-- Settles O51: the table after each line is the table before it, or that with the line's entry. -/
theorem issueOrderMakesVouchers : Obligations.IssueOrderMakesVouchers := by
  unfold Obligations.IssueOrderMakesVouchers
  intro o s
  set v := s.vcu.unreserve (firstSerial o) with hv
  have used : v.used = s.vcu.used := rfl
  set table : Nat → Vcu := fun k => (o.lines.take k).foldl (Vcu.issueLine o) v with ht
  have all : s.vcu.issue o = table o.lines.length := by rw [ht]; dsimp only; rw [List.take_length]; rfl
  obtain ⟨reservations, counter, mark, on, retention⟩ := Vcu.issueLines_kept o o.lines v
  have reservations : (s.vcu.issue o).reservations = v.reservations := reservations
  have places : ∀ k, (table k).places = (table k).used.length + (s.vcu.issue o).reservedCount := fun k => by
    have own : (table k).reservations = v.reservations := (Vcu.issueLines_kept o _ v).1
    rw [Vcu.places, Vcu.reservedCount, Vcu.reservedCount, own, reservations]
  have next : ∀ k l, o.lines[k]? = some l → table (k + 1) = (table k).issueLine o l := fun k l hl => by
    rw [ht]
    dsimp only
    rw [List.take_add_one, hl, List.foldl_append]
    rfl
  refine ⟨(s.accept (.issueOrder o)).setVcu (s.vcu.issue o), rfl, counter, mark, on, retention, rfl,
    (s.accept_kept _ (by decide)).trans (State.setVcu_kept _ _ (by decide)), Vcu.issueLines_prefix o o.lines v,
    fun l rest lines => ?_, ⟨fun k => (table k).used, rfl, congrArg Vcu.used all, fun k l hl => ⟨fun h => ?_, fun fresh room => ?_⟩⟩,
    fun e he new => ?_, fun own fresh room => ?_, validUntil_seconds o⟩
  · have first : firstSerial o = l.serial := by rw [firstSerial, lines]
    have named : (s.vcu.issue o).reservations = (s.vcu.unreserve l.serial).reservations := by rw [reservations, hv, first]
    refine ⟨fun xs ys r split before hit => ?_, fun absent => ?_⟩
    · rw [State.setVcu_vcu, named, Vcu.unreserve_of_first split before hit]
    · rw [State.setVcu_vcu, named, Vcu.unreserve_of_absent absent]
  · have discarded := Vcu.issueLine_discarded o (h.imp_right fun full => (places k).symm ▸ full)
    exact congrArg Vcu.used ((next k l hl).trans discarded)
  · have issued := Vcu.issueLine_issued o fresh (show (table k).places < 1024 from (places k).symm ▸ room)
    exact congrArg Vcu.used ((next k l hl).trans issued)
  · exact (Vcu.mem_issueLines o he).resolve_left new
  · refine Vcu.issueLines_all o o.lines v own fresh ?_
    have none : v.places = s.vcu.used.length + (s.vcu.issue o).reservedCount := places 0
    rw [none]
    exact room

end Sys2Proof.Machine
end

section
/-! A drop configured (R165 to R167). -/

namespace Sys2Proof.Machine

/-! ## A drop configured (R165 to R167) -/

section
variable {s : State} {d : Drop}

theorem KioskLine.discardVisit_discards {k : KioskLine} {x : Visit} (visit : (k.discardVisit d).visit = some x) (own : x.drop = d) :
    x.discard = true := by
  obtain ⟨v, -, rfl⟩ := Option.map_eq_some_iff.1 visit
  by_cases same : v.drop = d
  · rw [if_pos same]
  · rw [if_neg same] at own
    exact absurd own same

theorem DropRecord.rekind_state (r : DropRecord) (k : DropKind) (p : ReaderSupply) :
    (r.rekind k p).state = if k = .none then .unused else .probing := by
  cases k <;> rfl

theorem State.dropInUse_iff : s.dropInUse d = true ↔ (s.basket d).state ≠ .idle ∨ (s.session d).state ≠ .idle ∨
    (s.reader d).state.powered = true ∨ s.queue d ≠ [] ∨ ∃ r ∈ s.pru.reservations, r.drop = d := by
  simp [State.dropInUse, or_assoc]

theorem State.raiseIfMoved_facts (s : State) (d : Drop) (before : DropState) {u : State} (hu : s.raiseIfMoved d before = u) :
    ((s.dropRec d).state ≠ before → u.hlc.conditions.raised .dropState = true) ∧ ((s.dropRec d).state = before → u.hlc = s.hlc) ∧
    (∀ e, u.dropRec e = s.dropRec e) ∧ (∀ l, u.line l = s.line l) ∧ u.orders = s.orders ∧ hlcKept s u ∧ keptBut [.hlc] s u := by
  by_cases same : (s.dropRec d).state = before
  · have made : s = u := (if_pos same).symm.trans hu
    subst made
    exact ⟨fun h => absurd same h, fun _ => rfl, fun _ => rfl, fun _ => rfl, rfl, .of_hlc rfl, .refl _ s⟩
  · have made : s.raise .dropState = u := (if_neg same).symm.trans hu
    rw [← made]
    exact ⟨fun _ => State.raise_raised _ _, fun h => absurd h same, fun _ => rfl, fun l => by cases l <;> rfl, rfl, s.raise_hlcKept _,
      s.raise_kept _ (by decide)⟩

/-- A record put anew, the visit to its drop discarded (R166, R177). -/
theorem State.renewDrop_facts (s : State) (d : Drop) (r : DropRecord) {u : State} (hu : (s.setDropRec d r).discardVisit d = u) :
    u.dropRec d = r ∧ (∀ e, e ≠ d → u.dropRec e = s.dropRec e) ∧
    u.line (dropLine d) = (s.line (dropLine d)).discardVisit d ∧ (∀ l, l ≠ dropLine d → u.line l = s.line l) ∧
    u.orders = s.orders ∧ u.hlc = s.hlc ∧ keptBut [.klc] s u := by
  rw [← hu]
  refine ⟨?_, fun e he => ?_, ?_, fun l hl => ?_, ?_, ?_, (s.setDropRec_kept d r (by decide)).trans (State.discardVisit_kept _ d (by decide))⟩
  · rw [State.discardVisit_dropRec, State.setDropRec_dropRec_same]
  · rw [State.discardVisit_dropRec, State.setDropRec_dropRec_ne _ _ _ he]
  · rw [State.discardVisit_line, if_pos rfl, State.setDropRec_line]
  · rw [State.discardVisit_line, if_neg hl, State.setDropRec_line]
  · exact State.setLine_orders _ _ _
  · exact State.setLine_hlc _ _ _

theorem exec_dropConfig {h : HostTag} {r : DropConfigReq} {u : State} (started : s.hlc.partState ≠ .starting)
    (e : State.dropConfig h r (s.accept (.dropConfig h (some r))) = u) : exec (.dropConfig h (some r)) s = .next u.transmit := by
  refine (State.serveWith_act (s.accept (.dropConfig h (some r))) h .none (State.dropConfig h) r ?_).trans (congrArg State.done e)
  simpa [readyOrNeed] using started

theorem State.dropConfig_disabled {h : HostTag} {k : DropKind} {p : ReaderSupply} (off : s.dropEnabled d.val = false) :
    State.dropConfig h { drop := d.val, kind := some k, supply := some p } s = s.replyHost h .badValue .none := by
  unfold State.dropConfig
  rw [dif_pos d.isLt]
  dsimp only
  rw [off]

theorem State.dropConfig_enabled {h : HostTag} {k : DropKind} {p : ReaderSupply} (on : s.dropEnabled d.val = true) :
    State.dropConfig h { drop := d.val, kind := some k, supply := some p } s =
      if k ≠ (s.dropRec d).kind ∧ s.dropInUse d = true then s.replyHost h .inUse .none
      else (s.configure d k p).replyHost h .ok .none := by
  unfold State.dropConfig
  rw [dif_pos d.isLt]
  dsimp only
  rw [on]

end

/-- Settles O57: by the drop's line, its kind and its use. -/
theorem dropConfigSetsTheDrop : Obligations.DropConfigSetsTheDrop := by
  unfold Obligations.DropConfigSetsTheDrop
  intro h d k v s started c
  have acts : ∀ {u : State}, State.dropConfig h { drop := d.val, kind := some k, supply := some v } (s.accept c) = u →
      exec c s = .next u.transmit := fun e => exec_dropConfig started e
  refine ⟨fun high single => acts (State.dropConfig_disabled ?_), fun on => ⟨fun same => ?_, fun changes => ⟨fun used => ?_,
    fun basket session reader queue reservations => ?_⟩⟩⟩
  · have low : ¬d.val < 8 := not_lt.2 high
    simp [State.dropEnabled, low, single]
  · have keeps : ¬(k ≠ ((s.accept c).dropRec d).kind ∧ (s.accept c).dropInUse d = true) := fun h => h.1 same
    exact acts ((State.dropConfig_enabled (s := s.accept c) on).trans ((if_neg keeps).trans
      (congrArg (fun t => State.replyHost t h .ok .none) (if_pos same))))
  · exact acts ((State.dropConfig_enabled (s := s.accept c) on).trans
      (if_pos ⟨changes, (State.dropInUse_iff (s := s.accept c)).2 used⟩))
  · have free : ¬(k ≠ ((s.accept c).dropRec d).kind ∧ (s.accept c).dropInUse d = true) := fun ⟨_, used⟩ => by
      rcases (State.dropInUse_iff (s := s.accept c)).1 used with h | h | h | h | ⟨r, hr, own⟩
      · exact h basket
      · exact h session
      · exact absurd (reader.symm.trans h) nofun
      · exact h queue
      · exact reservations r hr own
    obtain ⟨record, others, line, -, orders, hlc, kept⟩ :=
      (s.accept c).renewDrop_facts d ((s.dropRec d).rekind k v) rfl
    set t := ((s.accept c).setDropRec d ((s.dropRec d).rekind k v)).discardVisit d with ht
    obtain ⟨moved, stays, records, lines, orders', hlc', kept'⟩ :=
      (t.send [.dropKindChangeTdu d k, .dropKindChangePru d k]).raiseIfMoved_facts d (s.dropRec d).state rfl
    set u := (t.send [.dropKindChangeTdu d k, .dropKindChangePru d k]).raiseIfMoved d (s.dropRec d).state with hu
    have configured : (s.accept c).configure d k v = u := if_neg changes
    have made : u.dropRec d = (s.dropRec d).rekind k v := (records d).trans record
    have same : t.hlc = s.hlc := hlc
    have sent : (t.send [.dropKindChangeTdu d k, .dropKindChangePru d k]).dropRec d = u.dropRec d := (records d).symm
    rw [sent] at moved stays
    refine ⟨u, acts ((State.dropConfig_enabled (s := s.accept c) on).trans ((if_neg free).trans
      (congrArg (fun t => State.replyHost t h .ok .none) configured))), ?_, ?_, ?_, ?_, ?_, ?_, ?_, ?_, fun i => ?_, ?_, ?_, moved,
      fun h => (stays h).trans same, ?_, fun e he => (records e).trans (others e he), fun x visit own => ?_, ?_, ?_⟩
    · rw [made]; rfl
    · rw [made]; rfl
    · rw [made]; exact DropRecord.rekind_state _ _ _
    · rw [made]; rfl
    · rw [made]; rfl
    · rw [made]; rfl
    · rw [made]; rfl
    · rw [made]; rfl
    · rw [State.slot, made]; exact vget_replicate _ _
    · rw [made]; rfl
    · rw [made]; rfl
    · rw [orders', State.send_orders, orders]; rfl
    · have visit' : (t.line (dropLine d)).visit = some x := (congrArg KioskLine.visit (lines (dropLine d))).symm.trans visit
      rw [line] at visit'
      exact KioskLine.discardVisit_discards visit' own
    · exact (hlcKept.of_hlc same).trans hlc'
    · exact (((s.accept_kept c (by decide)).trans (kept.mono (by decide))).trans (t.send_kept _ (by decide))).trans (kept'.mono (by decide))

end Sys2Proof.Machine
end

section
/-! Missed visits (R172, R175, R177). -/

namespace Sys2Proof.Machine

/-! ## Missed visits (R172, R175, R177) -/

section
variable {s : State} {l : LineId} {v : Visit}

theorem DropRecord.lost_iff (r : DropRecord) (f : SentFrame) : (r.missed f).lost = true ↔
    2 ≤ r.misses ∧ (r.state = .probing ∨ r.state = .online) := by
  have misses : min 3 (r.misses + 1) = 3 ↔ 2 ≤ r.misses := by omega
  simp [DropRecord.lost, DropRecord.missed, misses]

theorem State.endVisit_line (s : State) (l : LineId) : (s.endVisit l).line l = { s.line l with visit := none } :=
  s.setLine_line_same l _

theorem State.endVisit_line_ne (s : State) {l k : LineId} (h : k ≠ l) : (s.endVisit l).line k = s.line k := s.setLine_line_ne _ h

theorem linesKept.line {t : State} (h : linesKept s t) (k : LineId) : t.line k = s.line k := by
  cases k
  · exact h.1
  · exact h.2

/-- What a missed visit leaves of its drop (R175). -/
theorem State.miss_facts (s : State) (v : Visit) {u : State} (hu : s.miss v = u) :
    linesKept s u ∧
    u.dropRec v.drop = { s.dropRec v.drop with
      state := (u.dropRec v.drop).state, misses := min 3 ((s.dropRec v.drop).misses + 1)
      inDoubt := missDoubt (s.dropRec v.drop) v.sent } ∧
    (2 ≤ (s.dropRec v.drop).misses → (s.dropRec v.drop).state = .probing ∨ (s.dropRec v.drop).state = .online →
      (u.dropRec v.drop).state = .offline ∧ u.hlc.conditions.raised .dropState = true ∧
      u.orders = s.orders ++ [.dropOfflineTdu v.drop, .dropOfflinePru v.drop]) ∧
    ((s.dropRec v.drop).misses < 2 ∨ (s.dropRec v.drop).state = .offline →
      (u.dropRec v.drop).state = (s.dropRec v.drop).state ∧ u.orders = s.orders ∧ u.hlc = s.hlc) ∧
    (∀ e, e ≠ v.drop → u.dropRec e = s.dropRec e) ∧ hlcKept s u ∧ keptBut [.klc, .hlc, .orders] s u := by
  have record := s.miss_dropRec v v.drop
  have others : ∀ e, e ≠ v.drop → u.dropRec e = s.dropRec e := fun e he => by
    rw [← hu, State.miss_dropRec, if_neg he]
  have lines : linesKept s u := hu ▸ s.miss_lines v
  have kept : keptBut [.klc, .hlc, .orders] s u := hu ▸ s.miss_kept v (by decide) (by decide) (by decide)
  rw [if_pos rfl, hu] at record
  set t := s.setDropRec v.drop ((s.dropRec v.drop).missed v.sent) with ht
  have missed : t.dropRec v.drop = (s.dropRec v.drop).missed v.sent := s.setDropRec_dropRec_same _ _
  by_cases lost : ((s.dropRec v.drop).missed v.sent).lost = true
  · have made : t.loseDrop v.drop = u := by
      rw [← hu]
      exact (if_pos (by rw [missed]; exact lost)).symm
    obtain ⟨third, used⟩ := (DropRecord.lost_iff _ _).1 lost
    dsimp only at record
    rw [if_pos lost] at record
    refine ⟨lines, by rw [record]; rfl, fun _ _ => ⟨by rw [record], ?_, by rw [← made]; rfl⟩, fun calm => ?_, others, ?_, kept⟩
    · rw [← made]; exact State.raise_raised _ _
    · rcases calm with few | off
      · exact absurd third (not_le.2 few)
      · rw [off] at used; rcases used with h | h <;> cases h
    · rw [← made]; exact State.raise_hlcKept _ _
  · have made : t = u := by
      rw [← hu]
      exact (if_neg (by rw [missed]; exact lost)).symm
    dsimp only at record
    rw [if_neg lost] at record
    refine ⟨lines, by rw [record]; rfl, fun third used => absurd ((DropRecord.lost_iff _ _).2 ⟨third, used⟩) lost,
      fun _ => ⟨by rw [record]; rfl, by rw [← made]; rfl, by rw [← made]; rfl⟩, others, ?_, kept⟩
    rw [← made]; exact .of_hlc rfl

theorem State.visitMiss_none (none : (s.line l).visit = none) : s.visitMiss l = s := by rw [State.visitMiss, none]

theorem State.goodAnswer_none {a : Answer} (none : (s.line l).visit = none) : s.goodAnswer l a = s := by rw [State.goodAnswer, none]

theorem State.visitMiss_discarded (visit : (s.line l).visit = some v) (discard : v.discard = true) : s.visitMiss l = s.endVisit l := by
  rw [State.visitMiss, visit]
  exact if_pos discard

theorem State.goodAnswer_discarded {a : Answer} (visit : (s.line l).visit = some v) (discard : v.discard = true) :
    s.goodAnswer l a = s.endVisit l := by
  rw [State.goodAnswer, visit]
  exact if_pos discard

theorem State.visitMiss_counts (visit : (s.line l).visit = some v) (counts : v.discard = false) :
    s.visitMiss l = (s.endVisit l).miss v := by
  rw [State.visitMiss, visit]
  exact if_neg (by rw [counts]; nofun)

theorem State.goodAnswer_bad {a : Answer} (visit : (s.line l).visit = some v) (counts : v.discard = false)
    (bad : answerGood v.drop a = false) : s.goodAnswer l a = (s.endVisit l).miss v := by
  rw [State.goodAnswer, visit]
  exact (if_neg (by rw [counts]; nofun)).trans (if_neg (by rw [bad]; nofun))

theorem State.goodAnswer_good {a : Answer} (visit : (s.line l).visit = some v) (counts : v.discard = false)
    (good : answerGood v.drop a = true) : s.goodAnswer l a = (s.endVisit l).takeAnswer v a := by
  rw [State.goodAnswer, visit]
  exact (if_neg (by rw [counts]; nofun)).trans (if_pos good)

end

/-- Settles O60: the end of a visit by whether it counts, and what the miss leaves. -/
theorem missesLoseADrop : Obligations.MissesLoseADrop := by
  unfold Obligations.MissesLoseADrop
  refine ⟨fun l a s none => ⟨congrArg State.done (State.visitMiss_none none), congrArg State.done (State.goodAnswer_none none)⟩,
    fun l v s visit own => ⟨fun discard => ⟨congrArg State.done (State.visitMiss_discarded visit discard),
      fun a => congrArg State.done (State.goodAnswer_discarded visit discard)⟩, fun a counts bad => ?_, fun counts => ?_⟩⟩
  · exact congrArg State.done ((State.goodAnswer_bad visit counts bad).trans (State.visitMiss_counts visit counts).symm)
  · have record : (s.endVisit l).dropRec v.drop = s.dropRec v.drop := s.endVisit_dropRec l v.drop
    have orders : (s.endVisit l).orders = s.orders := State.setLine_orders _ _ _
    have hlc : (s.endVisit l).hlc = s.hlc := State.setLine_hlc _ _ _
    obtain ⟨lines, missed, third, calm, others, kept, frame⟩ := (s.endVisit l).miss_facts v rfl
    set u := (s.endVisit l).miss v
    rw [record] at missed third calm
    rw [orders] at third calm
    rw [hlc] at calm
    have doubt : (u.dropRec v.drop).inDoubt = missDoubt (s.dropRec v.drop) v.sent := by rw [missed]
    refine ⟨u, congrArg State.done (State.visitMiss_counts visit counts), (lines.line l).trans (s.endVisit_line l),
      fun k hk => (lines.line k).trans (s.endVisit_line_ne hk), ?_, ?_, fun i => ?_, fun i t f sent => ?_, fun other => ?_, third, calm,
      fun e he => (others e he).trans (s.endVisit_dropRec l e), (hlcKept.of_hlc hlc).trans kept,
      (State.setLine_kept _ _ _ (by decide)).trans frame⟩
    · rw [doubt]
      exact missed.trans (by rw [missed])
    · rw [missed]
    · rw [State.slot, missed]; rfl
    · rw [doubt, sent]; rfl
    · rw [doubt]
      cases e : v.sent with
      | body i t f => exact absurd e (other i t f)
      | _ => rfl

end Sys2Proof.Machine
end

section
/-! A drop reset in four blocks (R51, R110, R163, R177, R191). -/

namespace Sys2Proof.Machine

/-! ## A drop reset in four blocks (R51, R110, R163, R177, R191) -/

section
variable {s t u : State} {d : Drop}

theorem seatsPut.of_sbu {ls : List BasketLine} {new : SeatState} (h : seatsPut ls new t u) (sbu : t.sbu = s.sbu) :
    seatsPut ls new s u := by
  unfold seatsPut State.screening at h ⊢
  rwa [sbu] at h

theorem State.numbersDistinct.of_sbu (h : s.numbersDistinct) (sbu : t.sbu = s.sbu) : t.numbersDistinct := by
  unfold State.numbersDistinct State.screening at h ⊢
  rwa [sbu]

theorem State.resetRefused_iff : s.resetRefused d = true ↔ (s.session d).state = .authPending ∨ (s.session d).state = .committing := by
  unfold State.resetRefused
  cases e : (s.session d).state <;> simp

/-- What DROP_RESET leaves at the TDU (R92, R98, R110). -/
theorem State.resetTender_facts (s : State) (d : Drop) (hu : s.resetTender d = u) :
    ((s.session d).state = .idle → u.session d = s.session d ∧ u.orders = s.orders ∧ u.slot d .pushTender = s.slot d .pushTender) ∧
    ((s.session d).state ≠ .idle → u.session d = (s.session d).ended ∧ u.orders = s.orders ++ s.allReturns d ∧
      u.waits d .pushTender (.tenderPush (endedPush (s.session d) .cancelled))) ∧
    u.reader d = ReaderSlot.reset ∧ ((s.reader d).state.powered = true → u.waits d .reader (.reader .off)) ∧
    ((s.reader d).state.powered = false → u.slot d .reader = s.slot d .reader) ∧
    ((s.reader d).state ≠ .empty → u.waits d .pushSlot (.slotPush (slotPushOf (u.reader d) .change))) ∧
    ((s.reader d).state = .empty → u.slot d .pushSlot = s.slot d .pushSlot) ∧
    (∀ i, i ≠ .pushTender → i ≠ .pushSlot → i ≠ .reader → u.slot d i = s.slot d i) ∧ u.hlc = s.hlc := by
  set v := s.resetSession d with hv
  obtain ⟨reader, on, off, used, unused, only⟩ := v.resetSlot_facts d hu
  by_cases idle : (s.session d).state = .idle
  · have same : v = s := if_pos idle
    rw [same] at on off used unused only
    exact ⟨fun _ => ⟨only.session, only.orders, only.slots _ (by decide) (by decide)⟩, fun h => absurd idle h, reader, on, off, used, unused,
      fun i _ b c => only.slots i b c, only.hlc⟩
  · have made : (s.send (s.allReturns d)).idleSession d .cancelled = v := (if_neg idle).symm
    obtain ⟨session, push, vreader, vhlc, orders, -⟩ := (s.send (s.allReturns d)).idleSession_facts d .cancelled made
    have slots : ∀ i, i ≠ .pushTender → v.slot d i = s.slot d i := fun i hi => by
      rw [← made]; exact (State.place_slot _ d _ i _).trans (if_neg hi)
    have vreader : v.reader d = s.reader d := vreader
    rw [vreader] at on off used unused
    exact ⟨fun h => absurd h idle, fun _ => ⟨only.session.trans session, only.orders.trans orders,
        (only.slots _ (by decide) (by decide)).trans push⟩, reader, on, fun h => (off h).trans (slots _ (by decide)), used,
      fun h => (unused h).trans (slots _ (by decide)), fun i a b c => (only.slots i b c).trans (slots i a), only.hlc.trans vhlc⟩

/-- What DROP_RESET leaves of a basket in use (R51). -/
theorem State.resetBasket_used (s : State) (d : Drop) (used : (s.basket d).state ≠ .idle) (hu : s.resetBasket d = u) :
    u.basket d = (s.basket d).cleared ∧ pushed d .reset u ∧ (s.numbersDistinct → seatsPut (s.basket d).lines .free s u) ∧
    u.orders = s.orders ++ (if (s.basket d).state = .tender then [Instr.release d (s.basket d).serial] else []) ∧
    (∀ i, i ≠ .pushBasket → u.slot d i = s.slot d i) ∧ basketFrame d s u := by
  set t := s.dropBasket d with ht
  have made : (t.pushBasket d .reset).send (if (s.basket d).state = .tender then [.release d (s.basket d).serial] else []) = u := by
    rw [← hu, State.resetBasket]
    cases e : (s.basket d).state with
    | idle => exact absurd e used
    | opened => exact State.send_nil _
    | tender => rfl
  have basket : t.basket d = (s.basket d).cleared := State.setBasket_basket_same _ _ _
  have calm : (t.basket d).state ≠ .opened ∨ (t.basket d).generation = t.fau.generation := .inl (by rw [basket]; nofun)
  obtain ⟨same, screenings⟩ := State.pushBasket_fresh .reset calm
  have klc : t.klc = s.klc := s.dropBasket_kept (L := [.sbu, .hlc]) d (by decide) (by decide) .klc (by decide)
  have unpriced : t.repriceForPush d = t := if_neg fun ⟨opened, old⟩ => calm.elim (· opened) old
  rw [← made]
  refine ⟨same.trans basket, State.pushBasket_pushed t d _, fun distinct => ?_, ?_, fun i hi => ?_,
    ((s.dropBasket_basketFrame d).trans (State.pushBasket_basketFrame _ d _)).trans (State.send_basketFrame _ d _)⟩
  · exact (State.releaseLines_seatsPut distinct (s.basket d).lines).congr screenings
  · rw [State.send_orders, State.pushBasket_orders]
    exact congrArg (· ++ _) (State.releaseLines_orders s _)
  · rw [State.send_slot]
    unfold State.pushBasket
    rw [unpriced]
    refine ((t.place_slot d _ i _).trans (if_neg hi)).trans ?_
    unfold State.slot State.dropRec
    rw [klc]

/-- What DROP_RESET leaves at the KLC (R177). -/
theorem State.resetDrop_facts (s : State) (d : Drop) (hu : s.resetDrop d = u) :
    u.dropRec d = { s.dropRec d with state := (s.dropRec d).state.probed, misses := 0, outToggle := false, inToggle := none
                                     inDoubt := none, requestOutstanding := false, busyDue := none, holdOff := false } ∧
    (∀ e, e ≠ d → u.dropRec e = s.dropRec e) ∧ u.line (dropLine d) = (s.line (dropLine d)).discardVisit d ∧
    (∀ l, l ≠ dropLine d → u.line l = s.line l) ∧ u.orders = s.orders ∧ hlcKept s u ∧ keptBut [.klc, .hlc] s u := by
  obtain ⟨record, others, line, lines, orders, hlc, kept⟩ :=
    s.renewDrop_facts d { (s.dropRec d).fresh with state := (s.dropRec d).state.probed } rfl
  set t := (s.setDropRec d { (s.dropRec d).fresh with state := (s.dropRec d).state.probed }).discardVisit d
  obtain ⟨-, -, records, lines', orders', hlc', kept'⟩ := t.raiseIfMoved_facts d (s.dropRec d).state hu
  exact ⟨(records d).trans record, fun e he => (records e).trans (others e he), (lines' _).trans line,
    fun l hl => (lines' l).trans (lines l hl),
    orders'.trans orders, (hlcKept.of_hlc hlc).trans hlc', (kept.mono (by decide)).trans (kept'.mono (by decide))⟩

theorem State.dropReset_refused {h : HostTag} (on : s.dropEnabled d.val = true)
    (pending : (s.session d).state = .authPending ∨ (s.session d).state = .committing) :
    State.dropReset h d.val s = s.replyHost h .inTender .none :=
  (dif_pos d.isLt).trans ((if_pos on).trans (if_pos (State.resetRefused_iff.2 pending)))

theorem State.dropReset_acts {h : HostTag} (on : s.dropEnabled d.val = true)
    (open' : ¬((s.session d).state = .authPending ∨ (s.session d).state = .committing)) :
    State.dropReset h d.val s = (s.resetAll d).replyHost h .ok .none :=
  (dif_pos d.isLt).trans ((if_pos on).trans (if_neg (mt State.resetRefused_iff.1 open')))

theorem State.dropReset_disabled {h : HostTag} {n : Nat} (off : s.dropEnabled n = false) :
    State.dropReset h n s = s.replyHost h .badValue .none := by
  unfold State.dropReset
  rw [off]
  split <;> rfl

end
section
variable {s : State} {d : Drop}

theorem slotsKeptBut.linesKept {t : State} (h : slotsKeptBut d s t) : linesKept s t := ⟨h.2.2.1, h.2.2.2⟩

/-- What the PRU, the KLC and the HLC add to a drop reset at the TDU and the SBU (R163, R177, R191). -/
theorem State.resetRest_facts (s : State) (d : Drop) {u : State} (hu : ((s.resetPrinter d).resetDrop d).raise .dropState = u) :
    u.printer d = { s.printer d with state := .offline, paperLow := false, retries := 0 } ∧
    u.pru = { s.pru with printers := u.pru.printers } ∧ printersKeptBut d s u ∧
    u.slot d .print = none ∧ (∀ i, i ≠ .print → u.slot d i = s.slot d i) ∧
    u.dropRec d = { s.dropRec d with state := (s.dropRec d).state.probed, misses := 0, outToggle := false, inToggle := none
                                     inDoubt := none, requestOutstanding := false, busyDue := none, holdOff := false
                                     slots := (u.dropRec d).slots } ∧
    (∀ e, e ≠ d → u.dropRec e = s.dropRec e) ∧ u.line (dropLine d) = (s.line (dropLine d)).discardVisit d ∧
    (∀ l, l ≠ dropLine d → u.line l = s.line l) ∧ u.hlc.conditions.raised .dropState = true ∧ u.orders = s.orders ∧ hlcKept s u ∧
    keptBut [.pru, .klc, .hlc] s u := by
  set v := s.resetPrinter d with hv
  set w := v.resetDrop d with hw
  obtain ⟨record, others, line, lines, orders, kept, frame⟩ := State.resetDrop_facts v d hw.symm
  have vframe : printerFrame d s v := (s.setPrinter_printerFrame d _).trans (State.withdraw_printerFrame _ d _)
  have vkept : keptBut [.pru, .klc] s v := (s.setPrinter_kept d _ (by decide)).trans (State.withdraw_kept _ d _ (by decide))
  have printer : v.printer d = { s.printer d with state := .offline, paperLow := false, retries := 0 } := s.setPrinter_printer_same d _
  have withdrawn : v.slot d .print = none := State.withdraw_slot_same _ d _
  have vslots : ∀ i, i ≠ .print → v.slot d i = s.slot d i := fun i hi => State.withdraw_slot _ d hi
  obtain ⟨printers, ⟨vothers, vrecord, vlines⟩, -⟩ := vframe
  have vline : ∀ l, v.line l = s.line l := fun l => linesKept.line vlines l
  have pru : u.pru = v.pru := by rw [← hu]; exact frame .pru (by decide)
  have urecord : u.dropRec d = w.dropRec d := by rw [← hu]; rfl
  have slots : ∀ i, u.slot d i = v.slot d i := fun i => by
    unfold State.slot
    rw [urecord, record]
  have same : ∀ e, u.printer e = v.printer e ∧ u.queue e = v.queue e := fun e => by
    unfold State.printer State.queue
    rw [pru]
    exact ⟨rfl, rfl⟩
  refine ⟨(same d).1.trans printer, by rw [pru]; rfl, fun e he => ?_, (slots _).trans withdrawn, fun i hi => (slots i).trans (vslots i hi),
    ?_, fun e he => ?_, ?_, fun l hl => ?_, by rw [← hu]; exact State.raise_raised _ _, by rw [← hu]; exact orders, ?_, ?_⟩
  · rw [(same e).1, (same e).2]
    exact printers e he
  · rw [urecord, record, vrecord]
  · rw [← hu]; exact (others e he).trans (vothers e he)
  · rw [← hu, State.raise_line, line, vline]
  · rw [← hu, State.raise_line, lines l hl, vline]
  · rw [← hu]
    exact ((hlcKept.of_hlc (vkept .hlc (by decide))).trans kept).trans (State.raise_hlcKept _ _)
  · rw [← hu]
    exact ((vkept.mono (by decide)).trans (frame.mono (by decide))).trans (State.raise_kept _ _ (by decide))

theorem DropRecord.slots_twice {r t u : DropRecord} (h : t = { r with slots := t.slots })
    (k : u = { t with state := t.state.probed, misses := 0, outToggle := false, inToggle := none, inDoubt := none
                      requestOutstanding := false, busyDue := none, holdOff := false, slots := u.slots }) :
    u = { r with state := r.state.probed, misses := 0, outToggle := false, inToggle := none, inDoubt := none
                 requestOutstanding := false, busyDue := none, holdOff := false, slots := u.slots } := by
  rw [h] at k
  exact k

end

/-- Settles O15: refused, or the four blocks in turn. -/
theorem dropResetActsOnOneDropOrRefuses : Obligations.DropResetActsOnOneDropOrRefuses := by
  unfold Obligations.DropResetActsOnOneDropOrRefuses
  refine ⟨fun h d s ready on => ⟨fun pending => ?_, fun noAuth noCommit => ?_⟩, fun h n s ready off => ?_⟩
  · set c := Instr.dropReset h (some d.val)
    exact State.serve_ready ready (State.dropReset_refused (s := s.accept c) on pending)
  · set c := Instr.dropReset h (some d.val)
    have open' : ¬((s.session d).state = .authPending ∨ (s.session d).state = .committing) := fun h => h.elim noAuth noCommit
    set v := (s.accept c).resetTender d with hv
    set w := v.resetBasket d with hw
    set u := ((w.resetPrinter d).resetDrop d).raise .dropState with hu
    obtain ⟨idles, ends, reader, onOff, offSame, used, unused, vslots, vhlc⟩ := State.resetTender_facts (s.accept c) d hv.symm
    obtain ⟨sessions, readers, vrecords, vkept⟩ : sessionFrame d s v := (s.accept_frame d c).trans (State.resetTender_frame _ d)
    have vsbu : v.sbu = s.sbu := vkept .sbu (by decide)
    have basket : v.basket d = s.basket d := congrArg (fun x : Sbu => vget x.baskets d) vsbu
    have basketStage : w.orders = v.orders ++ (if (s.basket d).state = .tender then [Instr.release d (s.basket d).serial] else []) ∧
        (∀ i, i ≠ .pushBasket → w.slot d i = v.slot d i) ∧ basketFrame d v w ∧
        ((s.basket d).state ≠ .idle → w.basket d = (s.basket d).cleared ∧ pushed d .reset w ∧
          (s.numbersDistinct → seatsPut (s.basket d).lines .free s w)) ∧ ((s.basket d).state = .idle → w = v) := by
      by_cases idle : (s.basket d).state = .idle
      · have same : w = v := by rw [hw, State.resetBasket, basket, idle]
        rw [same]
        refine ⟨?_, fun _ _ => rfl, .refl d v, fun h => absurd idle h, fun _ => rfl⟩
        rw [if_neg (by rw [idle]; nofun), List.append_nil]
      · obtain ⟨cleared, push, seats, orders, slots, frame⟩ := State.resetBasket_used v d (by rw [basket]; exact idle) hw.symm
        rw [basket] at cleared seats orders
        exact ⟨orders, slots, frame, fun _ => ⟨cleared, push, fun distinct => (seats (distinct.of_sbu vsbu)).of_sbu vsbu⟩,
          fun h => absurd h idle⟩
    obtain ⟨worders, wslots, ⟨wbaskets, wrecords, wlayouts, whlc, wkept⟩, resets, stays⟩ := basketStage
    obtain ⟨printer, pru, printers, print, uslots, record, others, line, lines, raised, uorders, uhlc, ukept⟩ :=
      State.resetRest_facts w d hu.symm
    have sbu : u.sbu = w.sbu := ukept .sbu (by decide)
    have fau : u.fau = w.fau := ukept .fau (by decide)
    have tdu : u.tdu = v.tdu := (ukept .tdu (by decide)).trans (wkept .tdu (by decide))
    have session : ∀ e, u.session e = v.session e := fun e => congrArg (fun x : Tdu => vget x.sessions e) tdu
    have ureader : ∀ e, u.reader e = v.reader e := fun e => congrArg (fun x : Tdu => vget x.readers e) tdu
    have ubasket : ∀ e, u.basket e = w.basket e := fun e => congrArg (fun x : Sbu => vget x.baskets e) sbu
    have screening : ∀ j, u.screening j = w.screening j := fun j => congrArg (fun x : Sbu => vget x.screenings j) sbu
    have slot : ∀ i, i ≠ .print → i ≠ .pushBasket → u.slot d i = v.slot d i := fun i a b => (uslots i a).trans (wslots i b)
    have wpru : w.pru = s.pru := (wkept .pru (by decide)).trans (vkept .pru (by decide))
    have orders : u.orders = v.orders ++ (if (s.basket d).state = .tender then [Instr.release d (s.basket d).serial] else []) :=
      uorders.trans worders
    have kept : keptBut [.sbu, .tdu, .pru, .klc, .hlc, .orders] s u :=
      ((vkept.mono (by decide)).trans (wkept.mono (by decide))).trans (ukept.mono (by decide))
    have wprinters : ∀ e, w.printer e = s.printer e ∧ w.queue e = s.queue e := fun e => by
      unfold State.printer State.queue
      rw [wpru]
      exact ⟨rfl, rfl⟩
    refine ⟨u, State.serve_ready ready (State.dropReset_acts (s := s.accept c) on open'),
      ⟨fun idle => ?_, fun live => ?_⟩, ?_, ?_, ?_, (ureader d).trans reader, fun h => ?_, fun h => ?_, fun h => ?_, fun h => ?_,
      fun h => ?_, fun idle => ?_, fun j => ?_, ?_, ?_, print, ?_, ?_, fun e he => ?_, ?_, fun l hl => ?_, raised, ?_, fun e he => ?_,
      fun e he => (session e).trans (sessions e he), fun e he => (ureader e).trans (readers e he), fun e he => ?_, kept⟩
    · obtain ⟨a, b, e⟩ := idles idle
      exact ⟨(session d).trans a, orders.trans (congrArg (· ++ _) b), (slot _ (by decide) (by decide)).trans e⟩
    · obtain ⟨a, b, e⟩ := ends live
      exact ⟨(session d).trans a, orders.trans (congrArg (· ++ _) b), (slot _ (by decide) (by decide)).trans e⟩
    · rw [session]
      by_cases idle : (s.session d).state = .idle
      · rw [(idles idle).1]; exact idle
      · rw [(ends idle).1]; rfl
    iterate 2
      rw [session]
      by_cases idle : (s.session d).state = .idle
      · rw [(idles idle).1]; rfl
      · rw [(ends idle).1]; rfl
    · exact (slot _ (by decide) (by decide)).trans (onOff h)
    · exact (slot _ (by decide) (by decide)).trans (offSame h)
    · rw [ureader]; exact (slot _ (by decide) (by decide)).trans (used h)
    · exact (slot _ (by decide) (by decide)).trans (unused h)
    · obtain ⟨cleared, push, seats⟩ := resets h
      refine ⟨(ubasket d).trans cleared, ?_, fun distinct => (seats distinct).congr screening⟩
      unfold pushed
      rw [ubasket, fau]
      exact (uslots _ (by decide)).trans push
    · have same := stays idle
      rw [same] at ubasket screening
      refine ⟨(ubasket d).trans basket, ?_, fun j => (screening j).trans (congrArg (fun x : Sbu => vget x.screenings j) vsbu)⟩
      rw [uslots _ (by decide), same]
      exact vslots _ (by decide) (by decide) (by decide)
    · exact (congrArg (fun x : Sbu => vget x.layouts j) sbu).trans ((wlayouts j).trans (congrArg (fun x : Sbu => vget x.layouts j) vsbu))
    · rw [printer, (wprinters d).1]
    · rw [pru, wpru]
    · exact (slot _ (by decide) (by decide)).trans (vslots _ (by decide) (by decide) (by decide))
    · exact DropRecord.slots_twice ((vrecords.trans wrecords).2.1) record
    · exact (others e he).trans ((vrecords.trans wrecords).1 e he)
    · rw [line, (vrecords.trans wrecords).linesKept.line]; rfl
    · rw [lines l hl, (vrecords.trans wrecords).linesKept.line]
    · exact ((hlcKept.of_hlc (s := s) vhlc).trans whlc).trans uhlc
    · exact (ubasket e).trans ((wbaskets e he).trans (congrArg (fun x : Sbu => vget x.baskets e) vsbu))
    · rw [(printers e he).1, (printers e he).2]
      exact wprinters e
  · exact State.serve_ready ready (State.dropReset_disabled (s := s.accept (.dropReset h (some n))) off)

end Sys2Proof.Machine
end

section
/-! Visits, and what they send (R168, R170, R171, R196, R197). -/

namespace Sys2Proof.Machine

/-! ## Visits, and what they send (R168, R170, R171, R196, R197) -/

section
variable {s : State} {l : LineId} {round place : Nat} {i : Fin 8}

/-- The drop visited is the first one due (R170). -/
theorem State.dueFrom_first (from_ : place ≤ i.val) (due : (s.dropRec (dropAt l i)).due round = true)
    (first : ∀ j : Fin 8, place ≤ j.val → j < i → (s.dropRec (dropAt l j)).due round = false) :
    s.dueFrom l round place = some i := by
  obtain ⟨before, after, split, lower⟩ := finRange_split i
  rw [State.dueFrom, List.find?_eq_some_iff_append]
  refine ⟨by simp [from_, due], before, after, split, fun j hj => ?_⟩
  by_cases at_ : place ≤ j.val
  · simp [first j at_ (lower j hj)]
  · simp [at_]

theorem State.dueFrom_none (none : ∀ j : Fin 8, place ≤ j.val → (s.dropRec (dropAt l j)).due round = false) :
    s.dueFrom l round place = .none := by
  rw [State.dueFrom, List.find?_eq_none]
  intro j _
  by_cases at_ : place ≤ j.val
  · simp [none j at_]
  · simp [at_]

theorem State.lineUnused_iff : s.lineUnused l = true ↔ ∀ i, (s.dropRec (dropAt l i)).state = .unused := by
  simp [State.lineUnused]

theorem State.visitStart_still (h : (s.line l).visit ≠ none ∨ (s.line l).idle = true ∨ s.lineUnused l = true) : s.visitStart l = s :=
  if_pos (h.imp_left Option.isSome_iff_ne_none.2)

section
variable (visit : (s.line l).visit = none) (busy : (s.line l).idle = false) (used : ∃ i, (s.dropRec (dropAt l i)).state ≠ .unused)
include visit busy used

theorem State.visitStart_moves : s.visitStart l =
    match s.dueFrom l (s.line l).round (s.line l).next with
    | some i => s.beginVisit l (s.line l).round i
    | none =>
      if (s.line l).next = 0 then s.setLine l { s.line l with idle := true }
      else
        match s.dueFrom l (nextRound (s.line l).round) 0 with
        | some i => s.beginVisit l (nextRound (s.line l).round) i
        | none => s.setLine l { s.line l with round := nextRound (s.line l).round, next := 0, idle := true } := by
  obtain ⟨i, state⟩ := used
  have moves : ¬((s.line l).visit.isSome = true ∨ (s.line l).idle = true ∨ s.lineUnused l = true) := by
    rintro (h | h | h)
    · rw [visit] at h; cases h
    · rw [busy] at h; cases h
    · exact state (State.lineUnused_iff.1 h i)
  exact if_neg moves

theorem State.visitStart_thisRound (due : s.dueFrom l (s.line l).round (s.line l).next = some i) :
    s.visitStart l = s.beginVisit l (s.line l).round i := by
  rw [State.visitStart_moves visit busy used, due]

theorem State.visitStart_nextRound (past : s.dueFrom l (s.line l).round (s.line l).next = none) (moved : (s.line l).next ≠ 0)
    (due : s.dueFrom l (nextRound (s.line l).round) 0 = some i) :
    s.visitStart l = s.beginVisit l (nextRound (s.line l).round) i := by
  rw [State.visitStart_moves visit busy used, past]
  refine (if_neg moved).trans ?_
  rw [due]

theorem State.visitStart_idles (past : s.dueFrom l (s.line l).round (s.line l).next = none) (start : (s.line l).next = 0) :
    s.visitStart l = s.setLine l { s.line l with idle := true } := by
  rw [State.visitStart_moves visit busy used, past]
  exact if_pos start

theorem State.visitStart_nextIdles (past : s.dueFrom l (s.line l).round (s.line l).next = none) (moved : (s.line l).next ≠ 0)
    (none : s.dueFrom l (nextRound (s.line l).round) 0 = none) :
    s.visitStart l = s.setLine l { s.line l with round := nextRound (s.line l).round, next := 0, idle := true } := by
  rw [State.visitStart_moves visit busy used, past]
  refine (if_neg moved).trans ?_
  rw [none]

end
end

/-! ### The frame chosen (R171) -/

section
variable {r : DropRecord} {i : SlotId} {e : SlotEntry}

theorem slotOrder_split (i : SlotId) :
    ∃ before after, slotOrder = before ++ i :: after ∧ ∀ j ∈ before, slotIndex j < slotIndex i := by
  cases i with
  | reply => exact ⟨[], [.reader, .pushBasket, .pushTender, .pushSlot, .print], rfl, by decide⟩
  | reader => exact ⟨[.reply], [.pushBasket, .pushTender, .pushSlot, .print], rfl, by decide⟩
  | pushBasket => exact ⟨[.reply, .reader], [.pushTender, .pushSlot, .print], rfl, by decide⟩
  | pushTender => exact ⟨[.reply, .reader, .pushBasket], [.pushSlot, .print], rfl, by decide⟩
  | pushSlot => exact ⟨[.reply, .reader, .pushBasket, .pushTender], [.print], rfl, by decide⟩
  | print => exact ⟨[.reply, .reader, .pushBasket, .pushTender, .pushSlot], [], rfl, by decide⟩

theorem DropRecord.eligible_some (waits : vget r.slots (slotIndex i) = some e) (goes : i = .print → r.holdOff = false) :
    r.eligible i = some (i, e.frame) := by
  have free : ¬(i = .print ∧ r.holdOff = true) := fun ⟨print, held⟩ => absurd (held.symm.trans (goes print)) nofun
  rw [DropRecord.eligible, if_neg free, waits]
  rfl

theorem DropRecord.eligible_none (h : vget r.slots (slotIndex i) = none ∨ i = .print ∧ r.holdOff = true) : r.eligible i = none := by
  unfold DropRecord.eligible
  split
  · rfl
  · rename_i free
    rw [h.resolve_right free]
    rfl

theorem DropRecord.eligible_waits {k : SlotId} {f : OutFrame} (h : r.eligible i = some (k, f)) :
    ∃ e, vget r.slots (slotIndex k) = some e ∧ e.frame = f := by
  unfold DropRecord.eligible at h
  split at h
  · cases h
  · obtain ⟨e, waits, same⟩ := Option.map_eq_some_iff.1 h
    cases same
    exact ⟨e, waits, rfl⟩

theorem DropRecord.toSend_away (away : r.state = .probing ∨ r.state = .offline) : r.toSend = .sync := by
  rcases away with h | h <;> simp only [DropRecord.toSend, h]

theorem DropRecord.toSend_doubt {q : InDoubt} (online : r.state = .online) (doubt : r.inDoubt = some q) : r.toSend =
    match vget r.slots (slotIndex q.slot) with
    | some e => if e.sent then .body q.slot q.toggle e.frame else .pollInDoubt
    | none => .pollInDoubt := by
  simp only [DropRecord.toSend, online, doubt] <;> rfl

theorem DropRecord.toSend_sure (online : r.state = .online) (sure : r.inDoubt = none) : r.toSend =
    match slotOrder.findSome? r.eligible with
    | some (i, f) => .body i r.outToggle f
    | none => .poll := by
  simp only [DropRecord.toSend, online, sure] <;> rfl

theorem DropRecord.toSend_first (online : r.state = .online) (sure : r.inDoubt = none)
    (waits : vget r.slots (slotIndex i) = some e) (goes : i = .print → r.holdOff = false)
    (first : ∀ j, slotIndex j < slotIndex i → vget r.slots (slotIndex j) = none) : r.toSend = .body i r.outToggle e.frame := by
  obtain ⟨before, after, split, lower⟩ := slotOrder_split i
  have found : slotOrder.findSome? r.eligible = some (i, e.frame) :=
    List.findSome?_eq_some_iff.2 ⟨before, i, after, split, DropRecord.eligible_some waits goes,
      fun j hj => DropRecord.eligible_none (.inl (first j (lower j hj)))⟩
  rw [DropRecord.toSend_sure online sure, found]

theorem DropRecord.toSend_poll (online : r.state = .online) (sure : r.inDoubt = none)
    (none : ∀ i, vget r.slots (slotIndex i) = .none ∨ i = .print ∧ r.holdOff = true) : r.toSend = .poll := by
  have found : slotOrder.findSome? r.eligible = .none :=
    List.findSome?_eq_none_iff.2 fun i _ => DropRecord.eligible_none (none i)
  rw [DropRecord.toSend_sure online sure, found]

/-- A body sent is the frame that waits in its slot (R171). -/
theorem DropRecord.toSend_waits {k : SlotId} {t : Bool} {f : OutFrame} (h : r.toSend = .body k t f) :
    ∃ e, vget r.slots (slotIndex k) = some e ∧ e.frame = f := by
  unfold DropRecord.toSend at h
  split at h
  · cases h
  · cases h
  · split at h
    · rename_i e waits
      split at h
      · cases h; exact ⟨e, waits, rfl⟩
      · cases h
    · cases h
  · split at h
    · rename_i found
      cases h
      obtain ⟨-, i, -, -, chosen, -⟩ := List.findSome?_eq_some_iff.1 found
      exact DropRecord.eligible_waits chosen
    · cases h

theorem DropRecord.markSent_other {f : SentFrame} (h : ∀ k t g, f ≠ .body k t g) : r.markSent f = r := by
  cases f with
  | body k t g => exact absurd rfl (h k t g)
  | _ => rfl

theorem DropRecord.markSent_slots (r : DropRecord) (f : SentFrame) : r.markSent f = { r with slots := (r.markSent f).slots } := by
  cases f <;> rfl

end

/-! ### A visit that begins (R170, R171) -/

theorem dropAddress_toNat (d : Drop) : (dropAddress d).toNat = 257 + d.val % 8 + (if d.val < 8 then 0 else 16) := by
  unfold dropAddress
  rw [BitVec.toNat_ofNat]
  split <;> omega

theorem dropAt_address (l : LineId) (i : Fin 8) : (dropAddress (dropAt l i)).toNat = 257 + i.val + (if l = .a then 0 else 16) := by
  rw [dropAddress_toNat]
  cases l <;> simp [dropAt]

/-- What a visit that begins leaves of the lines and the drops (R170, R171). -/
theorem State.beginVisit_facts (s : State) (l : LineId) (round : Nat) (i : Fin 8) {u : State} (hu : s.beginVisit l round i = u) :
    u.line l = { round := round, next := i.val + 1, idle := false, visit := some (visitOf (dropAt l i) (s.dropRec (dropAt l i))) } ∧
    (∀ k, k ≠ l → u.line k = s.line k) ∧
    u.dropRec (dropAt l i) = (s.dropRec (dropAt l i)).markSent (s.dropRec (dropAt l i)).toSend ∧
    (∀ e, e ≠ dropAt l i → u.dropRec e = s.dropRec e) ∧ keptBut [.klc] s u := by
  subst hu
  refine ⟨State.setLine_line_same _ _ _, fun k hk => (State.setLine_line_ne _ _ hk).trans (State.setDropRec_line _ _ _ _), ?_,
    fun e he => ?_,
    (s.setDropRec_kept _ _ (by decide)).trans (State.setLine_kept _ _ _ (by decide))⟩
  · exact (State.setLine_dropRec _ _ _ _).trans (s.setDropRec_dropRec_same _ _)
  · exact (State.setLine_dropRec _ _ _ _).trans (s.setDropRec_dropRec_ne _ _ he)

section
variable {s u : State} {d : Drop}

theorem State.markSent_slot (marked : u.dropRec d = (s.dropRec d).markSent (s.dropRec d).toSend) {k : SlotId} {t : Bool} {f : OutFrame}
    (sent : (s.dropRec d).toSend = .body k t f) (j : SlotId) :
    u.slot d j = if j = k then some { frame := f, sent := true } else s.slot d j := by
  unfold State.slot
  rw [marked, sent]
  by_cases same : j = k
  · rw [if_pos same, same]; exact vget_vput_same _ _ _
  · rw [if_neg same]; exact vget_vput_ne _ _ (slotIndex_ne same)

theorem State.unsent_slot (marked : u.dropRec d = (s.dropRec d).markSent (s.dropRec d).toSend)
    (sent : ∀ k t f, (s.dropRec d).toSend ≠ .body k t f) (j : SlotId) : u.slot d j = s.slot d j := by
  unfold State.slot
  rw [marked, DropRecord.markSent_other sent]

/-- The frames stay in their slots; one of them may be marked as sent (R171). -/
theorem State.markSent_frame (marked : u.dropRec d = (s.dropRec d).markSent (s.dropRec d).toSend) (j : SlotId) :
    (u.slot d j).map (·.frame) = (s.slot d j).map (·.frame) := by
  by_cases body : ∃ k t f, (s.dropRec d).toSend = .body k t f
  · obtain ⟨k, t, f, sent⟩ := body
    obtain ⟨e, waits, same⟩ := DropRecord.toSend_waits sent
    rw [State.markSent_slot marked sent]
    by_cases own : j = k
    · rw [if_pos own, own, State.slot, waits, Option.map_some, Option.map_some, same]
    · rw [if_neg own]
  · rw [State.unsent_slot marked fun k t f h => body ⟨k, t, f, h⟩]

end

/-! ### The control byte (R197) -/

/-- A bit of a byte written as a sum. -/
theorem BitVec.getLsbD_ofNat_sum {n high low i : Nat} {b : Bool} (sum : n = 2 ^ i * (2 * high + b.toNat) + low) (small : low < 2 ^ i)
    (hi : i < 8) : (BitVec.ofNat 8 n).getLsbD i = b := by
  have digit : n / 2 ^ i = 2 * high + b.toNat := by
    rw [sum, Nat.mul_add_div (Nat.two_pow_pos i), Nat.div_eq_of_lt small, Nat.add_zero]
  rw [BitVec.getLsbD_ofNat, Nat.testBit_eq_decide_div_mod_eq, digit]
  cases b <;> simp [hi]

/-- The five flags and the kind of a control byte. -/
theorem controlByte_bits (a b c d e : Bool) {k : Nat} (hk : k < 8) {x : Byte}
    (hx : BitVec.ofNat 8 (128 * a.toNat + 64 * b.toNat + 32 * c.toNat + 16 * d.toNat + 8 * e.toNat + k) = x) :
    x.getLsbD 7 = a ∧ x.getLsbD 6 = b ∧ x.getLsbD 5 = c ∧ x.getLsbD 4 = d ∧ x.getLsbD 3 = e ∧ x.toNat % 8 = k := by
  have hb := b.toNat_le
  have hc := c.toNat_le
  have hd := d.toNat_le
  have he := e.toNat_le
  subst hx
  refine ⟨?_, ?_, ?_, ?_, ?_, ?_⟩
  · exact BitVec.getLsbD_ofNat_sum (high := 0) (low := 64 * b.toNat + 32 * c.toNat + 16 * d.toNat + 8 * e.toNat + k)
      (by omega) (by omega) (by decide)
  · exact BitVec.getLsbD_ofNat_sum (high := a.toNat) (low := 32 * c.toNat + 16 * d.toNat + 8 * e.toNat + k)
      (by omega) (by omega) (by decide)
  · exact BitVec.getLsbD_ofNat_sum (high := 2 * a.toNat + b.toNat) (low := 16 * d.toNat + 8 * e.toNat + k)
      (by omega) (by omega) (by decide)
  · exact BitVec.getLsbD_ofNat_sum (high := 4 * a.toNat + 2 * b.toNat + c.toNat) (low := 8 * e.toNat + k)
      (by omega) (by omega) (by decide)
  · exact BitVec.getLsbD_ofNat_sum (high := 8 * a.toNat + 4 * b.toNat + 2 * c.toNat + d.toNat) (low := k)
      (by omega) (by omega) (by decide)
  · rw [BitVec.toNat_ofNat]
    omega

theorem sentKind_lt (f : SentFrame) : sentKind f < 8 := by
  unfold sentKind
  split <;> decide

theorem sentKind_body (i : SlotId) (t : Bool) (f : OutFrame) : sentKind (.body i t f) = 2 + (slotIndex i).val := by
  cases i <;> rfl

/-- The control byte, bit by bit (R197). -/
theorem outControl_bits (d : Drop) (sent : SentFrame) (inToggle busy : Option Bool) {c : Byte}
    (hc : outControl d sent inToggle busy = c) :
    c.getLsbD 7 = sentToggle sent ∧ c.getLsbD 6 = inToggle.getD (Config.idleAckToggle d sent) ∧ c.getLsbD 5 = inToggle.isSome ∧
    c.getLsbD 4 = busy.isSome ∧ c.getLsbD 3 = busy.getD (Config.idleBusyToggle d sent) ∧ c.toNat % 8 = sentKind sent :=
  controlByte_bits _ _ _ _ _ (sentKind_lt sent) hc

/-- Settles O58: the visit that begins, the rounds that idle, the control byte and the frame chosen, one by one. -/
theorem visitsGoRoundTheDrops : Obligations.VisitsGoRoundTheDrops := by
  unfold Obligations.VisitsGoRoundTheDrops
  refine ⟨fun l s visit busy => ⟨fun round place i at_ from_ due first => ?_, fun used none => ⟨fun start => ?_, fun moved none' => ?_⟩⟩,
    fun l s unused => ?_, fun l s still => ?_, fun l s busy => ?_, fun d sent inToggle busy => ?_, fun l s idle => ?_, fun r => ?_⟩
  · have used : ∃ i, (s.dropRec (dropAt l i)).state ≠ .unused := ⟨i, DropRecord.due.used due⟩
    have begins : s.visitStart l = s.beginVisit l round i := by
      rcases at_ with ⟨rfl, rfl⟩ | ⟨rfl, rfl, moved, past⟩
      · exact State.visitStart_thisRound visit busy used (State.dueFrom_first from_ due first)
      · exact State.visitStart_nextRound visit busy used (State.dueFrom_none past) moved (State.dueFrom_first from_ due first)
    obtain ⟨line, lines, marked, others, kept⟩ := s.beginVisit_facts l round i rfl
    set u := s.beginVisit l round i
    refine ⟨u, visitOf (dropAt l i) (s.dropRec (dropAt l i)), congrArg Host.Outcome.next begins, by rw [line], rfl, rfl, rfl, rfl,
      dropAt_address l i, rfl, fun k t f sent => ⟨?_, fun j hj => ?_⟩, fun sent j => ?_, lines, by rw [line], by rw [line], by rw [line],
      others, ?_, fun k => ?_, kept⟩
    · exact (State.markSent_slot marked sent k).trans (if_pos rfl)
    · exact (State.markSent_slot marked sent j).trans (if_neg hj)
    · exact State.unsent_slot marked sent j
    · change u.dropRec (dropAt l i) = { s.dropRec (dropAt l i) with slots := (u.dropRec (dropAt l i)).slots }
      rw [marked]
      exact DropRecord.markSent_slots _ _
    · exact State.markSent_frame marked k
  · exact congrArg Host.Outcome.next (State.visitStart_idles visit busy used (State.dueFrom_none none) start)
  · exact congrArg Host.Outcome.next (State.visitStart_nextIdles visit busy used (State.dueFrom_none none) moved
      (State.dueFrom_none fun j _ => none' j))
  · exact congrArg Host.Outcome.next (State.visitStart_still (.inr (.inr (State.lineUnused_iff.2 unused))))
  · exact congrArg Host.Outcome.next (State.visitStart_still (still.imp_right .inl))
  · exact congrArg Host.Outcome.next (if_neg (by rw [busy]; nofun))
  · obtain ⟨toggle, ack, acked, marked, mark, kind⟩ := outControl_bits d sent inToggle busy rfl
    refine ⟨fun i t f body => ?_, fun sync => ?_, fun poll => ?_, fun t some => ?_, fun none => ?_, fun t some => ?_, fun none => ?_,
      fun bare => ?_, fun i t f body => by rw [body]; rfl⟩
    · rw [toggle, kind, body]
      exact ⟨rfl, sentKind_body i t f⟩
    · rw [toggle, kind, sync]
      exact ⟨rfl, rfl⟩
    · rw [toggle, kind]
      rcases poll with h | h <;> rw [h] <;> exact ⟨rfl, rfl⟩
    · rw [ack, acked, some]
      exact ⟨rfl, rfl⟩
    · rw [acked, none]; rfl
    · rw [marked, mark, some]
      exact ⟨rfl, rfl⟩
    · rw [marked, none]; rfl
    · rcases bare with h | h | h <;> rw [h] <;> rfl
  · exact congrArg Host.Outcome.next (if_pos idle)
  · refine ⟨DropRecord.toSend_away, fun q online doubt => ⟨fun e waits sent => ?_, fun replaced => ?_⟩,
      fun i e online sure waits goes first => DropRecord.toSend_first online sure waits goes first,
      fun online sure none => DropRecord.toSend_poll online sure none⟩
    · rw [DropRecord.toSend_doubt online doubt, waits]
      exact if_pos sent
    · rw [DropRecord.toSend_doubt online doubt]
      cases waits : vget r.slots (slotIndex q.slot) with
      | none => rfl
      | some e => exact if_neg (by rw [replaced e waits]; nofun)

end Sys2Proof.Machine
end

section
/-! What a good answer settles, and the frame it carries (R172 to R174, R176, R197). -/

namespace Sys2Proof.Machine

/-! ## Good answers (R172 to R174, R176, R197) -/

theorem answerKindOk_iff (a : Answer) : answerKindOk a = true ↔
    (a.control.getLsbD 4 = true → ∃ c rest, a.body = c :: rest ∧ 1 ≤ c.toNat ∧ c.toNat ≤ 19) ∧
    (a.control.getLsbD 4 = false → a.length.toNat = 0 ∧ a.control.toNat % 16 = 0) := by
  have low : a.control.extractLsb' 0 4 = 0#4 ↔ a.control.toNat % 16 = 0 := by
    rw [← BitVec.toNat_inj, BitVec.extractLsb'_toNat]
    rfl
  have empty : a.length = 0#8 ↔ a.length.toNat = 0 := by
    rw [← BitVec.toNat_inj]
    rfl
  unfold answerKindOk
  cases present : a.control.getLsbD 4 with
  | true =>
    cases body : a.body with
    | nil => simp
    | cons c rest => simp
  | false => simp [low, empty]

theorem answerGood_iff (d : Drop) (a : Answer) : answerGood d a = true ↔
    a.addr.toNat = 257 + d.val % 8 + (if d.val < 8 then 0 else 16) ∧ a.length.toNat ≤ 120 ∧ a.body.length = a.length.toNat ∧
    a.crc = crc16 (a.addr.setWidth 8 :: a.control :: a.length :: a.body) ∧
    (a.control.getLsbD 4 = true → ∃ c rest, a.body = c :: rest ∧ 1 ≤ c.toNat ∧ c.toNat ≤ 19) ∧
    (a.control.getLsbD 4 = false → a.length.toNat = 0 ∧ a.control.toNat % 16 = 0) := by
  have addr : a.addr = dropAddress d ↔ a.addr.toNat = 257 + d.val % 8 + (if d.val < 8 then 0 else 16) := by
    rw [← BitVec.toNat_inj, dropAddress_toNat]
  simp only [answerGood, Bool.and_eq_true, beq_iff_eq, decide_eq_true_eq, addr, answerKindOk_iff, and_assoc]

/-! ### The settlement of the frame sent (R173) -/

section
variable {r : DropRecord} {v : Visit} {a : Answer} {i : SlotId} {t : Bool} {f : OutFrame} {q : InDoubt}

theorem deliveredFrame_body (sent : v.sent = .body i t f) : deliveredFrame r v a = if answerTaken a = t then some f else none := by
  rw [deliveredFrame, sent]

theorem deliveredFrame_doubt (sent : v.sent = .pollInDoubt) (doubt : r.inDoubt = some q) :
    deliveredFrame r v a = if answerTaken a = q.toggle then some q.frame else none := by
  rw [deliveredFrame, sent, doubt]

theorem deliveredFrame_bare (sent : v.sent = .sync ∨ v.sent = .poll) : deliveredFrame r v a = none := by
  rcases sent with h | h <;> rw [deliveredFrame, h]

theorem DropRecord.deliverSlot_slots (r : DropRecord) (i : SlotId) : r.deliverSlot i = { r with slots := (r.deliverSlot i).slots } := by
  unfold DropRecord.deliverSlot
  repeat' split
  all_goals rfl

theorem DropRecord.deliverSlot_none (free : vget r.slots (slotIndex i) = none) : r.deliverSlot i = r := by
  rw [DropRecord.deliverSlot, free]

theorem DropRecord.deliverSlot_same {e : SlotEntry} (waits : vget r.slots (slotIndex i) = some e) :
    vget (r.deliverSlot i).slots (slotIndex i) = if e.sent = true then none else some e := by
  have delivered : r.deliverSlot i = if e.sent = true then r.setSlot i none else r := by rw [DropRecord.deliverSlot, waits]
  rw [delivered]
  split
  · exact vget_vput_same _ _ _
  · exact waits

theorem DropRecord.deliverSlot_ne {j : SlotId} (h : j ≠ i) :
    vget (r.deliverSlot i).slots (slotIndex j) = vget r.slots (slotIndex j) := by
  unfold DropRecord.deliverSlot
  split
  · split
    · exact vget_vput_ne _ _ (slotIndex_ne h)
    · rfl
  · rfl

theorem DropRecord.settle_fields (r : DropRecord) (v : Visit) (a : Answer) : r.settle v a =
    { r with outToggle := (r.settle v a).outToggle, inDoubt := (r.settle v a).inDoubt, slots := (r.settle v a).slots } := by
  unfold DropRecord.settle
  split
  · rfl
  · rfl
  · split
    · rw [r.deliverSlot_slots]
    · rfl
  · split
    · split <;> rfl
    · rfl

theorem DropRecord.settle_bare (sent : v.sent = .sync ∨ v.sent = .poll) : r.settle v a = r := by
  rcases sent with h | h <;> rw [DropRecord.settle, h]

/-- What an answer leaves of a record whose body was sent (R173). -/
theorem DropRecord.settle_body (sent : v.sent = .body i t f) :
    (r.settle v a).inDoubt = none ∧ (r.settle v a).outToggle = (if answerTaken a = t then !t else r.outToggle) ∧
    (∀ e, vget r.slots (slotIndex i) = some e →
      vget (r.settle v a).slots (slotIndex i) = if answerTaken a = t ∧ e.sent = true then none else some e) ∧
    (vget r.slots (slotIndex i) = none → vget (r.settle v a).slots (slotIndex i) = none) ∧
    ∀ j, j ≠ i → vget (r.settle v a).slots (slotIndex j) = vget r.slots (slotIndex j) := by
  by_cases taken : answerTaken a = t
  · have settled : r.settle v a = { r.deliverSlot i with outToggle := !t, inDoubt := none } := by
      rw [DropRecord.settle, sent]
      exact if_pos taken
    rw [settled]
    refine ⟨rfl, (if_pos taken).symm, fun e waits => ?_, fun free => ?_, fun j hj => DropRecord.deliverSlot_ne hj⟩
    · simpa only [taken, true_and] using DropRecord.deliverSlot_same waits
    · change vget (r.deliverSlot i).slots (slotIndex i) = none
      rw [DropRecord.deliverSlot_none free, free]
  · have settled : r.settle v a = { r with inDoubt := none } := by
      rw [DropRecord.settle, sent]
      exact if_neg taken
    rw [settled]
    exact ⟨rfl, (if_neg taken).symm, fun e waits => waits.trans (if_neg fun h => taken h.1).symm, id, fun _ _ => rfl⟩

/-- What an answer leaves of a record with a frame in doubt (R173). -/
theorem DropRecord.settle_doubt (sent : v.sent = .pollInDoubt) (doubt : r.inDoubt = some q) :
    (r.settle v a).inDoubt = none ∧ (r.settle v a).outToggle = (if answerTaken a = q.toggle then !q.toggle else r.outToggle) ∧
    (r.settle v a).slots = r.slots := by
  have settled : r.settle v a =
      if answerTaken a = q.toggle then { r with outToggle := !q.toggle, inDoubt := none } else { r with inDoubt := none } := by
    rw [DropRecord.settle, sent, doubt]
  rw [settled]
  split <;> exact ⟨rfl, rfl, rfl⟩

end

section
variable {s u : State} {d : Drop}

/-- What the report of a delivery leaves (R101, R173). -/
theorem State.reportDelivery_facts (s : State) (d : Drop) (given : Option OutFrame) {u : State} (hu : s.reportDelivery d given = u) :
    u.dropRec d = { s.dropRec d with requestOutstanding := (u.dropRec d).requestOutstanding } ∧
    ((∃ x, given = some (.reply x)) → (u.dropRec d).requestOutstanding = false) ∧
    ((∀ x, given ≠ some (.reply x)) → (u.dropRec d).requestOutstanding = (s.dropRec d).requestOutstanding) ∧
    u.orders = s.orders ++ (if given = some (.reader .off) then [.readerOffDelivered d] else []) ∧
    (∀ e, e ≠ d → u.dropRec e = s.dropRec e) ∧ linesKept s u := by
  subst hu
  have quiet : ∀ f : Option OutFrame, f ≠ some (.reader .off) →
      s.orders = s.orders ++ (if f = some (.reader .off) then [Instr.readerOffDelivered d] else []) := fun f h => by
    rw [if_neg h, List.append_nil]
  have noReply : ∀ {f : Option OutFrame}, (∀ x, f ≠ some (.reply x)) → ∀ {p : Prop}, (∃ x, f = some (.reply x)) → p :=
    fun other _ ⟨x, h⟩ => absurd h (other x)
  unfold State.reportDelivery
  split
  · rename_i x
    have record := s.setDropRec_dropRec_same d { s.dropRec d with requestOutstanding := false }
    rw [record]
    exact ⟨rfl, fun _ => rfl, fun h => absurd rfl (h x), quiet _ (by simp), fun e he => s.setDropRec_dropRec_ne _ _ he, ⟨rfl, rfl⟩⟩
  · exact ⟨rfl, noReply (fun _ => by simp), fun _ => rfl, congrArg (s.orders ++ ·) (if_pos rfl).symm, fun _ _ => rfl, ⟨rfl, rfl⟩⟩
  all_goals exact ⟨rfl, noReply (fun _ => by simp), fun _ => rfl, quiet _ (by simp), fun _ _ => rfl, ⟨rfl, rfl⟩⟩

/-- What the settlement of a good answer leaves (R173). -/
theorem State.settleAnswer_facts (s : State) (v : Visit) (a : Answer) {u : State} (hu : s.settleAnswer v a = u) :
    u.dropRec v.drop = { ((s.dropRec v.drop).answered v a).settle v a with
      requestOutstanding := (u.dropRec v.drop).requestOutstanding } ∧
    ((∃ x, deliveredFrame (s.dropRec v.drop) v a = some (.reply x)) → (u.dropRec v.drop).requestOutstanding = false) ∧
    ((∀ x, deliveredFrame (s.dropRec v.drop) v a ≠ some (.reply x)) →
      (u.dropRec v.drop).requestOutstanding = (s.dropRec v.drop).requestOutstanding) ∧
    u.orders = s.orders ++
      (if deliveredFrame (s.dropRec v.drop) v a = some (.reader .off) then [.readerOffDelivered v.drop] else []) ∧
    (∀ e, e ≠ v.drop → u.dropRec e = s.dropRec e) ∧ linesKept s u := by
  obtain ⟨record, reply, other, orders, others, lines⟩ := State.reportDelivery_facts _ _ _ hu
  rw [State.setDropRec_dropRec_same] at record other
  refine ⟨record, reply, fun h => (other h).trans ?_, orders, fun e he => (others e he).trans (s.setDropRec_dropRec_ne _ _ he), lines⟩
  rw [DropRecord.settle_fields]
  rfl

/-! ### Inbound frames (R169, R174) -/

/-- What the handing on of a frame leaves (R169, R174). -/
theorem State.handOn_facts (s : State) (d : Drop) (toggle : Bool) (c : Byte) (fields : List Byte) {u : State}
    (hu : s.handOn d toggle (c :: fields) = u) :
    (isRequestCode c.toNat = false ∨ (s.dropRec d).requestOutstanding = false →
      u.orders = s.orders ++ (dropCommand d c.toNat fields).toList ∧
      (isRequestCode c.toNat = true → (u.dropRec d).requestOutstanding = true) ∧ (u.dropRec d).busyDue = (s.dropRec d).busyDue) ∧
    (isRequestCode c.toNat = true → (s.dropRec d).requestOutstanding = true →
      u.orders = s.orders ∧ (u.dropRec d).requestOutstanding = true ∧ (u.dropRec d).busyDue = some toggle) := by
  have same := s.setDropRec_dropRec_same d
  by_cases request : isRequestCode c.toNat = true
  · by_cases out : (s.dropRec d).requestOutstanding = true
    · have made : s.setDropRec d { s.dropRec d with busyDue := some toggle } = u :=
        ((if_pos request).trans (if_pos out)).symm.trans hu
      rw [← made, same]
      refine ⟨fun h => ?_, fun _ _ => ⟨rfl, out, rfl⟩⟩
      rcases h with h | h
      · exact absurd (request.symm.trans h) nofun
      · exact absurd (out.symm.trans h) nofun
    · have made : (s.setDropRec d { s.dropRec d with requestOutstanding := true }).send (dropCommand d c.toNat fields).toList = u :=
        ((if_pos request).trans (if_neg out)).symm.trans hu
      rw [← made, State.send_dropRec, same]
      exact ⟨fun _ => ⟨rfl, fun _ => rfl, rfl⟩, fun _ h => absurd h out⟩
  · have made : s.send (dropCommand d c.toNat fields).toList = u := (if_neg request).symm.trans hu
    rw [← made]
    exact ⟨fun _ => ⟨rfl, fun h => absurd h request, rfl⟩, fun h => absurd h request⟩

/-- The handing on moves two fields of the record at most (R174). -/
theorem State.handOn_fields (s : State) (d : Drop) (toggle : Bool) (body : List Byte) {u : State} (hu : s.handOn d toggle body = u) :
    u.dropRec d =
      { s.dropRec d with requestOutstanding := (u.dropRec d).requestOutstanding, busyDue := (u.dropRec d).busyDue } ∧
    (∀ e, e ≠ d → u.dropRec e = s.dropRec e) := by
  subst hu
  unfold State.handOn
  have same := s.setDropRec_dropRec_same d
  have others := fun (r : DropRecord) (e : Drop) (he : e ≠ d) => s.setDropRec_dropRec_ne d r he
  split
  · exact ⟨rfl, fun _ _ => rfl⟩
  split
  · split
    · rw [same]
      exact ⟨rfl, others _⟩
    · rw [State.send_dropRec, same]
      exact ⟨rfl, others _⟩
  · exact ⟨rfl, fun _ _ => rfl⟩

theorem State.takeInbound_repeat {a : Answer}
    (old : answerPresent a = false ∨ (s.dropRec d).inToggle = some (answerToggle a)) : s.takeInbound d a = s := by
  refine if_neg fun ⟨present, fresh⟩ => ?_
  rcases old with h | h
  · exact absurd (present.symm.trans h) nofun
  · exact fresh h

/-- What an inbound frame leaves of its drop (R174). -/
theorem State.takeInbound_facts (s : State) (d : Drop) (a : Answer) {u : State} (hu : s.takeInbound d a = u) :
    u.dropRec d = { s.dropRec d with
      inToggle := (u.dropRec d).inToggle, requestOutstanding := (u.dropRec d).requestOutstanding, busyDue := (u.dropRec d).busyDue } ∧
    (∀ e, e ≠ d → u.dropRec e = s.dropRec e) ∧
    (∀ c fields, answerPresent a = true → a.body = c :: fields → (s.dropRec d).inToggle ≠ some (answerToggle a) →
      (u.dropRec d).inToggle = some (answerToggle a) ∧
      (isRequestCode c.toNat = false ∨ (s.dropRec d).requestOutstanding = false →
        u.orders = s.orders ++ (dropCommand d c.toNat fields).toList ∧
        (isRequestCode c.toNat = true → (u.dropRec d).requestOutstanding = true) ∧ (u.dropRec d).busyDue = (s.dropRec d).busyDue) ∧
      (isRequestCode c.toNat = true → (s.dropRec d).requestOutstanding = true →
        u.orders = s.orders ∧ (u.dropRec d).requestOutstanding = true ∧ (u.dropRec d).busyDue = some (answerToggle a))) := by
  by_cases fresh : answerPresent a = true ∧ (s.dropRec d).inToggle ≠ some (answerToggle a)
  · have made := (if_pos fresh).symm.trans hu
    set t := s.setDropRec d { s.dropRec d with inToggle := some (answerToggle a) }
    have same : t.dropRec d = { s.dropRec d with inToggle := some (answerToggle a) } := s.setDropRec_dropRec_same d _
    obtain ⟨record, others⟩ := t.handOn_fields d _ _ made
    rw [same] at record
    refine ⟨record.trans (by rw [record]), fun e he => (others e he).trans (s.setDropRec_dropRec_ne d _ he),
      fun c fields _ body _ => ⟨by rw [record], ?_⟩⟩
    rw [body] at made
    have facts := t.handOn_facts d _ c fields made
    rw [same] at facts
    exact facts
  · have made : s = u := (if_neg fresh).symm.trans hu
    subst made
    exact ⟨rfl, fun _ _ => rfl, fun c fields present _ new => absurd ⟨present, new⟩ fresh⟩

/-! ### A drop that comes back (R176) -/

theorem State.dropReturn_facts (s : State) (d : Drop) {u : State} (hu : s.dropReturn d = u) :
    u.dropRec d = { s.dropRec d with
      state := .online, outToggle := false, inToggle := none, inDoubt := none, slots := (u.dropRec d).slots } ∧
    u.waits d .pushTender (.tenderPush (tenderPushOf (s.session d))) ∧ u.hlc.conditions.raised .dropState = true ∧
    u.orders = s.orders ++ [.dropOnlineSbu d, .dropOnlineTdu d, .dropOnlinePru d] ∧ hlcKept s u := by
  subst hu
  set t := ((s.setDropRec d { s.dropRec d with state := .online, outToggle := false, inToggle := none, inDoubt := none }).raise
      .dropState).send [.dropOnlineSbu d, .dropOnlineTdu d, .dropOnlinePru d] with ht
  have made : s.dropReturn d = t.pushTender d := rfl
  have same : t.dropRec d = { s.dropRec d with state := .online, outToggle := false, inToggle := none, inDoubt := none } :=
    s.setDropRec_dropRec_same d _
  have record := (t.place_slotsKeptBut d .pushTender (.tenderPush (tenderPushOf (t.session d)))).2.1
  rw [same] at record
  exact ⟨record, t.pushTender_waits d, State.raise_raised _ _, rfl, State.raise_hlcKept _ _⟩

theorem State.returnIfAway_away (away : (s.dropRec d).state = .probing ∨ (s.dropRec d).state = .offline) :
    s.returnIfAway d = s.dropReturn d := by
  rcases away with h | h <;> rw [State.returnIfAway, h]

theorem State.returnIfAway_stays (stays : (s.dropRec d).state = .online ∨ (s.dropRec d).state = .unused) : s.returnIfAway d = s := by
  rcases stays with h | h <;> rw [State.returnIfAway, h]

/-- What the return of a drop, if it was away, leaves of the rest (R176). -/
theorem State.returnIfAway_rest (s : State) (d : Drop) {u : State} (hu : s.returnIfAway d = u) :
    (u.dropRec d).kind = (s.dropRec d).kind ∧ (u.dropRec d).supply = (s.dropRec d).supply ∧ hlcKept s u := by
  by_cases away : (s.dropRec d).state = .probing ∨ (s.dropRec d).state = .offline
  · obtain ⟨record, -, -, -, kept⟩ := s.dropReturn_facts d ((State.returnIfAway_away away).symm.trans hu)
    exact ⟨by rw [record], by rw [record], kept⟩
  · have stays : (s.dropRec d).state = .online ∨ (s.dropRec d).state = .unused := by
      cases e : (s.dropRec d).state <;> simp [e] at away ⊢
    have made : s = u := (State.returnIfAway_stays stays).symm.trans hu
    subst made
    exact ⟨rfl, rfl, .of_hlc rfl⟩

end

end Sys2Proof.Machine
end

section
/-! A good answer to a visit that counts (R172 to R174, R176). -/

namespace Sys2Proof.Machine

/-! ## A good answer to a visit that counts (R172 to R174, R176) -/

section
variable {s u : State} {v : Visit} {a : Answer}

/-- What the blocks are told before the inbound frame is taken (R101, R173, R176). -/
def toldOf (r : DropRecord) (v : Visit) (a : Answer) : List Instr :=
  if r.state = .online then (if deliveredFrame r v a = some (.reader .off) then [.readerOffDelivered v.drop] else [])
  else [.dropOnlineSbu v.drop, .dropOnlineTdu v.drop, .dropOnlinePru v.drop]

/-- The record and the orders after the settlement of the frame sent, the drop being ONLINE or back by a SYNC (R173, R176). -/
theorem State.settled_facts (s : State) (v : Visit) (a : Answer) {u : State}
    (hu : (s.returnIfAway v.drop).settleAnswer v a = u)
    (from_ : (s.dropRec v.drop).state = .online ∨
      ((s.dropRec v.drop).state = .probing ∨ (s.dropRec v.drop).state = .offline) ∧ v.sent = .sync) :
    u.orders = s.orders ++ toldOf (s.dropRec v.drop) v a ∧
    (u.dropRec v.drop).inToggle = (if (s.dropRec v.drop).state = .online then (s.dropRec v.drop).inToggle else none) ∧
    (u.dropRec v.drop).busyDue = (if v.busyMark = none then (s.dropRec v.drop).busyDue else none) ∧
    ((∃ x, deliveredFrame (s.dropRec v.drop) v a = some (.reply x)) → (u.dropRec v.drop).requestOutstanding = false) ∧
    ((∀ x, deliveredFrame (s.dropRec v.drop) v a ≠ some (.reply x)) →
      (u.dropRec v.drop).requestOutstanding = (s.dropRec v.drop).requestOutstanding) := by
  have busy : ∀ r : DropRecord, ((r.answered v a).settle v a).busyDue = if v.busyMark = none then r.busyDue else none := fun r => by
    rw [DropRecord.settle_fields]
    cases e : v.busyMark <;> simp [DropRecord.answered, e]
  have toggle : ∀ r : DropRecord, ((r.answered v a).settle v a).inToggle = r.inToggle := fun r => by
    rw [DropRecord.settle_fields]
    rfl
  obtain ⟨record, reply, other, orders, -⟩ := State.settleAnswer_facts _ v a hu
  rcases from_ with online | ⟨away, sync⟩
  · rw [State.returnIfAway_stays (.inl online)] at record reply other orders
    rw [toldOf, if_pos online, if_pos online]
    exact ⟨orders, by rw [record]; exact toggle _, by rw [record]; exact busy _, reply, other⟩
  · have apart : (s.dropRec v.drop).state ≠ .online := by rcases away with h | h <;> rw [h] <;> nofun
    have bare : ∀ r : DropRecord, deliveredFrame r v a = none := fun r => deliveredFrame_bare (.inl sync)
    obtain ⟨back, -, -, orders', -⟩ := s.dropReturn_facts v.drop rfl
    rw [State.returnIfAway_away away] at record other orders
    rw [bare] at other orders ⊢
    rw [toldOf, if_neg apart, if_neg apart]
    refine ⟨?_, ?_, ?_, fun ⟨_, h⟩ => (by cases h), fun h => ?_⟩
    · rw [orders, orders', if_neg (by simp), List.append_nil]
    · rw [record]
      refine (toggle _).trans ?_
      rw [back]
    · rw [record]
      refine (busy _).trans ?_
      rw [back]
    · refine (other h).trans ?_
      rw [back]

/-- What a good answer leaves in every state of its drop (R172, R173). -/
theorem State.takeAnswer_facts (s : State) (v : Visit) (a : Answer) {u : State} (hu : s.takeAnswer v a = u) :
    (u.dropRec v.drop).misses = 0 ∧ (u.dropRec v.drop).holdOff = answerHoldOff a ∧
    (u.dropRec v.drop).kind = (s.dropRec v.drop).kind ∧ (u.dropRec v.drop).supply = (s.dropRec v.drop).supply ∧
    (∀ e, e ≠ v.drop → u.dropRec e = s.dropRec e) ∧ linesKept s u ∧ hlcKept s u ∧ keptBut [.klc, .hlc, .orders] s u := by
  set t := s.returnIfAway v.drop with ht
  set w := t.settleAnswer v a with hw
  obtain ⟨kind, supply, hlc⟩ := s.returnIfAway_rest v.drop ht.symm
  obtain ⟨settled, -, -, -, others, lines⟩ := t.settleAnswer_facts v a hw.symm
  obtain ⟨taken, others', -⟩ := w.takeInbound_facts v.drop a hu
  rw [DropRecord.settle_fields] at settled
  have after : keptBut [.klc, .orders] t u :=
    hu ▸ (State.settleAnswer_kept t v a (by decide) (by decide)).trans (State.takeInbound_kept w v.drop a (by decide) (by decide))
  have steady : linesKept w u := hu ▸ (w.takeInbound_steady v.drop a).1
  refine ⟨?_, ?_, ?_, ?_, fun e he => ?_, ((s.returnIfAway_lines v.drop).trans lines).trans steady, ?_,
    hu ▸ State.takeAnswer_kept s v a (by decide) (by decide) (by decide)⟩
  · rw [taken, settled]; rfl
  · rw [taken, settled]; rfl
  · rw [taken, settled]; exact kind
  · rw [taken, settled]; exact supply
  · exact ((others' e he).trans (others e he)).trans (s.returnIfAway_dropRec_ne he)
  · exact hlc.trans (.of_hlc (after .hlc (by decide)))

/-- A drop that answers a SYNC is back (R176). -/
theorem State.takeAnswer_back (hu : s.takeAnswer v a = u)
    (away : (s.dropRec v.drop).state = .probing ∨ (s.dropRec v.drop).state = .offline) (sync : v.sent = .sync) :
    (u.dropRec v.drop).state = .online ∧ (u.dropRec v.drop).outToggle = false ∧ (u.dropRec v.drop).inDoubt = none ∧
    u.hlc.conditions.raised .dropState = true ∧ u.waits v.drop .pushTender (.tenderPush (tenderPushOf (s.session v.drop))) := by
  rw [State.takeAnswer, State.returnIfAway_away away] at hu
  obtain ⟨back, waits, raised, -⟩ := s.dropReturn_facts v.drop rfl
  set t := s.dropReturn v.drop
  set w := t.settleAnswer v a with hw
  obtain ⟨settled, -⟩ := t.settleAnswer_facts v a hw.symm
  obtain ⟨taken, -⟩ := w.takeInbound_facts v.drop a hu
  rw [DropRecord.settle_bare (.inl sync)] at settled
  have after : u.hlc = t.hlc := (hu ▸ (State.settleAnswer_kept t v a (L := [.klc, .orders]) (by decide) (by decide)).trans
    (State.takeInbound_kept w v.drop a (by decide) (by decide)) : keptBut [.klc, .orders] t u) .hlc (by decide)
  refine ⟨?_, ?_, ?_, by rw [after]; exact raised, ?_⟩
  · rw [taken, settled, back]; rfl
  · rw [taken, settled, back]; rfl
  · rw [taken, settled, back]; rfl
  · unfold State.waits State.slot
    rw [taken, settled]
    exact waits

/-- What the settlement leaves of an ONLINE drop's record stays, but for what the inbound frame moves (R173, R174). -/
theorem State.takeAnswer_online (hu : s.takeAnswer v a = u) (online : (s.dropRec v.drop).state = .online) :
    (u.dropRec v.drop).inDoubt = (((s.dropRec v.drop).answered v a).settle v a).inDoubt ∧
    (u.dropRec v.drop).outToggle = (((s.dropRec v.drop).answered v a).settle v a).outToggle ∧
    (u.dropRec v.drop).slots = (((s.dropRec v.drop).answered v a).settle v a).slots := by
  rw [State.takeAnswer, State.returnIfAway_stays (.inl online)] at hu
  obtain ⟨settled, -⟩ := s.settleAnswer_facts v a rfl
  obtain ⟨taken, -⟩ := (s.settleAnswer v a).takeInbound_facts v.drop a hu
  rw [taken, settled]
  exact ⟨rfl, rfl, rfl⟩

end

/-- Settles O59: what every good answer leaves, then the return, the settlement and the inbound frame. -/
theorem goodAnswersSettleTheVisit : Obligations.GoodAnswersSettleTheVisit := by
  unfold Obligations.GoodAnswersSettleTheVisit
  refine ⟨answerGood_iff, fun l a v s visit counts own good => ⟨⟨fun i t f sent => deliveredFrame_body sent,
    fun q sent doubt => deliveredFrame_doubt sent doubt, deliveredFrame_bare⟩, ?_⟩⟩
  have record : (s.endVisit l).dropRec v.drop = s.dropRec v.drop := s.endVisit_dropRec l v.drop
  have orders : (s.endVisit l).orders = s.orders := State.setLine_orders _ _ _
  have hlc : (s.endVisit l).hlc = s.hlc := State.setLine_hlc _ _ _
  have ended : keptBut [.klc] s (s.endVisit l) := State.setLine_kept _ _ _ (by decide)
  have tdu : (s.endVisit l).tdu = s.tdu := ended .tdu (by decide)
  obtain ⟨misses, hold, kind, supply, others, lines, kept, frame⟩ := (s.endVisit l).takeAnswer_facts v a rfl
  set u := (s.endVisit l).takeAnswer v a with hu
  have online' := State.takeAnswer_online (s := s.endVisit l) (v := v) (a := a) hu.symm
  rw [record] at kind supply online'
  have line : u.line l = { s.line l with visit := none } := (lines.line l).trans (s.endVisit_line l)
  refine ⟨u, congrArg State.done (State.goodAnswer_good visit counts good), by rw [line], misses, hold, kind, supply,
    fun e he => (others e he).trans (s.endVisit_dropRec l e), line, fun k hk => (lines.line k).trans (s.endVisit_line_ne hk),
    (hlcKept.of_hlc hlc).trans kept, (ended.mono (by decide)).trans frame, fun away sync => ?_, fun i t f online sent => ?_,
    fun q online sent doubt => ?_, ?_⟩
  · have back := State.takeAnswer_back (s := s.endVisit l) hu.symm (by rw [record]; exact away) sync
    rw [State.session, tdu] at back
    exact back
  · obtain ⟨noDoubt, toggle, slots⟩ := online' online
    obtain ⟨a1, a2, same, free, rest⟩ := DropRecord.settle_body (r := (s.dropRec v.drop).answered v a) (a := a) sent
    unfold State.slot
    rw [noDoubt, toggle, slots]
    exact ⟨a1, a2, same, free, rest⟩
  · obtain ⟨noDoubt, toggle, slots⟩ := online' online
    obtain ⟨a1, a2, a3⟩ := DropRecord.settle_doubt (r := (s.dropRec v.drop).answered v a) (a := a) sent doubt
    unfold State.slot
    rw [noDoubt, toggle, slots]
    exact ⟨a1, a2, fun j => congrArg (fun x => vget x (slotIndex j)) a3⟩
  · rintro told rfl from_
    set w := ((s.endVisit l).returnIfAway v.drop).settleAnswer v a with hw
    have facts := (s.endVisit l).settled_facts v a hw.symm (by rw [record]; exact from_)
    rw [record, orders] at facts
    obtain ⟨sent, inToggle, busy, reply, other⟩ := facts
    obtain ⟨-, -, handed⟩ := w.takeInbound_facts v.drop a (u := u) hu.symm
    refine ⟨fun old => ?_, fun c fields present body fresh => ?_⟩
    · have stays : u = w := State.takeInbound_repeat (old.imp_right fun ⟨online, seen⟩ => by rw [inToggle, if_pos online, seen])
      rw [stays]
      exact ⟨sent, inToggle, busy, reply, other⟩
    · have new : (w.dropRec v.drop).inToggle ≠ some (answerToggle a) := by
        rw [inToggle]
        split
        · rename_i online; exact fresh online
        · nofun
      obtain ⟨toggle, goes, refused⟩ := handed c fields present body new
      refine ⟨toggle, fun free => ?_, fun request out noReply => ?_⟩
      · have open' : isRequestCode c.toNat = false ∨ (w.dropRec v.drop).requestOutstanding = false := by
          rcases free with h | h | h
          · exact .inl h
          · by_cases replied : ∃ x, deliveredFrame (s.dropRec v.drop) v a = some (.reply x)
            · exact .inr (reply replied)
            · exact .inr ((other (not_exists.1 replied)).trans h)
          · exact .inr (reply h)
        obtain ⟨b1, b2, b3⟩ := goes open'
        exact ⟨b1.trans (congrArg (· ++ _) sent), b2, b3.trans busy⟩
      · obtain ⟨b1, b2, b3⟩ := refused request ((other noReply).trans out)
        exact ⟨b1.trans sent, b2, b3⟩

end Sys2Proof.Machine
end
